-- ==== Sys2Proof/Word.lean ====
section
/-! DEFINITION. The word types of the switch (00 R6: registers are 64 bits, bit 0 the least significant)
and the sparse table that holds every large array of the model. -/

namespace Sys2Proof

/-- A register, a descriptor argument or a data word (00 R6). -/
abbrev Word := BitVec 64

/-- One byte. -/
abbrev Byte := BitVec 8

/-- A sparse table: pairs (key, value) in one canonical form, keys strictly rising and no pair whose
value is the table's default. The default stands at each use (Machine/Tbl.lean). -/
abbrev Tbl (α : Type) := List (Nat × α)

/-- What a read of host memory returns (02 R62): the 64-bit words read, or `none` for an error or
poison. -/
abbrev ReadData := Option (List Word)

end Sys2Proof
end

