-- ==== Sys2Proof/Types.lean ====
section
/-! DEFINITION. The operand types of the commands: what a register access, a host memory read, a link
partner, a slot or a pin brings with it. Each is plain data. -/

namespace Sys2Proof

/-- A PCIe function of the switch: the management PF or a light VF (12 R332). -/
inductive Fn where
  | pf
  | vf (v : Nat)
deriving DecidableEq, Repr

/-- A command ring: manager ring 0 or 1 (02 R49) or a tenant ring (12 R343). -/
inductive RingId where
  | mring (m : Nat)
  | tenant (v : Nat)
deriving DecidableEq, Repr

/-- A command descriptor, field by field (02 R56). -/
structure Desc where
  opcode : BitVec 16
  flags : Byte
  tag : BitVec 32
  ownEpoch : Word
  objectId : Word
  expectVersion : Word
  arg0 : Word
  arg1 : Word
  arg2 : Word
  arg3 : Word
deriving DecidableEq, Repr

/-- A completion, field by field (02 R59). `ring` is the RING field. -/
structure Cpl where
  tag : BitVec 32
  status : BitVec 16
  clamped : Bool
  newVersion : Nat
  result : Word
  seq : Nat
  descIndex : Nat
  ring : Nat
deriving DecidableEq, Repr

/-- What puts the switch into cold reset (01 R39, 18 R448, 15 R396). -/
inductive ColdCause where
  | pin        -- RESET_N falls
  | powerOn    -- the AON rails come up
  | request    -- GLB_RESET with COLD
deriving DecidableEq, Repr

/-- The non-AON rails that have a monitor (18 R445, R448). -/
inductive Rail where
  | vddCore | vddaPl | vddhPl | vddaOl | vddhOl | vddPll | vppMem | vddMem | vddqMem | vddio1v8
deriving DecidableEq, Repr

/-- An image as it is read (17 R423): the first two words of its header, BODY_HASH, and what cryptography finds: the
hash of PUBLIC_KEY is that of the OTP key slot that KEY_INDEX names, SIGNATURE verifies, and the body has BODY_HASH. -/
structure ImageHdr where
  w0 : Word
  w1 : Word
  hash : List Word
  keyOk : Bool
  sigOk : Bool
  bodyOk : Bool
deriving DecidableEq, Repr

/-- One image slot of the flash: the image, and SEQ of the slot record if it has its marker (17 R423). -/
structure SlotImage where
  hdr : ImageHdr
  seq : Option Nat
deriving DecidableEq, Repr

/-- One copy of the calibration overlay in the flash (17 R436). -/
structure OverlayCopy where
  crcOk : Bool
  erased : Bool
  seq : Nat
  entries : List (Nat × Nat)
deriving DecidableEq, Repr

/-- One descriptor of the image's configuration script with the argument data it names (17 R471). -/
structure ScriptItem where
  desc : Desc
  data : ReadData
  data2 : ReadData
  offset : Nat
deriving DecidableEq, Repr

/-- What the boot flash, OTP and the self-tests hold when a bring-up phase ends (01 R39; 07 R217; 17 R424, R425, R436):
`svFuses` are the 64 fuses of the OTP minimum, `sprigCode` and `sprigData` the image's default placement sprig, and `gpioIn` and
`gpioPull` the GPIOs that the image makes inputs and gives a pull-down (18 R454). -/
structure BootInfo where
  slotA : SlotImage
  slotB : SlotImage
  svFuses : Word
  keyRevoked : BitVec 4
  debugFuse : Bool
  script : List ScriptItem
  selfTestOk : Bool
  failedUnits : List (Nat × Nat)
  overlay0 : OverlayCopy
  overlay1 : OverlayCopy
  sprigCode : List Word
  sprigData : List Word
  gpioIn : BitVec 32
  gpioPull : BitVec 32
  coreRoutes : List (Nat × Nat × Bool)
  coreVecs : List (Nat × Nat × Nat)
deriving DecidableEq, Repr

/-- CXL MetaValue (06 R178). -/
inductive MetaVal where
  | I | S | A
deriving DecidableEq, Repr

/-- The kinds of request that reach an ingress (05 R150, 06 R169). `memWr m` carries MetaValue `m`. -/
inductive ReqKind where
  | memRd (m : MetaVal)
  | memInv
  | memClnEvict
  | memWr (m : MetaVal)
  | pcieRd
  | pcieWr
  | atomic
  | cacheReq
deriving DecidableEq, Repr

/-- How a request finds its DID (04, Routing tables and generations): through the map, by the memory
ranges of its virtual switch, by its PID, or by bus number. -/
inductive Route where
  | aperture (host : Nat)          -- an address of host `host` that no memory range of its virtual switch holds (05 R138)
  | range (host : Option Nat) (did : Nat)  -- one that a memory range of the virtual switch gives to `did`: of host `host`, or
                                   -- none for a request of a device below it
  | upstream (f : Fn)              -- up to the host through function `f` (05 R140)
  | pid (did : Nat)                -- port-based routing: the PID is the DID
  | bus (vs : Nat) (bus : Nat)     -- ID-routed through the bus table (04 R117)
deriving DecidableEq, Repr

/-- A request at an ingress (04 R115 numbers ingresses as egresses). `vf` names the VF for which a
level-2 access is made (05 R139, R141); `remote` is the source switch, source ingress and tag of one that came over a
link (11 R313, R314), and `intx` the pin (1-4) and state of a TLP that is an INTx message (11 R327);
`unlock` marks an Unlock message (11 R325). `hdr` is the header as decoded, in words (04 R132), and `data` the bytes from
`addr` on, eight to a word, the lowest address in the low byte. -/
structure Request where
  ingress : Nat
  route : Route
  level : Nat
  vf : Option Nat
  fetch : Bool
  kind : ReqKind
  addr : Nat
  len : Nat
  tc : Nat
  tag : Nat
  poison : Bool
  locked : Bool
  remote : Option (Nat × Nat × Nat)
  intx : Option (Nat × Bool)
  unlock : Bool
  data : List Word
  hdr : List Word
deriving DecidableEq, Repr

/-- The result of reading an ECC-protected word (04 R104, R108; 05 R159). -/
inductive Ecc where
  | ok | corrected | uncorrectable
deriving DecidableEq, Repr

/-- What the hardware meets on the way of one request: ECC results of the window table, the map
cache and the map store, the last for the entry of part `storePart` (05 R159), the bank whose next beat write fails
(04 R107), a full telemetry update queue
(07 R191), a failed protocol check (15 R394). `routeEcc` is the result of reading the port's routing-table copy,
`telBad` an uncorrectable word of the page's heat entry, and `memRetry` the half of the on-package memory whose access
was repeated (15 R394). -/
structure PathHw where
  winEcc : Ecc
  cacheEcc : Ecc
  storeEcc : Ecc
  storePart : Nat
  writeFail : Option Nat
  telFull : Bool
  malformed : Bool
  routeEcc : Ecc
  telBad : Bool
  memRetry : Option Nat
deriving DecidableEq, Repr

/-- The status a response carries (05 R150, 03 R79); `denied` and `unmapped` are what the switch returns to a unit of its
own that issued an access (05 R150). -/
inductive RspKind where
  | data | cmp | cmpE | unsupported | abort | poison | denied | unmapped
deriving DecidableEq, Repr

/-- A response arriving from a target: the port it enters by, the transaction number of the request it
answers, its kind and data (01 R29), its header as decoded (04 R132) and the bank whose next beat write fails (04 R107). -/
structure Response where
  ingress : Nat
  txn : Nat
  kind : RspKind
  data : List Word
  hdr : List Word
  writeFail : Option Nat
deriving DecidableEq, Repr

/-- A word that is not good in a cell that is read (04 R104, R108): the cell of the transaction, counted from its first, the
word of the cell, what its ECC says, and whether the word holds a part of the header. -/
structure WordRead where
  cell : Nat
  word : Nat
  ecc : Ecc
  inHeader : Bool
deriving DecidableEq, Repr

/-- What the read of a transaction's cells meets at dequeue (04 R108): the words that are not good, and the ECC result of
the link memory, which holds the queue's order (15 R394). -/
structure ReadHw where
  words : List WordRead
  link : Ecc
deriving DecidableEq, Repr

/-- What reading a replay buffer meets (11 R318, 15 R394): the position in the buffer of a flit whose word is not
good, the ECC result of that word, and that of the flow record's word for its message. -/
structure ReplayHw where
  flit : Nat
  ecc : Ecc
  record : Ecc
deriving DecidableEq, Repr

/-- A link power state change (03 R97), coded as PORT_STATUS.PWR. -/
inductive PwrState where
  | l0 | l0p (width : Nat) | l1 | l11 | l12 | l2
deriving DecidableEq, Repr

/-- The fields of a port's configuration space whose value the spec gives (03 R80, R97, R100; 14 R376): the exit latency of a
power state, the AER status, the ACS controls, the payload and read request sizes, and the hot-plug slot status. -/
inductive CfgField where
  | exitLatency (st : PwrState)
  | aer | acs | maxPayload | maxRead | slotStatus
deriving DecidableEq, Repr

/-- A configuration or DOE request to a function behind a port (03 R80, R100, 12 R332, 15 R395). The fields of
configuration space that the spec gives an effect are named; the rest is `other`. -/
inductive CfgOp where
  | read (off : Nat)
  | field (f : CfgField)
  | aerClear (m : BitVec 32)             -- writing one clears a logged error
  | acs (v : BitVec 7)                   -- the seven ACS controls
  | maxPayload (code : Nat)
  | maxRead (code : Nat)
  | powerFaultClear
  | other (off : Nat) (v : Word)
  | busMaster (on : Bool)
  | functionMask (on : Bool)
  | entryMask (vec : Nat) (on : Bool)
  | sriov (enable : Bool) (numVfs : Nat)
  | dpcEnable (on : Bool)
  | attnInd (v : Nat)
  | slotSignal (vs vppb signal v : Nat)  -- PERST (16) or the attention indicator (17) of a bound vPPB (11 R327)
  | doe
deriving DecidableEq, Repr

/-- A kind of device that enumerates behind a port (03 R81; 06 R164): CXL devices of types 1 and 2, memory devices of type 3
with HDM-H or HDM-DB memory, G-FAM devices, and any other. -/
inductive DevKind where
  | none | type1 | type2 | hdmH | hdmDb | gfam | other
deriving DecidableEq, Repr

/-- What breaks, or does not break, the symbol lock of a lane (03 R87): the symbols with a code or disparity error, by number; the
sync headers as they came, valid or not; or what a flit-mode port finds: symbols that FEC corrected, flits that failed their CRC,
replays that it sent, and whether PCIe has it recover. -/
inductive LockEvent where
  | quiet
  | symbols (errs : List Nat)
  | headers (good : List Bool)
  | flits (fec crc replays : Nat) (recover : Bool)
deriving DecidableEq, Repr

/-- What the receiver of a lane finds: what its signal detector shows, and what befalls its symbol lock (03 R87, R102). -/
structure LaneSeen where
  signal : Bool
  ev : LockEvent
deriving DecidableEq, Repr

/-- Where a DETACH goes on (06 R167): at the switch that the command names, `farDone` telling that the other homes of the domain
have ended their walks; or at this home, for one at another switch, whose participant is `part`. -/
inductive DetachAt where
  | here (farDone : Bool)
  | away (domain part : Nat)
deriving DecidableEq, Repr

/-- A block of a slot's data memory: the register that addresses it, and what the reads of its words met (07 R208, R211). -/
structure MemBlock where
  ra : Nat
  ecc : List Ecc
deriving DecidableEq, Repr

/-- What training and negotiation found when a port reaches L0 (03 R81-R86); bit i of `inverted` is the lane i places above the
port's lowest, `flit256` is set if both ends support 256-byte CXL flits, and `lds` counts the logical devices of a
multi-logical device. -/
structure LinkInfo where
  rate : Nat
  width : Nat
  flit : Bool
  proto : Nat
  partnerCxl : Bool
  backInval : Bool
  cache : Bool
  reversed : Bool
  device : DevKind
  inverted : Nat
  flit256 : Bool
  lds : Nat
deriving DecidableEq, Repr

/-- A request as it reaches the home (06 R175-R178): the line, the participant it comes from, if any,
what the directory lookup met, and the bytes of the line that a write brings, from byte `off` of it on. -/
structure HomeReq where
  dla : Nat
  domain : Nat
  participant : Option Nat
  md : MetaVal
  posted : Bool
  source : Nat
  remote : Bool
  ecc0 : Ecc
  ecc1 : Ecc
  tag : Nat
  off : Nat
  len : Nat
  poison : Bool
  data : List Word
deriving DecidableEq, Repr

/-- The snoop answers of a host (06 R178). -/
inductive BiRsp where
  | I | S | E
deriving DecidableEq, Repr

/-- Which acknowledgement of R175 arrives at the home. -/
inductive AckKind where
  | requester | writeback | expander
deriving DecidableEq, Repr

/-- What another switch answers to a fabric-wide command in its two phases (10 R308). `check` is none
for silence, some 0 for a passed check, else the failing code. -/
structure SwitchAnswer where
  switch : Nat
  check : Option Nat
  applied : Bool
deriving DecidableEq, Repr

/-- An Obmulum flit header (10 R277). -/
structure FlitHdr where
  seq : Nat
  ack : Nat
  vc : Nat
  cvc : Nat
  credit : Nat
  cong : Bool
  back : Nat
deriving DecidableEq, Repr

/-- The snoops of the home (06 R178). -/
inductive Snoop where
  | inv | data | cur
deriving DecidableEq, Repr

/-- What a transaction at the home does (06 R178). -/
inductive HomeKind where
  | readS | readOwn | readI | memInv | ncRead | ncWrite | writeback (keepS : Bool) | cleanEvict | evict
deriving DecidableEq, Repr

/-- The content unit of MKIND 6-8 (11 R327). -/
structure Signal where
  signal : Nat
  state : Nat
  port : Nat
  channel : Nat
  vs : Nat
  vppb : Nat
  changes : Nat
deriving DecidableEq, Repr

/-- What a transaction in the Great Hall, or a Stairwell message, carries (11 R314, R327). -/
inductive Body where
  | req (r : Request) (devAddr : Nat)                 -- a request toward its target
  | rsp (pcie : Bool) (kind : RspKind) (data : List Word)  -- a response toward its requester
  | home (pcie : Bool) (r : HomeReq) (k : HomeKind)   -- an access to a domain line, toward its home
  | grant (own : Bool) (shared : Bool) (data : Option (Bool × List Word)) (dla : Nat)  -- the home's answer to a caching access,
                                                      -- with the line's data and whether they are poisoned
  | snoop (k : Snoop) (dla participant : Nat)
  | biRsp (dla participant : Nat) (ans : BiRsp)
  | biConflict (r : HomeReq)
  | biConflictAck (dla : Nat)
  | notice (dla : Nat)
  | homeRead (dla : Nat)                              -- the home reads the expander
  | homeWrite (dla off len : Nat) (poison : Bool) (data : List Word)
  | signal (resync : Bool) (x : Signal)
  | unlock                                            -- the owner's Unlock (11 R325)
  | record (addr : Nat) (words : List Word) (poison : Bool)  -- a capture record on its way to the ring (04 R132, R133)
  | gap
deriving DecidableEq, Repr

/-- A Stairwell message (11 R313, R314, R327): header unit 0 with its channel (R284), and the decoded fields of unit 1
with the data. `dest` is DEST_PID, `tag` the TAG that a response brings back. -/
structure Msg where
  mkind : Nat
  flags : Byte
  fseq : Nat
  pfence : Nat
  srcIngress : Nat
  srcSwitch : Nat
  dest : Nat
  tc : Nat
  destSwitch : Nat
  dataUnits : Nat
  notice : Nat
  vc : Nat
  posted : Bool
  tag : Nat
  body : Body
deriving DecidableEq, Repr

/-- The units of one flit payload that finish or continue messages (10 R278, R282): how many units of a
message this flit brings, and the message that is whole at its end. -/
structure FlitPart where
  units : Nat
  whole : Option Msg
deriving DecidableEq, Repr

/-- A bypass micro-flit (10 R288, R290). -/
structure MicroFlit where
  bseq : Nat
  back : Nat
  mtype : Nat
  part : Nat
  last : Bool
  dest : Nat
  src : Nat
  content : List Word
deriving DecidableEq, Repr

/-- The peer's INIT message (10 R290 MTYPE 5). -/
structure InitInfo where
  rxExpect : Nat
  brxExpect : Nat
  fresh : Bool
  switchId : Nat
  mgrSel : Bool
  native : Bool
  link : Nat
  adv : List Nat
  epoch : Nat
deriving DecidableEq, Repr

/-- The stages of link training (10 R291); alignment finds the reversal of the link and which of its lanes arrive inverted. -/
inductive TrainStep where
  | lanesReady | signal | aligned (width : Nat) (high reversed : Bool) (inverted : Nat) | equalized | fail
deriving DecidableEq, Repr

/-- How one mover line completes (08 R229, R237). -/
inductive LineResult where
  | ok | poison | denied | unmapped | targetError
deriving DecidableEq, Repr

/-- What happens to a line of a mover: the mover issues its next line, the write of the oldest line whose data have come
is sent, or the oldest line whose outcome has come completes (08 R222, R237, R246). -/
inductive LineEvent where
  | issue
  | sent
  | complete
deriving DecidableEq, Repr

/-- One 10 µs sample of a slot channel (14 R375-R377, R380-R383). `diode` is none when the diode reads
open, shorted or reversed; the wiring flags are those of R383 after their 100 µs filters. -/
structure SlotMeas where
  iMa : Int
  vinMv : Int
  voutMv : Int
  diode : Option Int
  senseOpen : Bool
  shuntReversed : Bool
  unseated : Bool
  fastOver : Bool
  dischargeTimeout : Bool
deriving DecidableEq, Repr

/-- The kind of an SPDM request (17 R430-R432). -/
inductive SpdmOp where
  | getMeasurements (index : Nat)
  | keyExchange
  | endSession
  | keyProg (stream : Nat)
  | setCertificate (slot : Nat)
  | other
deriving DecidableEq, Repr

end Sys2Proof
end

