-- ==== Sys2Proof/Syntax.lean ====
section
/-! DEFINITION. The commands of the switch: one constructor per row of spec/opcode_table.json, in its
order. The table gives no operands: each constructor's operands are what the rule it cites says the
command brings with it. `seq` names a sequenced command by its arrival number (02 R63). -/

namespace Sys2Proof

inductive Instr where
  /-- R39. RESET_N low, a power-on or a cold-reset request resets the switch and starts bring-up from phase 1. -/
  | coldReset (cause : ColdCause)
  /-- R448. A non-AON rail below 90 % of its minimum for 10 µs puts the switch into cold reset. -/
  | supplyMonitorTrip (rail : Rail)
  /-- R39. A bring-up phase ends and the next phase of the bring-up table starts. -/
  | bringUpPhase (boot : BootInfo)
  /-- R307. Every enabled link reaches a final training state, or 200 ms pass after READY, and the ownership epoch becomes settled. -/
  | epochSettled
  /-- R469. A GLB_RESET write with a valid key and WARM starts a warm reset. -/
  | glbResetWarm (v : Word)
  /-- R47. A GLB_RESET write with a valid key and COLD starts a cold reset. -/
  | glbResetCold (v : Word)
  /-- R450. A falling edge on WRST_N starts a warm reset. -/
  | wrstN
  /-- R394. A management core faults or fails its watchdog, and the switch performs a warm reset. -/
  | mcFault (core : Nat)
  /-- R469. The 10 ms drain interval of a warm reset ends: remaining transactions end, links go down, and the reset is applied. -/
  | warmResetDrainEnd
  /-- R444. A sensor reads 120 °C or more for 100 µs, so THERMTRIP_N is asserted and every port and link goes down. -/
  | thermtrip (sensor : Nat)
  /-- R394. The junction temperature rises above 105 °C, which raises the advisory class and sets FLT_CONDITIONS.TEMP. -/
  | tempHigh (sensor : Nat)
  /-- R27. A rate monitor stays below the slow-corner rate for more than 1 ms, which raises the fault class. -/
  | coreRateLow (monitor : Nat)
  /-- R439. The 100 µs voltage loop reads the monitors and writes a new VDD_CORE request over AVSBus. -/
  | vddCoreLoop (ppm monitor : Nat) (ack : Bool) (readback : Nat)
  /-- R394. AVSBus gives no acknowledgement for 1 ms, or the readback leaves its range, which raises SUPPLY. -/
  | supply (readback : Option Nat)
  /-- R10. An aligned 64-bit write to a register with no behaviour of its own applies its access codes and range clamps. -/
  | registerWrite (fn : Fn) (bar off : Nat) (v : Word)
  /-- R7. A narrow or unaligned register access has no effect, or reads zero, and is reported as a clamp. -/
  | narrowAccess (fn : Fn) (bar off : Nat) (write : Bool) (v : Word)
  /-- R48. A write to the report ring control applies ENABLE, size and vector under the enable rules. -/
  | glbCfgrptCtrlWrite (v : Word)
  /-- R74. Software advances CONSUMED of the report ring, and an illegal value is clamped. -/
  | glbCfgrptTailWrite (v : Word)
  /-- R51. A write to a manager ring's CTRL enables or disables the ring and commits its registers. -/
  | cmdMringCtrlWrite (m : Nat) (v : Word)
  /-- R54. A doorbell write of the submission tail is accepted or clamped. -/
  | sqTail (m : Nat) (v : Word)
  /-- R54. A doorbell write of the completion head is accepted or clamped. -/
  | cqHead (m : Nat) (v : Word)
  /-- R55. The switch fetches a descriptor when it is covered by the doorbell and a completion slot and a ring slot are free. -/
  | descriptorFetch (ring : RingId) (d : Option Desc)
  /-- R468. Bus Master Enable returns or the upstream port comes up, and the held host-memory records are written in order. -/
  | heldRecordFlush (fn : Fn) (portUp : Bool)
  /-- R71. A command that does nothing but complete. -/
  | nop (seq : Nat)
  /-- R68. The command raises CMD_OWN_EPOCH, discards staged copies and forwards the epoch to workers. -/
  | epochClaim (seq : Nat)
  /-- R71. The command returns an object's version, staging flag and generation. -/
  | objQuery (seq : Nat)
  /-- R69. The command publishes a staging copy, incrementing the version and the generation. -/
  | objCommit (seq : Nat) (hashOk : Bool)
  /-- R69. The command discards a staging copy. -/
  | objAbort (seq : Nat)
  /-- R122. Every ingress stamps the new generation, so the commit completes. -/
  | generationCommitDone (seq : Nat)
  /-- R123. The command waits until the named generation and older ones have no transactions in flight. -/
  | tblDrain (seq : Nat)
  /-- R118. The command writes DID or bus table entries into the routing table's staging copy. -/
  | rtWrite (seq : Nat) (data : ReadData)
  /-- R114. The command sets a traffic class's dynamic threshold exponent. -/
  | ghThreshSet (seq : Nat)
  /-- R129. CAP_CONFIG sets one capture filter's match fields and sampling. -/
  | capConfigFilter (seq : Nat)
  /-- R131. CAP_CONFIG sets or enables the capture ring. -/
  | capConfigRing (seq : Nat)
  /-- R134. Software advances CAP_TAIL, and an illegal value is clamped. -/
  | capTailWrite (v : Word)
  /-- R142. The command writes a window entry or the aperture header into the staging copy. -/
  | winWrite (seq : Nat)
  /-- R155. The command locks a committed window entry, and its map too if asked. -/
  | winLock (seq : Nat)
  /-- R154. The command waits until no access under an older protection epoch is in flight. -/
  | winEpochFence (seq : Nat)
  /-- R146. The command writes map entries into the issuer's staging set. -/
  | mapWrite (seq : Nat) (data : ReadData)
  /-- R163. DIR_SHARE_SET DEFINE reads a domain record and defines the domain on every switch. -/
  | define (seq : Nat) (data : ReadData) (answers : List SwitchAnswer)
  /-- R166. DIR_SHARE_SET ATTACH attaches a window entry to a domain and sets SHARED. -/
  | attach (seq : Nat)
  /-- R167. DIR_SHARE_SET DETACH removes an attachment and snoops the host's lines. -/
  | detach (seq : Nat) (site : DetachAt)
  /-- R168. DIR_SHARE_SET DESTROY removes an unattached domain. -/
  | destroy (seq : Nat) (answers : List SwitchAnswer)
  /-- R168. DIR_SHARE_SET READMIT clears a participant's cut-off mark. -/
  | readmit (seq : Nat) (answers : List SwitchAnswer)
  /-- R171. The command sets the homes and interleave granule of a domain. -/
  | dirPartitionSet (seq : Nat) (answers : List SwitchAnswer)
  /-- R181. DIR_QUOTA_SET on the home parameters sets the ageing thresholds and the snoop timeout. -/
  | dirQuotaSetHome (seq : Nat)
  /-- R182. DIR_QUOTA_SET on a domain quota sets its ways per set at a home. -/
  | dirQuotaSetDomain (seq : Nat)
  /-- R308. Every 10 ms the manager switch sends an unapplied fabric-wide command again to each silent switch. -/
  | fabricApplyResend (sw : Nat) (applied : Bool)
  /-- R308. A switch joins the fabric and adopts the manager switch's domains, partitions, cut-off marks and fabric parameters. -/
  | switchJoin (sw : Nat) (defs : ReadData)
  /-- R200. The command reads code and data into a stopped slot's staging copy. -/
  | sprigLoad (seq : Nat) (code data : ReadData)
  /-- R201. The command starts a slot, or re-adopts a running slot with KEEP. -/
  | sprigStart (seq : Nat)
  /-- R202. The command stops a slot and discards its queued proposals. -/
  | sprigStop (seq : Nat)
  /-- R215. The command sets the commit unit's limits. -/
  | commitLimitsSet (seq : Nat)
  /-- R198. The command sets sampling, epoch length, decay and the hot threshold. -/
  | telConfig (seq : Nat)
  /-- R239. The command starts the live migration of one page. -/
  | pageMigrate (seq : Nat)
  /-- R226. The command checks a descriptor array, applies the pool descriptors and queues the jobs. -/
  | moveSubmit (seq : Nat) (data : ReadData)
  /-- R232. The command sets a credit class's arbitration fields or clears its stuck mark. -/
  | arbClassSet (seq : Nat)
  /-- R255. The command sets a queue's weight or an egress's histogram settings. -/
  | queueSet (seq : Nat)
  /-- R266. The command sets a policer's ingress, classes, rates and bursts. -/
  | policerSet (seq : Nat)
  /-- R257. The command sets a queue or egress shaper. -/
  | shaperSet (seq : Nat)
  /-- R258. The command writes gate control list entries or the header into the staging copy. -/
  | gclWrite (seq : Nat) (data : ReadData)
  /-- R77. The command sets a block's bifurcation and the settings of each port. -/
  | portConfig (seq : Nat)
  /-- R79. The command takes a port down and either holds it or retrains it. -/
  | portReset (seq : Nat)
  /-- R89. The command sets PRBS, loopback and error injection on an out-of-service lane. -/
  | laneTest (seq : Nat)
  /-- R94. The command scans a lane's eye with the offset sampler and waits for the result. -/
  | eyeScan (seq : Nat)
  /-- R95. A scan finishes or is aborted, and its header is written. -/
  | eyeScanEnd (lane seq : Nat) (last : Bool) (counts : List Nat)
  /-- R274. OBL_CONFIG on a link sets its enable, timers, sleep and channel limits. -/
  | oblConfigLink (seq : Nat)
  /-- R275. OBL_CONFIG on a route entry sets the primary and alternate links toward a switch. -/
  | oblConfigRoute (seq : Nat)
  /-- R275. OBL_CONFIG on the fabric parameters sets the heartbeat, manager loss time and standby switch. -/
  | oblConfigFabric (seq : Nat) (answers : List SwitchAnswer)
  /-- R330. The command sets a link's NPW_MAX and lock timeout, or a sideband binding. -/
  | stwConfig (seq : Nat)
  /-- R336. The command reads a record, reserves resources and creates a VF with a new instance epoch. -/
  | vfCreate (seq : Nat) (data : ReadData)
  /-- R337. The command drains a VF, returns its resources and sets its version to 0. -/
  | vfDestroy (seq : Nat)
  /-- R361. VEC_CONFIG sets an event line's host vector and HOST_EN. -/
  | vecConfigLine (seq : Nat)
  /-- R361. VEC_CONFIG sets a host vector's COUNT_MAX and TIME. -/
  | vecConfigVector (seq : Nat)
  /-- R367. The command sets a channel's policy. -/
  | slotPolicySet (seq : Nat)
  /-- R368. SLOT_POLICY_SET with KIND 1 sets the channel's thermal model. -/
  | slotThermalModelSet (seq : Nat)
  /-- R372. The command releases a channel on the Landing to WAITING. -/
  | slotRelease (seq : Nat)
  /-- R373. The command turns a channel off, or cancels its retry. -/
  | slotOff (seq : Nat)
  /-- R370. The command writes all eight breaker treads. -/
  | slotTreadsSet (seq : Nat)
  /-- R373. The command ends a channel's lockout. -/
  | slotUnlock (seq : Nat)
  /-- R403. The command takes a unit out of service. -/
  | unitRetire (seq : Nat)
  /-- R403. The command self-tests a retired unit and returns it to service. -/
  | unitReturn (seq : Nat) (testOk : Bool)
  /-- R403. At the next telemetry epoch boundary or decision point, a returned unit joins traffic. -/
  | unitJoin (unit : Nat)
  /-- R420. The command sets Thyme's priorities, slew, holdover and pulse settings. -/
  | timeConfig (seq : Nat)
  /-- R417. TIME_CONFIG with SET arms a TAI seconds count for the next edge or whole second. -/
  | set (seq : Nat)
  /-- R437. The command writes calibration overlay entries into the staging copy. -/
  | calWrite (seq : Nat) (data : ReadData)
  /-- R438. The command erases both overlay copies and applies factory calibration. -/
  | calRestoreFactory (seq : Nat)
  /-- R426. The command reads and checks a new image and stages its address and hash. -/
  | imageUpdate (seq : Nat) (image : Option ImageHdr)
  /-- R428. A flash operation (image commit, overlay commit, erase) finishes, and the next queued one starts. -/
  | flashOpDone (ok : Bool)
  /-- R429. SEC_FLASH_CMD OP 1 erases a 64 KiB sector during image-failure recovery. -/
  | flashEraseSector (v : Word)
  /-- R429. SEC_FLASH_CMD OP 2 programs 256 bytes from SEC_FLASH_BUF. -/
  | flashProgram (v : Word)
  /-- R429. SEC_FLASH_CMD OP 3 reads 256 bytes into SEC_FLASH_BUF. -/
  | flashRead (v : Word)
  /-- R58. A forwarded command receives no answer within 10 ms and completes with TIMEOUT. -/
  | forwardTimeout (seq : Nat)
  /-- R58. A forwarded command descriptor arrives at its worker, or at the manager switch from a proxy ring, and is sequenced. -/
  | cmdFwd (src : Nat) (d : Desc)
  /-- R58. A forwarded completion arrives and completes the original command. -/
  | cplFwd (seq : Nat) (cpl : Cpl)
  /-- R306. An EPOCH message arrives at a worker, which takes the manager switch's epoch. -/
  | epoch (e : Word)
  /-- R148. A request arrives at an ingress and is decoded, translated, checked, metered and admitted to a queue. -/
  | hostRequest (r : Request) (hw : PathHw)
  /-- R265. A held red request is metered again once its peak bucket holds enough, and is admitted. -/
  | policerRelease (p : Nat)
  /-- R158. A map-cache miss fetch returns from on-package memory and the access continues. -/
  | mapCacheMissFill (hw : PathHw)
  /-- R29. A response or completion arrives and is routed back on the mirror path. -/
  | responseArrival (r : Response)
  /-- R253. An egress picks the selectable queue with the smallest finish tag and sends its head. -/
  | egressSelect (e : Nat) (hw : ReadHw)
  /-- R125. A retiring bank's cells have all been relocated, the pool shrinks, and the next retirement starts. -/
  | bankRelocationDone
  /-- R133. A mover writes buffered capture records to the capture ring. -/
  | captureRecordWrite
  /-- R100. A configuration or DOE request is emulated by the port engine. -/
  | configRequest (port : Nat) (fn : Fn) (op : CfgOp)
  /-- R101. A port engine stops and restarts from the image. -/
  | portEngineStop (port : Nat)
  /-- R101. A port engine's restart completes and held configuration requests complete. -/
  | portEngineRestartDone (port : Nat)
  /-- R96. A link partner's receiver margining command uses, or waits for, the offset sampler. -/
  | marginingCommand (lane : Nat) (start : Bool)
  /-- R82. A released port finishes training and negotiation and reaches L0. -/
  | linkUp (port : Nat) (info : LinkInfo)
  /-- R83. Equalization fails at a rate, so the port retries or settles lower and caps its rate. -/
  | equalizationFail (port rate : Nat) (second : Bool)
  /-- R79. A port loses its link, and its waiting requests and posted writes end. -/
  | portDown (port : Nat)
  /-- R395. Software clears DPC Trigger Status, which releases the port. -/
  | dpcRelease (port : Nat)
  /-- R87. A lane loses symbol lock and the LTSSM enters Recovery. -/
  | symbolLockLost (lane : Nat) (seen : LaneSeen)
  /-- R84. A retrain through Recovery ends at its new width without taking the link down. -/
  | recoveryRetrainDone (port width : Nat)
  /-- R98. Transmit utilisation stays below 25 % for 100 µs and the port halves its width. -/
  | l0pNarrow (port : Nat)
  /-- R98. The egress queues stay non-empty for 1 µs and the port restores full width. -/
  | l0pRestore (port : Nat)
  /-- R97. The link enters or leaves L1, L1 substates, L0p or L2 at a partner request. -/
  | linkPowerState (port : Nat) (dst : PwrState)
  /-- R88. A quadrant's reference clock is lost and its ports and links go down. -/
  | refclkLost (q : Nat)
  /-- R88. A quadrant's reference returns and its ports and links retrain. -/
  | refclkReturn (q : Nat)
  /-- R457. An upstream port's PERST_N input is asserted or released, holding or releasing the port. -/
  | portPerstN (port : Nat) (asserted : Bool)
  /-- R178. A caching read reaches the home, takes the block, snoops as needed and grants the line. -/
  | cachingRead (r : HomeReq)
  /-- R178. A MemInv reaches the home and is granted ownership without data. -/
  | meminv (r : HomeReq)
  /-- R176. A writeback from a holder is applied inside the current block and completed. -/
  | writeback (r : HomeReq)
  /-- R178. A clean evict removes the host from the line's holders. -/
  | cleanEvict (r : HomeReq)
  /-- R178. A non-caching domain read reads the expander, snooping the owner for the current value. -/
  | nonCachingRead (r : HomeReq)
  /-- R178. A non-caching domain write invalidates all holders and writes the expander. -/
  | nonCachingWrite (r : HomeReq)
  /-- R177. A BIConflict is answered at once with BIConflictAck. -/
  | biconflict (r : HomeReq)
  /-- R178. A snoop response arrives at the home and the transaction continues. -/
  | birsp (dla participant : Nat) (ans : BiRsp)
  /-- R175. The acknowledgement of a transaction arrives and the line's block is released. -/
  | completionAck (dla : Nat) (kind : AckKind) (ecc : Ecc)
  /-- R175. A delivery notice from a remote requester's switch acknowledges a caching read. -/
  | deliveryNotice (dla : Nat) (sw : Nat)
  /-- R173. A directory-cache set fetch returns from the store and the lookup continues. -/
  | dirCacheMissFill (set : Nat) (ecc0 ecc1 : Ecc) (way : Nat) (retry : Option Nat)
  /-- R185. A snoop is not answered within the timeout and the host is cut off. -/
  | snoopTimeout (dla participant : Nat)
  /-- R195. A telemetry epoch ends: TEL_EPOCH increments and counters decay. -/
  | epochBoundary
  /-- R195. The background sweep ages stale heat entries. -/
  | heatSweep (set : Nat) (bad : Option Nat)
  /-- R205. A pending cause is set and a core suspended in WAIT resumes. -/
  | sprigWake (slot : Nat)
  /-- R208. A sprig runs longer than BUDGET_US without WAIT and faults. -/
  | sprigBudgetExpiry (slot : Nat)
  /-- R205. A slot's armed timer expires and sets cause TIMER. -/
  | sprigTimerExpiry (slot : Nat)
  /-- R209. The manager rings a slot's inbound mailbox, setting IN_FULL and cause MBOX. -/
  | sageInDoorbell (slot : Nat) (v : Word)
  /-- R209. The manager writes 0 to OUT_FULL, releasing a slot's outbound mailbox. -/
  | sageOutFullClear (slot : Nat) (v : Word)
  /-- R217. A write to the proposal log control applies the enable rules. -/
  | sagePlogCtrlWrite (v : Word)
  /-- R217. Software advances the proposal log tail. -/
  | sagePlogTailWrite (v : Word)
  /-- R207. Sage instruction rd = ra + rb. -/
  | add (slot rd ra rb : Nat)
  /-- R207. Sage instruction rd = ra − rb. -/
  | sub (slot rd ra rb : Nat)
  /-- R207. Sage instruction rd = ra AND rb. -/
  | and (slot rd ra rb : Nat)
  /-- R207. Sage instruction rd = ra OR rb. -/
  | or (slot rd ra rb : Nat)
  /-- R207. Sage instruction rd = ra XOR rb. -/
  | xor (slot rd ra rb : Nat)
  /-- R207. Sage instruction shifts left by rb. -/
  | shl (slot rd ra rb : Nat)
  /-- R207. Sage instruction shifts logically right by rb. -/
  | shr (slot rd ra rb : Nat)
  /-- R207. Sage instruction shifts arithmetically right by rb. -/
  | sar (slot rd ra rb : Nat)
  /-- R207. Sage instruction gives the low 64 bits of the product. -/
  | mul (slot rd ra rb : Nat)
  /-- R207. Sage instruction gives the high 64 bits of the unsigned product. -/
  | mulhu (slot rd ra rb : Nat)
  /-- R207. Sage instruction gives the unsigned quotient, 0 for a zero divisor. -/
  | divu (slot rd ra rb : Nat)
  /-- R207. Sage instruction gives the unsigned remainder, 0 for a zero divisor. -/
  | remu (slot rd ra rb : Nat)
  /-- R207. Sage instruction gives 1 if ra < rb unsigned. -/
  | ltu (slot rd ra rb : Nat)
  /-- R207. Sage instruction gives 1 if ra < rb signed. -/
  | lt (slot rd ra rb : Nat)
  /-- R207. Sage instruction gives the unsigned minimum. -/
  | minu (slot rd ra rb : Nat)
  /-- R207. Sage instruction gives the unsigned maximum. -/
  | maxu (slot rd ra rb : Nat)
  /-- R207. Sage instruction counts the ones in ra. -/
  | popc (slot rd ra : Nat)
  /-- R207. Sage instruction counts the leading zeros of ra. -/
  | clz (slot rd ra : Nat)
  /-- R207. Sage instruction adds a sign-extended immediate. -/
  | addi (slot rd ra : Nat) (imm : BitVec 32)
  /-- R207. Sage instruction ANDs an unsigned immediate. -/
  | andi (slot rd ra : Nat) (imm : BitVec 32)
  /-- R207. Sage instruction ORs an unsigned immediate. -/
  | ori (slot rd ra : Nat) (imm : BitVec 32)
  /-- R207. Sage instruction XORs an unsigned immediate. -/
  | xori (slot rd ra : Nat) (imm : BitVec 32)
  /-- R207. Sage instruction shifts left by an immediate. -/
  | shli (slot rd ra : Nat) (imm : BitVec 32)
  /-- R207. Sage instruction shifts logically right by an immediate. -/
  | shri (slot rd ra : Nat) (imm : BitVec 32)
  /-- R207. Sage instruction shifts arithmetically right by an immediate. -/
  | sari (slot rd ra : Nat) (imm : BitVec 32)
  /-- R207. Sage instruction compares with an immediate, unsigned. -/
  | ltui (slot rd ra : Nat) (imm : BitVec 32)
  /-- R207. Sage instruction compares with an immediate, signed. -/
  | lti (slot rd ra : Nat) (imm : BitVec 32)
  /-- R207. Sage instruction places an immediate in the high half. -/
  | immhi (slot rd ra : Nat) (imm : BitVec 32)
  /-- R207. Sage instruction loads a data-memory word. -/
  | ld (slot rd ra : Nat) (imm : BitVec 32) (ecc : Ecc)
  /-- R207. Sage instruction stores a data-memory word. -/
  | st (slot ra rb : Nat) (imm : BitVec 32)
  /-- R206. Sage instruction branches when its condition holds. -/
  | br (slot cond ra rb : Nat) (imm : BitVec 32)
  /-- R207. Sage instruction saves the return address and branches. -/
  | call (slot rd : Nat) (imm : BitVec 32)
  /-- R207. Sage instruction saves the return address and jumps to a register target. -/
  | jumpr (slot rd ra : Nat) (imm : BitVec 32)
  /-- R205. Sage instruction returns and clears pending causes, or suspends the core. -/
  | wait (slot rd : Nat)
  /-- R207. Sage instruction stops the slot as SPRIG_STOP would. -/
  | halt (slot : Nat)
  /-- R207. Sage instruction arms or cancels the slot timer. -/
  | timer (slot ra : Nat) (imm : BitVec 32)
  /-- R207. Sage instruction reads the current Thyme time. -/
  | time (slot rd : Nat)
  /-- R207. Sage instruction reads TEL_EPOCH. -/
  | epochn (slot rd : Nat)
  /-- R196. Sage instruction takes the slot's next hot ring entry. -/
  | hotpop (slot rd : Nat) (bad : Bool)
  /-- R207. Sage instruction reads a page's decayed heat counters. -/
  | heatrd (slot rd ra rb : Nat) (imm : BitVec 32) (bad : Bool)
  /-- R207. Sage instruction reads word 0 of a heat slot. -/
  | heatidx (slot rd ra : Nat) (bad : Bool)
  /-- R207. Sage instruction reads a word of an egress summary. -/
  | egrd (slot rd ra : Nat) (imm : BitVec 32) (bad : Bool)
  /-- R207. Sage instruction reads a committed map entry. -/
  | maprd (slot rd ra rb : Nat)
  /-- R207. Sage instruction reads a DID's free pool pages. -/
  | poolrd (slot rd ra : Nat)
  /-- R207. Sage instruction posts a proposal to the slot's queue. -/
  | prop (slot rd : Nat) (src : MemBlock)
  /-- R216. Sage instruction takes the next proposal result. -/
  | res (slot rd : Nat)
  /-- R207. Sage instruction reads an inbound mailbox word. -/
  | mbrd (slot rd : Nat) (imm : BitVec 32)
  /-- R207. Sage instruction writes an outbound mailbox word. -/
  | mbwr (slot ra : Nat) (imm : BitVec 32)
  /-- R209. Sage instruction sends the outbound mailbox and raises the slot's mailbox line. -/
  | mbsend (slot rd : Nat)
  /-- R209. Sage instruction releases the inbound mailbox. -/
  | mbdone (slot : Nat)
  /-- R213. The commit unit checks and applies a MIGRATE proposal as a PAGE_MIGRATE. -/
  | migrate (slot : Nat)
  /-- R214. The commit unit applies a SPLIT proposal as a map swap. -/
  | split (slot : Nat)
  /-- R214. The commit unit applies a WEIGHT proposal within SPAN of the base. -/
  | weight (slot : Nat)
  /-- R214. The commit unit applies a POLICER proposal within SPAN of the base. -/
  | policer (slot : Nat)
  /-- R210. The commit unit logs a NOTE proposal without applying it. -/
  | note (slot : Nat)
  /-- R212. A worker's MIGRATE proposal arrives at the manager switch's commit unit. -/
  | propFwd (src slot epoch : Nat) (words : List Word)
  /-- R212. The answer to a forwarded proposal arrives at the worker. -/
  | propRes (status tag slot : Nat)
  /-- R212. A forwarded MIGRATE gets no answer within 10 ms and has status TIMEOUT. -/
  | proposalTimeout (slot tag : Nat)
  /-- R233. A 1 µs tick shares a group's issued bytes among requesting classes as credit. -/
  | arbiterTick (g : Nat)
  /-- R234. A free mover is granted to the eligible class with the highest credit. -/
  | moverDecision (m : Nat) (ecc : Ecc)
  /-- R234. A grant issues 2^BURST_LOG2 bytes and ends, saving its job's progress. -/
  | burstEnd (m : Nat)
  /-- R237. A mover's line completes, recording progress for its grant. -/
  | moverLineComplete (m : Nat) (ev : LineEvent)
  /-- R237. A grant makes no progress for WATCHDOG_US and is revoked, and the mover restarts. -/
  | moverWatchdog (m : Nat)
  /-- R243. The generation marking the page MIGRATING is committed and the migration enters FENCE. -/
  | migrationMarkCommitted (k : Nat)
  /-- R243. Older-generation accesses have drained and the copy job is queued. -/
  | migrationFenceDrained (k : Nat)
  /-- R242. A copied line's destination write completes and the line becomes copied and unblocked. -/
  | migrationLineCopied (k line mover tag : Nat)
  /-- R243. The generation with the new location is committed and the migration enters SETTLE. -/
  | migrationSwapCommitted (k : Nat)
  /-- R243. Old writes have completed and old generations are gone, so the migration ends OK. -/
  | migrationSettled (k : Nat)
  /-- R243. The original entry is recommitted and writes have completed, ending an undone migration. -/
  | migrationUndoDone (k : Nat)
  /-- R259. A gate control list entry's duration ends and the next entry opens its gates. -/
  | gateEntryChange (e : Nat)
  /-- R261. A committed gate control list takes effect at its cycle start. -/
  | gclSwitchover (e : Nat)
  /-- R267. Every SAMPLE_US each queue records its depth and a delay sample. -/
  | histSample (e : Nat)
  /-- R269. A write to SCHED_HIST_CLEAR zeroes an egress's bins. -/
  | histClear (e : Nat) (v : Word)
  /-- R279. A PAYLOAD flit is received, accepted in order or discarded, and its ACK and credit fields are applied. -/
  | payloadFlit (l : Nat) (h : FlitHdr) (crcOk : Bool) (fecCorrected : Nat) (part : List FlitPart)
  /-- R277. An IDLE flit is received and delivers its ACK, BACK, CREDIT and CONG. -/
  | idleFlit (l : Nat) (h : FlitHdr) (crcOk : Bool)
  /-- R288. A bypass micro-flit is received and relayed or released when its message is whole. -/
  | microFlit (l : Nat) (mf : MicroFlit) (crcOk : Bool)
  /-- R281. The replay timer expires and the sender retransmits unacknowledged flits. -/
  | replayTimer (l : Nat) (hw : ReplayHw)
  /-- R291. A retrain restores lock and equalization, or fails, toward INIT or DOWN. -/
  | retrainDone (l : Nat) (ok : Bool)
  /-- R291. A link training stage completes and the link moves to the next state. -/
  | oblTrainingStep (l : Nat) (step : TrainStep)
  /-- R294. An INIT message is received and the counters are set for a fresh or resumed link. -/
  | init (l : Nat) (info : InitInfo)
  /-- R287. A channel waits for credit for CREDIT_TO_US without change or CONG, and the link is declared broken. -/
  | creditTimeout (l vc : Nat)
  /-- R303. A flow reaches quiescence and moves to its new link. -/
  | flowQuiescence (dest ingress vc : Nat)
  /-- R295. A direction idle for SLEEP_US sends SLEEP and stops driving. -/
  | sleepEntry (l : Nat)
  /-- R290. A SLEEP message arrives, telling that the peer's direction sleeps. -/
  | sleep (l : Nat)
  /-- R295. A sleeping direction has something to send and wakes with comma blocks. -/
  | directionWake (l : Nat)
  /-- R309. Every HEARTBEAT_US the manager switch sends HEARTBEAT to every worker. -/
  | heartbeatSend
  /-- R309. A worker receives a HEARTBEAT and clears MGR_LOST. -/
  | heartbeat (e : Word) (count : Nat)
  /-- R309. A worker receives no heartbeat for MGR_LOSS_MS and sets MGR_LOST. -/
  | mgrLost
  /-- R317. A received message reaches its flow number and fence and is released to its queue. -/
  | messageRelease (l : Nat) (m : Msg)
  /-- R316. A message with FLOW_RESTART ends the flow's held messages and resets its expected number. -/
  | flowRestart (l : Nat) (m : Msg)
  /-- R318. A GAP message advances its flow past an ended message. -/
  | gap (l : Nat) (m : Msg)
  /-- R328. An INTX message is released and applied to the virtual wire of its vPPB. -/
  | intx (l : Nat) (m : Msg)
  /-- R327. A SIDEBAND message from a slot's switch updates presence, WAKE or attention button. -/
  | sideband (l : Nat) (m : Msg)
  /-- R327. A SIDEBAND_OUT message drives PERST or the attention indicator at the slot's switch. -/
  | sidebandOut (l : Nat) (m : Msg)
  /-- R324. A locked read reaches a port and locks it to its owner. -/
  | mrdlk (port owner ingress : Nat)
  /-- R325. The owner's Unlock is released and the port unlocks. -/
  | unlock (port owner ingress : Nat)
  /-- R326. LOCK_TO_MS pass without traffic from the owner and the lock is broken. -/
  | lockTimeout (port : Nat)
  /-- R344. A tenant writes its submission tail doorbell. -/
  | vfSqTail (vf : Nat) (v : Word)
  /-- R344. A tenant writes its completion head doorbell. -/
  | vfCqHead (vf : Nat) (v : Word)
  /-- R344. A tenant writes its event ring head doorbell. -/
  | eqHead (vf : Nat) (v : Word)
  /-- R347. A tenant sends its outbound mailbox to the manager. -/
  | mbSend (vf : Nat) (v : Word)
  /-- R347. A tenant releases its inbound mailbox. -/
  | mbDone (vf : Nat) (v : Word)
  /-- R347. The manager sends a VF's inbound mailbox through VF_MB_CTRL. -/
  | vfInDoorbell (v : Word)
  /-- R347. The manager releases a VF's outbound mailbox by writing 0 to OUT_FULL. -/
  | vfOutFullClear (v : Word)
  /-- R343. A tenant enables or disables its command ring. -/
  | vfCringCtrlWrite (vf : Nat) (v : Word)
  /-- R349. A tenant enables its event ring, zeroing its positions. -/
  | vfEvqCtrlWrite (vf : Nat) (v : Word)
  /-- R338. A VF's Function Level Reset stops its work and resets its registers. -/
  | functionLevelReset (vf : Nat)
  /-- R333. VF Enable is cleared or NumVFs lowered and created VFs become ORPHANED. -/
  | vfEnableClear (enable : Bool) (numVfs : Nat)
  /-- R470. A hot reset or DL_Down at the PF's port resets the PF's configuration space. -/
  | pfConventionalReset
  /-- R392. Software clears fault class bits whose lines are not asserted. -/
  | fltStatusWrite (v : Word)
  /-- R353. Software writes a pending register, possibly offering occurrences. -/
  | evtPendWrite (r : Nat) (v : Word)
  /-- R353. Software writes a mask register, offering occurrences for unmasked pending lines. -/
  | evtMaskWrite (r : Nat) (v : Word)
  /-- R160. Writing 0 to VALID re-arms a host's denial record. -/
  | winDenyInfoWrite (h : Nat) (v : Word)
  /-- R359. A vector's coalescing timer reaches TIME and the vector fires. -/
  | coalescerTimer (vec : Nat)
  /-- R360. The MSI-X mask or Bus Master Enable condition ends and held messages are sent. -/
  | msixUnmask (vec : Nat)
  /-- R375. A channel's 10 µs sample measures and applies its events in priority order. -/
  | slotSample (c : Nat) (m : SlotMeas)
  /-- R379. The comparator sees current above FAST_100MA and turns the gate off within 1 µs. -/
  | fastTrip (c : Nat)
  /-- R373. A presence pin falls on an empty channel, which enters SEATING. -/
  | presenceChange (c : Nat) (long short : Bool)
  /-- R371. Both presence pins are low for 50 ms and the channel reaches the Landing. -/
  | seated (c : Nat)
  /-- R371. SHORT_N is low for 50 ms while LONG_N is high, which is reported. -/
  | prsntMismatch (c : Nat)
  /-- R371. SHORT_N is high for 5 µs and a powered channel turns off at once. -/
  | unseated (c : Nat) (long : Bool)
  /-- R373. Both presence pins are high for 50 ms and SEATING returns to EMPTY. -/
  | seatingAbandoned (c : Nat)
  /-- R373. INRUSH_MS of unpaused inrush pass and the channel trips. -/
  | inrushTimeout (c : Nat)
  /-- R374. Inrush pauses exceed 5 ms and the channel aborts to RETRY_WAIT or the Landing. -/
  | busAbort (c : Nat)
  /-- R383. The output test fails to reach 100 mV within 25 ms and the channel locks out. -/
  | outShort (c : Nat)
  /-- R373. PERST_MS after ON, PERST# is deasserted. -/
  | perstDeassert (c : Nat)
  /-- R373. 10 s in ON clear the retry count. -/
  | retryCountClear (c : Nat)
  /-- R373. 1 ms after PERST# in STOPPING the gate turns off. -/
  | stoppingGateOff (c : Nat)
  /-- R374. A retry backoff ends and the channel enters WAITING. -/
  | backoffEnd (c : Nat)
  /-- R372. AUTO_DELAY after seating or cold reset, the channel is released automatically. -/
  | autoRelease (c : Nat)
  /-- R372. A TEST or INRUSH place frees and the lowest waiting channel starts. -/
  | placeFree
  /-- R376. The host writes Power Controller Control, acting as a release or SLOT_OFF. -/
  | hostPowerControl (c : Nat) (on : Bool)
  /-- R364. A debounced change of a slot's WAKE_N is recorded and sent as a sideband signal. -/
  | wakeN (c : Nat) (low : Bool)
  /-- R364. A debounced change of the attention button is recorded and sent as a sideband signal. -/
  | attnBtnN (c : Nat) (low : Bool)
  /-- R410. A PPS_IN edge is timestamped, validates the source and measures the offset. -/
  | ppsIn (freqOk : Bool)
  /-- R413. The selected source is lost and Thyme reselects or enters HOLDOVER. -/
  | sourceLost (kind : Nat)
  /-- R410. TIME_FREQ_IN is absent for 10 µs or off frequency and PPS_REF is lost. -/
  | timeFreqInLoss
  /-- R415. At the step instant Thyme takes the source's time, pulses PPS_OUT and realigns gates. -/
  | thymeStep
  /-- R419. At each whole second of Thyme PPS_OUT starts a pulse. -/
  | ppsOutPulse
  /-- R412. Every SYNC_MS a worker sends a TIME REQ to its fabric peer. -/
  | syncExchange
  /-- R412. A TIME REQ arrives and is answered with an RSP. -/
  | timeReq (l src : Nat) (tx : Word) (seq : Nat)
  /-- R412. A TIME RSP arrives and gives an offset measurement. -/
  | timeRsp (seq : Nat) (t1 t2 t3 t4 : Word) (state err : Nat)
  /-- R434. The TAP instruction returns a nonce and the device unique ID. -/
  | dbgChallenge
  /-- R435. A signed response opens invasive debug after clearing secrets, or counts a failure. -/
  | dbgResponse (valid : Bool)
  /-- R430. An SPDM request is answered as a responder. -/
  | spdmRequest (op : SpdmOp)
  /-- R432. An IDE K_SET_GO switches a stream's key set at the next boundary. -/
  | kSetGo (stream : Nat)
  /-- R394. An IDE stream fails its integrity or sequence check and becomes insecure. -/
  | ideFail (stream : Nat)
  /-- R448. RESET_N rises with every rail in range, and the switch leaves cold reset and starts bring-up phase 1. -/
  | coldResetRelease (mgrSel : Bool) (pb0Bifur timeRef switchId : Nat)
  /-- R292. An in-use O-lane misses 4 comma blocks in a row, loses lock and triggers a link retrain. -/
  | commaLockLost (lane : Nat)
  /-- R274. A link disabled by OBL_CONFIG still holds unacknowledged flits after 1 ms, goes down, and handles them as for a broken link. -/
  | linkDrainTimeout (l : Nat)
  /-- R394. The junction falls below 100 °C and the TEMP_HIGH line is deasserted, so its status bit can be cleared. -/
  | tempHighClear
  /-- R237. A mover revoked by the watchdog finishes its restart, returns to its group's rotation, and the MOVER_STALL line drops. -/
  | moverRestartDone (m : Nat)
  /-- R338. A VF's Function Level Reset completes, FLR_ACTIVE clears, and a VF_DESTROY waiting on it starts. -/
  | functionLevelResetEnd (vf : Nat)
  /-- R159. A window table or a port's routing-table copy finishes reloading from its backing copy, the waiting checks resume, and SRAM_ECC_RELOAD's line drops. -/
  | reloadComplete (host : Option Nat) (port : Option Nat)
deriving DecidableEq, Repr

end Sys2Proof
end

