-- ==== Sys2Proof/Decode.lean ====
section
/-! DEFINITION. Decoding by the table's bits. spec/opcode_table.json gives no row of this block any bits
(its rows are commands and events, not encodings), so no word spells a command. The formats that software
writes (descriptors, doorbells, Sage words) are read where their commands take them apart. -/

namespace Sys2Proof

/-- The command that a word of `nbits` bits spells by the opcode table: none, since no row has bits. -/
def decodeTableWord (_nbits _w : Nat) : Option Instr := none

end Sys2Proof
end

