-- ==== Sys2Proof/Config.lean ====
section
/-! DEFINITION. What every PV9600 fixes (figures of the spec) and the free values: values that the spec
leaves open, which no proof can evaluate (notes/assumptions/7.md). -/

namespace Sys2Proof

/-- The n-th free value: a value the spec does not state. It has no body; a claim about it holds for
every value (log entry 7). -/
opaque Config.freeWord : Nat → Word

/-- The lookup slice (0-15 after reduction) of an address of a host: 01 R22 says only 'by address hash', so
the hash has no body (log entry 7). -/
opaque Config.sliceHash : Nat → Nat → Nat

/-- The upstream port of virtual switch h, which is host h (05 R137). The spec leaves the binding of virtual
switches to ports to the image and the fabric manager, so it has no body (log entry 7). -/
opaque Config.hostPort : Nat → Nat

/-- Great Hall banks and cells per bank (04 R104). -/
def Config.banks : Nat := 256
def Config.cellsPerBank : Nat := 6144
/-- The reserve of one mover (04 R109). -/
def Config.moverCells : Nat := 128
/-- Sum of the reserves (04 R109). -/
def Config.reserves : Nat := 196608
/-- The fewest banks that stay in service (04 R126). -/
def Config.minBanks : Nat := 64
/-- Egresses 0-128 (04 R115). -/
def Config.egresses : Nat := 129
def Config.ports : Nat := 112
def Config.lanes : Nat := 512
def Config.links : Nat := 8
def Config.hosts : Nat := 64
def Config.domains : Nat := 64
def Config.sageSlots : Nat := 32
def Config.movers : Nat := 64
def Config.classes : Nat := 64
def Config.channels : Nat := 32
def Config.vfs : Nat := 2048
def Config.vectors : Nat := 8192
def Config.lines : Nat := 4096
def Config.policers : Nat := 4096
/-- Capture buffer (04 R133), job slots (08 R226), migrations (08 R240), chunks (08 R230). -/
def Config.captureBuffer : Nat := 2048
def Config.jobSlots : Nat := 16384
def Config.migrations : Nat := 256
def Config.chunks : Nat := 262144
/-- Wait slots of a home, and those kept for posted writes (06 R179). -/
def Config.waitSlots : Nat := 16384
def Config.postedSlots : Nat := 2048
/-- Attach table (06 R166), directory cache sets (06 R173). -/
def Config.attachPairs : Nat := 1024
def Config.dirCacheSets : Nat := 131072
/-- Map cache entries (05 R158), staging space (05 R147), the VFs' share of it (12 R334). -/
def Config.mapCache : Nat := 2097152
def Config.stageSpace : Nat := 262144
def Config.vfStage : Nat := 131072
def Config.ringSlots : Nat := 16384
def Config.shapers : Nat := 512
/-- Replay buffers of a link (10 R280, R288). -/
def Config.maxUnacked : Nat := 4095
def Config.maxBypassUnacked : Nat := 255
/-- Commands of one manager ring that execute at once (02 R55). -/
def Config.ringExec : Nat := 64

end Sys2Proof
end

