-- ==== Sys2Proof/Machine/Flags.lean ====
section
/-! DEFINITION. Status codes and saturating counters: the completion codes of 02 R61, the move codes of
08 R228, the proposal codes of 07 R213 and the counters that stop at their largest value. -/

namespace Sys2Proof.Machine

/-- A 64-bit counter that saturates (00 R11). -/
def sat64 (n : Nat) : Nat := if n < 0xFFFFFFFFFFFFFFFF then n + 1 else 0xFFFFFFFFFFFFFFFF

/-- Add to a counter of `w` bits that saturates. -/
def satAdd (w n k : Nat) : Nat := if n + k < 2 ^ w then n + k else 2 ^ w - 1

end Sys2Proof.Machine
end

