-- ==== Sys2Proof/Machine/Operands.lean ====
section
/-! DEFINITION. Operand forms: bit fields of registers, descriptor arguments and message words, in the
notation of 00 R6 (hi:lo, bit 0 the least significant), and the number conversions that go with them. -/

namespace Sys2Proof.Machine

/-- Bits hi:lo of a word, as a number (00 R6). -/
def fld (w : Word) (hi lo : Nat) : Nat := w.toNat / 2 ^ lo % 2 ^ (hi + 1 - lo)

/-- Bit `i` of a word. -/
def bit (w : Word) (i : Nat) : Bool := w.getLsbD i

/-- The value of a flag as a number. -/
def b2n (b : Bool) : Nat := if b then 1 else 0

/-- The word with the low 64 bits of `n`. -/
def w64 (n : Nat) : Word := BitVec.ofNat 64 n

/-- A word made of fields (value, lowest bit). -/
def pack (l : List (Nat × Nat)) : Word := w64 (l.foldl (fun a f => a + f.1 * 2 ^ f.2) 0)

/-- A signed field of `n` bits as an integer. -/
def sfld (v n : Nat) : Int := if v < 2 ^ (n - 1) then Int.ofNat v else Int.ofNat v - Int.ofNat (2 ^ n)

/-- The low `n` bits of an integer in two's complement. -/
def tobits (x : Int) (n : Nat) : Nat := (x % (Int.ofNat (2 ^ n))).toNat

/-- An integer held within a range. -/
def clampInt (x lo hi : Int) : Int := if x < lo then lo else if hi < x then hi else x

/-- A number held within a range. -/
def clampNat (x lo hi : Nat) : Nat := if x < lo then lo else if hi < x then hi else x

/-- Whether bit `i` of a number is set. -/
def testb (n i : Nat) : Bool := n / 2 ^ i % 2 == 1

/-- How many of the low `n` bits of `v` are set. -/
def ones (v : Nat) : Nat → Nat
  | 0 => 0
  | n + 1 => b2n (testb v n) + ones v n

/-- The numbers below `n` whose bits are set in `v`, rising. -/
def bitsOf (v n : Nat) : List Nat := (List.range n).filter (testb v)

/-- The mask with the bits of a list set. -/
def maskOf (l : List Nat) : Nat := l.foldl (fun a i => a ||| 2 ^ i) 0

/-- The address that a 64-byte aligned field names (02, Descriptors; 00 R6): the word with bits 5:0 zero. -/
def addr64 (w : Word) : Nat := w.toNat / 64 * 64

/-- Rounded up division. -/
def ceilDiv (a b : Nat) : Nat := (a + b - 1) / b

/-- The k-th word of a list, 0 beyond its end. -/
def nth (l : List Word) (k : Nat) : Word := l.getD k 0

/-- Keep the words of a list in groups of `n`. -/
def groups (n : Nat) : Nat → List Word → List (List Word)
  | 0, _ => []
  | k + 1, l => if l.isEmpty then [] else l.take n :: groups n k (l.drop n)

/-- Insert a number in a rising list, once. -/
def insNat : List Nat → Nat → List Nat
  | [], k => [k]
  | j :: t, k => if k < j then k :: j :: t else if k = j then j :: t else j :: insNat t k

/-! Descriptor fields (02 R56, R57) and range checks (02 R72). -/

/-- A clamped field: the descriptor byte offset that WHERE[7:0] gives, whether the field lies in data read
from host memory and at which byte of it, the bit numbers, and the values supplied and used (02 R73). -/
structure FieldClamp where
  offset : Nat
  inData : Bool
  dataOff : Nat
  hi : Nat
  lo : Nat
  written : Nat
  used : Nat
deriving DecidableEq, Repr

/-- The ARGn words of a descriptor. -/
def arg (d : Desc) (n : Nat) : Word :=
  if n = 0 then d.arg0 else if n = 1 then d.arg1 else if n = 2 then d.arg2 else d.arg3

/-- The FENCE flag (02 R56). -/
def fenced (d : Desc) : Bool := d.flags.getLsbD 0

/-- SWITCH, CLASS and INDEX of an OBJECT_ID (02 R57). -/
def objSwitch (o : Word) : Nat := fld o 63 59
def objClass (o : Word) : Nat := fld o 58 52
def objIndex (o : Word) : Nat := fld o 51 0

/-- The key of an object of this switch: CLASS and INDEX. -/
def objKey (cls index : Nat) : Nat := cls * 2 ^ 52 + index

/-- One range-checked field: word number, bits hi:lo, and its legal range. -/
abbrev FieldSpec := Nat × Nat × Nat × Nat × Nat

/-- The value used of a field with legal range `mn` to `mx` (02 R72). -/
def used (w : Word) (hi lo mn mx : Nat) : Nat := clampNat (fld w hi lo) mn mx

/-- The clamps of the argument fields listed (02 R72). -/
def argClamps (d : Desc) (l : List FieldSpec) : List FieldClamp :=
  l.filterMap fun (n, hi, lo, mn, mx) =>
    if used (arg d n) hi lo mn mx = fld (arg d n) hi lo then none
    else some ⟨32 + 8 * n, false, 0, hi, lo, fld (arg d n) hi lo, used (arg d n) hi lo mn mx⟩

/-- The clamps of fields of data read from the host address in ARGn (02 R73, WHERE[40] = 1). -/
def dataClamps (n : Nat) (ws : List Word) (l : List FieldSpec) : List FieldClamp :=
  l.filterMap fun (k, hi, lo, mn, mx) =>
    if used (nth ws k) hi lo mn mx = fld (nth ws k) hi lo then none
    else some ⟨32 + 8 * n, true, 8 * k, hi, lo, fld (nth ws k) hi lo, used (nth ws k) hi lo mn mx⟩

end Sys2Proof.Machine
end

