-- ==== Sys2Proof/Machine/State.lean ====
section
/-! DEFINITION. The state of the switch: every register, table, queue, counter, mode and pin the spec
gives it, as plain data, and the state after reset. Numbers that the spec counts with are Nat; words that
software sees as bits are bit vectors. -/

namespace Sys2Proof.Machine

/-- Why the machine stops with a fault. Raised by every meaning whose command names a unit, index or
field beyond what the hardware has (`what` names it). No hardware event does so: safe (log entry 3). -/
inductive Fault where
  | noSuchUnit (what : String) (number : Nat)
deriving DecidableEq, Repr

/-- Why a command has no meaning. `notModelled` stands only in an arm of exec that rejects its command
by name; nothing else raises it. Safe. -/
inductive Refusal where
  | notModelled (mnemonic : String)
deriving DecidableEq, Repr

/-! ## Shared parts -/

/-- A record ring of the switch: the configuration report ring and the proposal log (02 R47, 07 R217). -/
structure RecRing where
  base : Nat
  enable : Bool
  sizeLog2 : Nat
  vector : Nat
  vectorEn : Bool
  produced : Nat
  consumed : Nat
  lost : Nat
deriving DecidableEq, Repr

def RecRing.reset : RecRing := ⟨0, false, 6, 0, false, 0, 0, 0⟩

/-- A configuration report record without its PHASE bit (02 R73). -/
structure ReportRec where
  source : Nat
  fieldHi : Nat
  fieldLo : Nat
  seq : Nat
  loc : Word
  written : Word
  used : Word
deriving DecidableEq, Repr

/-- The streams of records that the switch writes into host memory (02 R468). -/
inductive Stream where
  | cpl (r : RingId)
  | report
  | plog
  | capture
  | status
  | evq (v : Nat)
  | eye
deriving DecidableEq, Repr

/-- One posted write of a record upstream (02 R468). -/
structure HostWrite where
  fn : Fn
  stream : Stream
  addr : Nat
  words : List Word
deriving DecidableEq, Repr

/-- What mirror capture sees of a transaction beside its numbers (04 R129, R132): its host address, if it has one, whether
its window is shared, whether it missed the map cache, and its header as decoded. -/
structure CapNote where
  haddr : Option Nat
  sharedWin : Bool
  mapMiss : Bool
  hdr : List Word
deriving DecidableEq, Repr

def CapNote.none : CapNote := ⟨.none, false, false, []⟩

/-- A transaction in an egress queue (04 R111, R115, R121). `addrs` are the addresses of its cells, in beat order: the pair
tag of R105 is its number. `host` with `mapGen` and `epoch` are the
stamps of 05 R152; `srcSwitch` and `srcIngress` the source of its flow; `dest` the destination switch and DID
of one that leaves over a link, and `relay` the message it arrived as, if it is relayed or moved (10 R300, R304;
11 R313). `tag` is what the answer brings back: its own number, or for a response the tag of its request. -/
structure Txn where
  id : Nat
  ingress : Nat
  egress : Nat
  queue : Nat
  cells : Nat
  fcc : Nat
  shared : Bool
  gen : Nat
  host : Option Nat
  mapGen : Nat
  epoch : Nat
  posted : Bool
  linkedAt : Nat
  srcSwitch : Nat
  srcIngress : Nat
  dest : Option (Nat × Nat)
  relay : Option Msg
  tag : Nat
  addrs : List Nat
  note : CapNote
  body : Body
deriving DecidableEq, Repr

/-- A non-posted request whose response has not come back (05 R153), or one part of it (05 R149).
`parent` groups the parts of one request; `done` is set when this part's answer waits for another part. `line` is the
line of a migrating page whose block it holds, as migration slot and line number, and `shadow` marks the write of such
a line to its second location (08 R242). `domain` marks an access that the home of its line answers, whose `cells`
stay charged to their account, the shared pool if `shared` (06 R179; 04 R111); `rtag` is the request's own tag and `dla` the
line of one whose home is another switch (06 R175); `vf` names the VF of a level-2 access; `remote` is the source switch,
source ingress and tag of a request that came over a link, and `far` the switch that a request has gone to. -/
structure Wait where
  id : Nat
  parent : Nat
  ingress : Nat
  queue : Nat
  target : Nat
  gen : Nat
  host : Option Nat
  mapGen : Nat
  epoch : Nat
  kind : ReqKind
  done : Option (RspKind × List Word)
  line : Option (Nat × Nat)
  shadow : Bool
  domain : Bool
  cells : Nat
  shared : Bool
  rtag : Nat
  dla : Option Nat
  vf : Option Nat
  remote : Option (Nat × Nat × Nat)
  far : Option Nat
deriving DecidableEq, Repr

/-- One resident generation of a versioned table (04 R122, 05 R153). -/
structure GenSlot (α : Type) where
  gen : Nat
  inflight : Nat
  content : α
deriving DecidableEq, Repr

/-- A versioned table: the current generation, the generation the ingresses stamp now, the resident
generations by slot, and the OBJ_COMMIT still being published (04 R122). -/
structure GenTable (α : Type) where
  current : Nat
  stamping : Nat
  slots : List (Nat × GenSlot α)
  publishing : Option Nat
deriving DecidableEq, Repr

def GenTable.reset {α : Type} (a : α) : GenTable α := ⟨1, 1, [(0, ⟨1, 0, a⟩)], none⟩

/-- A token bucket, in thousandths of a byte (09 R256). -/
structure Shaper where
  enable : Bool
  rate : Nat
  burst : Nat
  tokens : Int
  last : Nat
deriving DecidableEq, Repr

def Shaper.reset : Shaper := ⟨false, 128000, 65536, 65536000, 0⟩

/-! ## Outputs -/

/-- Messages on the bypass channel toward another switch (10 R290). -/
inductive Bypass where
  | cmdFwd (seq : Nat) (d : Desc)
  | cplFwd (c : Cpl)
  | epoch (e : Nat)
  | heartbeat (e : Nat) (count : Nat)
  | init (info : InitInfo)
  | sleep (link : Nat)
  | propFwd (slot : Nat) (words : List Word)
  | propRes (status tag slot : Nat)
  | timeReq (seq tx state err : Nat)
  | timeRsp (seq tx state err rx : Nat)
  | check (d : Desc)
  | apply (d : Desc)
  | defs (words : List Word)
  | cutOff (domain participant : Nat)
  | walk (domain participant : Nat)
  | relayed (mtype src : Nat) (parts : List (List Word))
deriving DecidableEq, Repr

/-- Pins that the switch drives. -/
inductive Pin where
  | thermtripN
  | ppsOut
  | slotGate (c : Nat)
  | slotPerstN (c : Nat)
  | slotTest (c : Nat)
  | attnInd (c : Nat)
  | portPerstN (p : Nat)
  | portClkreqN (p : Nat)
deriving DecidableEq, Repr

/-- What a lane under test does at its TX pins, and with its RX pins (03 R91). -/
inductive TxPins where
  | idle | pattern | received
deriving DecidableEq, Repr
inductive RxPins where
  | unused | ignored | checked
deriving DecidableEq, Repr

/-- What leaves the switch, in order (log entry 5). -/
inductive Output where
  | host (w : HostWrite)
  | msix (fn : Fn) (vector : Nat)
  | core (vector : Nat)
  | tx (t : Txn)
  | flit (link : Nat) (hdr : FlitHdr) (m : Option Msg)
  | bypass (sw : Nat) (m : Bypass)
  | pin (p : Pin) (level : Bool)
  | lanePins (lane : Nat) (tx : TxPins) (rx : RxPins)
  | margining (lane : Nat) (ready : Bool)
  | avs (mv : Nat)
  | readReturns (f : Fn) (v : Word)
  | cfgRsp (port : Nat) (status : Nat) (v : Word)
  | signal (m : Msg)
  | spdm (v : Word)
  | tap (nonce : Word) (busy : Bool)
  | flashRun (op : Nat)
deriving DecidableEq, Repr

/-! ## GLB, CMD and host records (02) -/

/-- Bring-up (01 R39): the phase that is running, or done, or stopped with a failed image (01 R41). -/
inductive BringUp where
  | phase (n : Nat)
  | up
  | failed
deriving DecidableEq, Repr

/-- A warm reset in progress (01 R469): waiting for a flash operation, draining, or waiting for the replay buffers of the links. -/
inductive Warm where
  | none
  | waitFlash (source : Nat)
  | drain (source : Nat)
  | links (source : Nat)
deriving DecidableEq, Repr

/-- Ordering codes (00 R1) and silicon revisions (02 R47). -/
inductive Variant where
  | c24 | c48
deriving DecidableEq, Repr
inductive Revision where
  | a0 | a1 | b0
deriving DecidableEq, Repr

/-- `gpioIn` are the GPIOs that are inputs and `gpioPull` those with their 50 kΩ pull-down (18 R454). -/
structure Glb where
  revision : Revision
  variant : Variant
  mgrSel : Bool
  pb0Bifur : Nat
  timeRef : Nat
  switchId : Nat
  ready : Bool
  imageFail : Bool
  debugOpened : Bool
  warmSeen : Bool
  clampCount : Nat
  rpt : RecRing
  heldRecs : List ReportRec
  rptEver : Bool
  scratch : Word
  bringUp : BringUp
  inReset : Bool
  railsOk : Bool
  warm : Warm
  thermTrip : Bool
  gpioIn : BitVec 32
  gpioPull : BitVec 32
deriving DecidableEq, Repr

/-- A command ring with its completion ring (02 R49, 12 R343). -/
structure CmdRing where
  base : Nat
  enable : Bool
  sizeLog2 : Nat
  vector : Nat
  vectorEn : Bool
  cplBase : Nat
  cplSizeLog2 : Nat
  fetched : Nat
  written : Nat
  sqTail : Nat
  cqHead : Nat
deriving DecidableEq, Repr

def CmdRing.reset : CmdRing := ⟨0, false, 4, 0, false, 0, 4, 0, 0, 0, 0⟩

/-- A proposal in a slot's queue (07 R210): kind, tag and words A, B, C, with the word 0 as posted. -/
structure Proposal where
  word0 : Word
  a : Word
  b : Word
  c : Word
deriving DecidableEq, Repr

/-- A proposal that the commit unit has taken: its slot, its arrival number, its words and the telemetry epoch at its admission
(07 R211, R213, R217). -/
structure PropRef where
  slot : Nat
  seq : Nat
  prop : Proposal
  epoch : Nat
deriving DecidableEq, Repr

/-- Where a sequenced command came from, and hence where its completion goes (02 R58, 10 R310). -/
inductive Origin where
  | ring (r : RingId)
  | fromManager (sw : Nat)      -- forwarded to this worker
  | proxy (sw : Nat)            -- from the proxy ring of worker `sw`
  | script                      -- from the image's configuration script (17 R472)
  | silent (v : Nat)            -- from VF `v` before its Function Level Reset (12 R338)
  | relay                       -- fetched from this worker's proxy ring, sequenced by the manager switch (10 R310)
  | commit (sw slot epoch : Nat) (p : Proposal) -- a MIGRATE of slot `slot` of worker `sw`, at the manager's commit unit (07 R212)
deriving DecidableEq, Repr

/-- How far a sequenced command is: its checks up to EPOCH_STALE not yet made in arrival order, ready to
execute, forwarded to a worker, a waiting command that has been checked (02 R58, R64, R67), or failed with
a completion that its FENCE still holds back (02 R56, R60). -/
inductive Stage where
  | unchecked | ready | forwarded | waiting
  | failed (code : Nat)
deriving DecidableEq, Repr

structure SeqCmd where
  seq : Nat
  origin : Origin
  descIndex : Nat
  desc : Desc
  stage : Stage
  note : Nat
  aux : Nat
deriving DecidableEq, Repr

structure Cmd where
  ring0 : CmdRing
  ring1 : CmdRing
  ownEpoch : Nat
  seqNext : Nat
  staleCount : Nat
  conflictCount : Nat
  inflight : List SeqCmd
  versions : Tbl Nat
deriving DecidableEq, Repr

structure HostSide where
  held : List HostWrite
  pfBme : Bool
  pfUp : Bool
  pfPort : Nat
  funcMask : Bool
deriving DecidableEq, Repr

/-! ## Ports and lanes (03) -/

/-- PORT_CONFIG's settings of one port (03 R77, R103). -/
structure PortCfg where
  role : Nat
  maxRate : Nat
  enable : Bool
  sris : Bool
  l0pAuto : Bool
deriving DecidableEq, Repr

/-- Slow-path work that a stopped port engine has waiting (01 R36; 03 R100): an AER log entry, a malformed TLP, or the DPC
trigger of a port that has failed. -/
inductive EngWork where
  | log (bitNo : Nat)
  | malformed (r : Request)
  | dpc
deriving DecidableEq, Repr

/-- A port. `flitBytes` is the size of its flits, 0 with none, and `lds` the logical devices behind it (03 R81); `aer` the status
word of the errors that its engine has logged, `acs`, `maxPayload` and `maxRead` what software has set in its configuration space
(03 R80, R100), `engWork` what waits for the engine's restart, and `clkOff` that its CLKREQ_N is released for an L1 substate
(03 R99). -/
structure Port where
  cfg : PortCfg
  linkUp : Bool
  rate : Nat
  width : Nat
  flit : Bool
  flitBytes : Nat
  proto : Nat
  lds : Nat
  held : Bool
  degraded : Bool
  pwr : Nat
  capRate : Nat
  fecCorr : Nat
  crcErr : Nat
  replay : Nat
  retrain : Nat
  eqFail : Nat
  engRunning : Bool
  engRestarting : Bool
  engRestarts : Nat
  heldCfgReqs : List (Fn × CfgOp)
  aer : BitVec 32
  acs : BitVec 7
  maxPayload : Nat
  maxRead : Nat
  engWork : List EngWork
  clkOff : Bool
  dpcEnabled : Bool
  dpcTrigger : Bool
  retired : Bool
  perstIn : Bool
  refLost : Bool
  device : DevKind
  enumerated : Bool
  backInval : Bool
  cache : Bool
  recovering : Bool
  trainedWidth : Nat
  lock : Option (Nat × Nat)
  brokenLock : Option (Nat × Nat)
deriving DecidableEq, Repr

def Port.reset : Port :=
  { cfg := ⟨0, 6, false, false, false⟩, linkUp := false, rate := 0, width := 0, flit := false, flitBytes := 0,
    proto := 0, lds := 0, held := true, degraded := false, pwr := 6, capRate := 0, fecCorr := 0, crcErr := 0, replay := 0,
    retrain := 0, eqFail := 0, engRunning := false, engRestarting := false, engRestarts := 0,
    heldCfgReqs := [], aer := 0, acs := 0, maxPayload := 0, maxRead := 2, engWork := [], clkOff := false, dpcEnabled := false, dpcTrigger := false, retired := false, perstIn := false,
    refLost := false, device := .none, enumerated := false, backInval := false, cache := false, recovering := false,
    trainedWidth := 0, lock := none, brokenLock := none }

/-- LANE_TEST_CTRL (03 R102). -/
structure LaneTest where
  pattern : Nat
  genEn : Bool
  chkEn : Bool
  loop : Nat
  rate : Nat
  injMode : Nat
  injLog2 : Nat
deriving DecidableEq, Repr

def LaneTest.off : LaneTest := ⟨0, false, false, 0, 0, 0, 0⟩

/-- The generator and checker of a lane test (03 R92): half a bit left over by the rate, bits generated and received
since the test began, error-free bits in a row, where the errors among the last 4,096 bits since the lock lie, the
bit that the single error of INJ_MODE 1 inverts, the shift registers of the generator and of the checker, and the last two bits
sent, which at a PAM4 rate are one symbol. -/
structure Prbs where
  half : Nat
  bits : Nat
  clean : Nat
  errAt : List Nat
  single : Nat
  tx : Nat
  rx : Nat
  sent : Nat
deriving DecidableEq, Repr

def Prbs.reset : Prbs := ⟨0, 0, 0, [], 0, 0, 0, 0⟩

/-- An eye scan in progress (03 R94): the command, the eye, the dwell, the buffer, the start time and the rate, and the errors at
the points measured so far (03 R95). -/
structure EyeScan where
  seq : Nat
  eye : Nat
  dwell : Nat
  buffer : Nat
  start : Nat
  rate : Nat
  aborted : Bool
  paused : Bool
  counts : List Nat
deriving DecidableEq, Repr

structure Lane where
  signal : Bool
  symbolLock : Bool
  polarity : Bool
  logical : Nat
  rate : Nat
  prbsLock : Bool
  retired : Bool
  test : LaneTest
  prbsErrs : Nat
  prbsBits : Nat
  prbsInjected : Nat
  prbs : Prbs
  txPreset : Nat
  ctle : Nat
  dfe1 : BitVec 8
  scan : Option EyeScan
  margining : Bool
deriving DecidableEq, Repr

def Lane.reset : Lane :=
  { signal := false, symbolLock := false, polarity := false, logical := 0, rate := 0, prbsLock := false,
    retired := false, test := LaneTest.off, prbsErrs := 0, prbsBits := 0, prbsInjected := 0, prbs := Prbs.reset, txPreset := 0,
    ctle := 0, dfe1 := 0, scan := none, margining := false }

structure Ports where
  bifur : Tbl Nat
  ports : Tbl Port
  lanes : Tbl Lane
  refLost : Tbl Bool
deriving DecidableEq, Repr

/-! ## Great Hall, routing, capture (04) -/

/-- The routing table: DID entries and bus entries (04 R117). -/
structure Routes where
  did : Tbl Word
  bus : Tbl (BitVec 16)
deriving DecidableEq, Repr

structure GreatHall where
  retired : List Nat
  relocQ : List Nat
  free : Int
  route : GenTable Routes
  routeStage : Option Routes
  eccCorr : Nat
  eccUncorr : Nat
  pairRewrite : Nat
  ceLimit : Nat
  writeFaultRetire : Bool
  bankCe : Tbl Nat
  bankCeTimes : List (Nat × Nat)
  kCode : Tbl Nat
  sharedOcc : Tbl Nat
  reserveOcc : Tbl Nat
  reserveUsed : Tbl Nat
  queues : Tbl (List Txn)
  waits : List Wait
  nextTxn : Nat
  deferred : List Txn
  writeFault : Option Nat
  lastBank : Tbl Nat
deriving DecidableEq, Repr

structure CapFilter where
  enable : Bool
  ingress : Nat
  egress : Nat
  queue : Nat
  queueAny : Bool
  dir : Nat
  sampleN : Nat
  addrLo : Nat
  addrHi : Nat
  count : Nat
deriving DecidableEq, Repr

def CapFilter.reset : CapFilter := ⟨false, 0, 0, 0, false, 0, 1, 0, 0, 0⟩

/-- A capture record in the buffer (04 R132). -/
structure CapRec where
  header : List Word
  time : Nat
  ingress : Nat
  egress : Nat
  queue : Nat
  filter : Nat
  pair : Bool
  poison : Bool
  sharedWin : Bool
  mapMiss : Bool
  gen : Nat
deriving DecidableEq, Repr

structure Capture where
  filters : Tbl CapFilter
  base : Nat
  sizeLog2 : Nat
  enable : Bool
  vector : Nat
  vectorEn : Bool
  creditClass : Nat
  head : Nat
  tail : Nat
  lost : Nat
  buffer : List CapRec
  lostBefore : Bool
deriving DecidableEq, Repr

/-! ## Windows and maps (05) -/

/-- A window entry (05 R141). `base` and `limit` are page numbers. -/
structure WinEntry where
  valid : Bool
  locked : Bool
  shared : Bool
  mapLocked : Bool
  base : Nat
  limit : Nat
  perm : BitVec 12
  vf : Nat
  vfValid : Bool
deriving DecidableEq, Repr

def WinEntry.reset : WinEntry := ⟨false, false, false, false, 0, 0, 0, 0, false⟩

/-- A window table: the aperture header (base address, size in 2 MiB units) and the entries. -/
structure WinTable where
  aperBase : Nat
  aper2m : Nat
  entries : Tbl WinEntry
deriving DecidableEq, Repr

/-- A map entry (05 R144). `pfn` holds device address bits 55:12. -/
structure MapEnt where
  valid : Bool
  huge : Bool
  migrating : Bool
  did : Nat
  pfn : Nat
deriving DecidableEq, Repr

def MapEnt.none : MapEnt := ⟨false, false, false, 0, 0⟩

/-- A region entry (05 R145): invalid, a 2 MiB entry, or a leaf of 512 entries. -/
inductive Region where
  | invalid
  | huge (e : MapEnt)
  | leaf (t : Tbl MapEnt)
deriving DecidableEq, Repr

/-- A staged map entry: its page, the entry, and whether a swap has changed the page since (05 R147). -/
structure Staged where
  page : Nat
  ent : MapEnt
  swapped : Bool
deriving DecidableEq, Repr

/-- A staging set of a map: its entries in the order written, and the leaves it took (05 R145, 12 R340). -/
structure StageSet where
  ents : List Staged
  leaves : Nat
deriving DecidableEq, Repr

/-- A request on its path, with the stamps of its decode: the routing generation, and the host whose aperture it enters
with that host's map generation and protection epoch (04 R121, 05 R152); `cells` are those of its ingress's reserve that it
holds while it waits (04 R110). -/
structure Stamped where
  req : Request
  gen : Nat
  mapGen : Nat
  epoch : Nat
  host : Option Nat
  cells : Nat
deriving DecidableEq, Repr

structure HostSpace where
  win : GenTable WinTable
  winStage : Option WinTable
  map : GenTable (Tbl Region)
  stageMgr : Option StageSet
  stageVf : Tbl StageSet
  denyCount : Nat
  denyAddr : Nat
  denyValid : Bool
  denyLevel : Nat
  denyType : Nat
  denyPartial : Bool
  denySource : Nat
  denyEpoch : Nat
  nomapCount : Nat
  reloading : Bool
  waiting : List Stamped
deriving DecidableEq, Repr

def HostSpace.reset : HostSpace :=
  { win := GenTable.reset ⟨0, 0, []⟩, winStage := none, map := GenTable.reset [], stageMgr := none,
    stageVf := [], denyCount := 0, denyAddr := 0, denyValid := false, denyLevel := 0, denyType := 0,
    denyPartial := false, denySource := 0, denyEpoch := 0, nomapCount := 0, reloading := false, waiting := [] }

/-- A tag of the map cache (05 R158): host, page number, size and map generation. -/
structure CacheTag where
  host : Nat
  page : Nat
  huge : Bool
  gen : Nat
deriving DecidableEq, Repr

structure Windows where
  hosts : Tbl HostSpace
  cache : List CacheTag
  hit : Nat
  miss : Nat
  fills : List Stamped
deriving DecidableEq, Repr

/-! ## Fabric home (06) -/

/-- A device address range of a sharing domain (06 R163); sizes in bytes. -/
structure DomRange where
  switch : Nat
  did : Nat
  base : Nat
  size : Nat
deriving DecidableEq, Repr

structure Domain where
  defined : Bool
  ranges : List DomRange
  participants : List (Nat × Nat)
  homes : List Nat
  granLog2 : Nat
  ways : Nat
  cut : List Nat
deriving DecidableEq, Repr

def Domain.reset : Domain := ⟨false, [], [], [], 0, 16, []⟩

/-- Directory states (06 R172). -/
inductive DirState where
  | I | S | EM
deriving DecidableEq, Repr

/-- Where a transaction that holds a block stands (06 R175, R178): waiting for a way, for snoop answers and the
writebacks they drew, for the expander, for its acknowledgement, or ended. -/
inductive HomePhase where
  | way | snooping | expander | ack | done
deriving DecidableEq, Repr

/-- The transaction that holds a line's block: `waitSnoops` the participants not yet answered, `snooped` those
asked, `inner` the writebacks that the expander has not completed, each with its transaction number and the request that it
answers, if one brought it (06 R176), `kept` the participants that answered
that they keep a copy, `forLine` the line that an eviction's way goes to, and `failed` that its expander is not there, so
that it grants nothing (06 R164). -/
structure HomeTxn where
  req : HomeReq
  kind : HomeKind
  phase : HomePhase
  waitSnoops : List Nat
  snooped : List Nat
  inner : List (Nat × Option HomeReq)
  kept : List Nat
  forLine : Option Nat
  failed : Bool
deriving DecidableEq, Repr

/-- A directory entry with its transaction (06 R172). BLK is `txn.isSome`; `lost` marks a blocked line whose word 0 has been
found uncorrectable, to be recovered once the block ends (06 R186). -/
structure DirLine where
  state : DirState
  vector : Word
  owner : Nat
  rsv : Bool
  rsvSlot : Nat
  replAge : Nat
  way : Nat
  hasWay : Bool
  txn : Option HomeTxn
  lost : Bool
deriving DecidableEq, Repr

def DirLine.reset : DirLine := ⟨.I, 0, 0, false, 0, 0, 0, false, none, false⟩

/-- A request in a wait slot (06 R179), with the local time of its arrival (06 R180). Waiting requests are listed in the order
of their arrival. -/
structure Waiter where
  slot : Nat
  req : HomeReq
  kind : HomeKind
  age : Nat
  time : Nat
deriving DecidableEq, Repr

/-- A snoop of a DETACH's walk (06 R167): the line, the participant, and whether it has been sent. -/
structure Walk where
  dla : Nat
  part : Nat
  sent : Bool
deriving DecidableEq, Repr

/-- The directory and the home parameters (06 R165-R188). `notices` are the answers of other homes that a host here has not
acknowledged yet, by line and queue (06 R175), and `snoopsHere` the snoops of other homes that a host here has not answered,
by line, participant and queue (04 R115). -/
structure Directory where
  domains : Tbl Domain
  attach : List (Nat × Nat × Nat)
  agePriority : Nat
  ageReserve : Nat
  snoopTo : Nat
  lines : Tbl DirLine
  waiters : List Waiter
  cached : List Nat
  fills : List (HomeReq × HomeKind)
  expander : List (Nat × Nat × Bool)
  suspect : List Nat
  high : Nat
  hit : Nat
  miss : Nat
  evict : Nat
  bisnp : Nat
  reserved : Nat
  eccCorr : Nat
  eccUncorr : Nat
  strayWb : Nat
  snoopTimeouts : Nat
  cutSel : Nat
  notices : List (Nat × Nat)
  snoopsHere : List (Nat × Nat × Nat)
  walks : List Walk
deriving DecidableEq, Repr

/-! ## Sage and telemetry (07) -/

/-- SAGE_SLOTs_STATUS.STATE (07 R219). -/
inductive SlotRun where
  | empty | stopped | running | waiting | faulted
deriving DecidableEq, Repr

structure SageSlot where
  state : SlotRun
  trigEn : Nat
  restarts : Nat
  faultPc : Nat
  faultCause : Nat
  epoch : Nat
  code : List Word
  dataImage : List Word
  budgetUs : Nat
  posted : Nat
  missedEpochs : Nat
  resLost : Nat
  hotLost : Nat
  eccCorr : Nat
  mbIn : Tbl Word
  mbOut : Tbl Word
  inFull : Bool
  outFull : Bool
  regs : Tbl Word
  pc : Nat
  mem : Tbl Word
  causes : BitVec 6
  timer : Option Nat
  waitRd : Nat
  hotCursor : Nat
  props : List Proposal
  results : List Word
  stage : Option (List Word × List Word)
  faultTimes : List Nat
  retired : Bool
  wasRunning : Bool
deriving DecidableEq, Repr

def SageSlot.reset : SageSlot :=
  { state := .empty, trigEn := 0, restarts := 0, faultPc := 0, faultCause := 0, epoch := 0, code := [],
    dataImage := [], budgetUs := 0, posted := 0, missedEpochs := 0, resLost := 0, hotLost := 0, eccCorr := 0,
    mbIn := [], mbOut := [], inFull := false, outFull := false, regs := [], pc := 0, mem := [], causes := 0,
    timer := none, waitRd := 0, hotCursor := 0, props := [], results := [], stage := none, faultTimes := [],
    retired := false, wasRunning := false }

/-- COMMIT_LIMITS_SET's fields (07 R215). -/
structure Limits where
  migPerEpoch : Nat
  migConcurrent : Nat
  dwellEpochs : Nat
  knobPerEpoch : Nat
  span : Nat
  allow : BitVec 5
  propPerEpoch : Nat
  migClass : Nat
deriving DecidableEq, Repr

/-- The commit unit: `forwarded` are the proposals at the manager switch (07 R212), and `taken` the one that waits at the
commit unit, with the adopted epoch of its slot (07 R211, R214). -/
structure Sage where
  slots : Tbl SageSlot
  plog : RecRing
  limits : Limits
  accepted : Nat
  rejected : Nat
  migThisEpoch : Nat
  propThisEpoch : Tbl Nat
  knobThisEpoch : Tbl Nat
  baseWeight : Tbl Nat
  baseRates : Tbl (Nat × Nat)
  forwarded : List PropRef
  taken : Option (PropRef × Nat)
  turn : Nat
deriving DecidableEq, Repr

/-- TEL_CONFIG's fields (07 R198). -/
structure TelCfg where
  enable : Bool
  sampleLog2 : Nat
  epochMs : Nat
  decayShift : Nat
  hotThresh : Nat
  hostEn : Word
deriving DecidableEq, Repr

/-- A heat entry (07 R193). -/
structure Heat where
  host : Nat
  page : Nat
  huge : Bool
  lastSample : Nat
  reads : Nat
  writes : Nat
  home : Nat
  lastMove : Nat
deriving DecidableEq, Repr

/-- An egress summary: BYTES, BACKLOG_US, PEAK_CELLS, EPOCH (07 R197). -/
structure Summary where
  bytes : Nat
  backlogUs : Nat
  peak : Nat
  epoch : Nat
deriving DecidableEq, Repr

def Summary.reset : Summary := ⟨0, 0, 0, 0⟩

structure Telemetry where
  cfg : TelCfg
  next : TelCfg
  epoch : Nat
  samples : Nat
  dropped : Nat
  evicts : Nat
  hotPushed : Nat
  countdown : Tbl Nat
  heat : Tbl (Option Heat)
  hot : List Word
  summary : Tbl Summary
  running : Tbl Summary
  backSince : Tbl (Option Nat)
  epochStart : Nat
  countStart : Nat
deriving DecidableEq, Repr

/-! ## Movers (08) -/

/-- What a job does (08 R224); `copyPage k` is the copy of migration slot k, and `capture` the writing of the
buffered capture records (04 R133). -/
inductive JobKind where
  | copy | fill | scrub | copyPage (k : Nat) | capture
deriving DecidableEq, Repr

/-- A job (08 R226-R229): `next` is the offset of its first line not yet issued; `failed` the offset at which it
stops and its status. -/
structure Job where
  id : Nat
  kind : JobKind
  submitter : Fn
  fence : Bool
  event : Bool
  srcSpace : Nat
  dstSpace : Nat
  srcSel : Nat
  dstSel : Nat
  src : Nat
  dst : Nat
  length : Nat
  pattern : Word
  statusAddr : Nat
  tag : BitVec 32
  next : Nat
  poisonLines : Nat
  firstBad : Nat
  started : Bool
  failed : Option (Nat × Nat)
deriving DecidableEq, Repr

/-- MOVE_Mm_STATE.STATE (08 R250). -/
inductive MoverRun where
  | idle | granted | restarting | retired | selfTest
deriving DecidableEq, Repr

/-- Where a line in flight on a mover stands (08 R222, R237): its read is out, its data have come, poisoned or not, its
write is out, or its outcome has come, that of its write or of its read. -/
inductive LineStage where
  | reading
  | held (poison : Bool) (data : List Word)
  | writing (poison : Bool)
  | ended (wrote : Bool) (res : LineResult)
deriving DecidableEq, Repr

/-- A line in flight on a mover (08 R222): the job, the line's offset, the tag of its accesses, where it stands, whether
its grant was revoked after its write was sent (08 R237), and the migration whose page it copies. -/
structure MoverLine where
  job : Nat
  off : Nat
  tag : Nat
  stage : LineStage
  left : Bool
  mig : Option Nat
deriving DecidableEq, Repr

/-- A mover: `burst` is the BURST_LOG2 that its grant began with, `grantAt` the order of its grant. -/
structure Mover where
  state : MoverRun
  owner : Nat
  job : Option Job
  grantBytes : Nat
  grantAt : Nat
  burst : Nat
  restarts : Nat
  lines : List MoverLine
deriving DecidableEq, Repr

def Mover.reset : Mover := ⟨.idle, 0, none, 0, 0, 0, 0, []⟩

/-- The settings of a credit class (08 R232). -/
structure ClassCfg where
  weight : Nat
  burstLog2 : Nat
  marginLog2 : Nat
  maxMovers : Nat
  groups : BitVec 8
  queueMax : Nat
  watchdogUs : Nat
deriving DecidableEq, Repr

/-- A credit class: its settings in force, and in `next` those that apply from the next decision point (08 R232). -/
structure MoveClass where
  weight : Nat
  burstLog2 : Nat
  marginLog2 : Nat
  maxMovers : Nat
  groups : BitVec 8
  queueMax : Nat
  watchdogUs : Nat
  stuck : Bool
  bytes : Nat
  jobsDone : Nat
  queue : List Job
  credit : Tbl Int
  next : Option ClassCfg
deriving DecidableEq, Repr

def MoveClass.reset : MoveClass := ⟨16, 16, 18, 8, 0xFF, 256, 50, false, 0, 0, [], [], none⟩

/-- A pool chunk (08 R230): its DID and, when split, the used 4 KiB pages. -/
structure Chunk where
  did : Nat
  split : Bool
  used : List Nat
deriving DecidableEq, Repr

/-- MOVE_MIGk_STATE.STATE (08 R243). -/
inductive MigState where
  | mark | fence | copy | swap | settle | undo
deriving DecidableEq, Repr

/-- A request that waits for the block of a line of a migrating page, with its age and whether it holds the line's
reservation (06 R179, R180; 08 R242). -/
structure MigWait where
  req : Stamped
  line : Nat
  age : Nat
  rsv : Bool
deriving DecidableEq, Repr

/-- A live migration (08 R239-R243). `gen` is the map generation that its present state has committed; `waiting`
holds the requests that wait for a line's block (08 R242). -/
structure Migration where
  state : MigState
  host : Nat
  page : Nat
  huge : Bool
  oldEnt : MapEnt
  destDid : Nat
  destPfn : Nat
  fromPool : Bool
  keepOld : Bool
  cls : Nat
  statusAddr : Nat
  event : Bool
  tag : BitVec 32
  copied : List Nat
  revoked : Nat
  poisonLines : Nat
  firstBad : Nat
  undoStatus : Nat
  gen : Option Nat
  proposal : Option PropRef
  waiting : List MigWait
deriving DecidableEq, Repr

structure Move where
  movers : Tbl Mover
  classes : Tbl MoveClass
  issued : Tbl Nat
  chunks : Tbl (Option Chunk)
  migs : Tbl (Option Migration)
  poolSel : Nat
  overflow : Nat
  preempts : Nat
  bursts : Nat
  stalls : Nat
  bytes : Nat
  nextJob : Nat
  grants : Nat
  nextLine : Nat
deriving DecidableEq, Repr

/-! ## Egress scheduling (09) -/

/-- A gate control list (09 R258): entries (gates, duration in ns). -/
structure Gcl where
  baseTime : Nat
  cycleNs : Nat
  length : Nat
  enable : Bool
  entries : Tbl (BitVec 16 × Nat)
deriving DecidableEq, Repr

def Gcl.reset : Gcl := ⟨0, 0, 0, false, []⟩

/-- An egress (09 R252-R262). `gclShift` is how far Thyme has stepped under the cycle in progress, which runs on by elapsed
time until its realignment (09 R262). -/
structure Egress where
  vtime : Word
  sampleUs : Nat
  depthLog2 : Nat
  delayLog2 : Nat
  samples : Nat
  shaper : Shaper
  gcl : Gcl
  gclPending : Option (Gcl × Nat)
  gclStage : Option Gcl
  gclEntry : Nat
  gclShift : Int
  gates : BitVec 16
  realignAt : Option Nat
deriving DecidableEq, Repr

def Egress.reset : Egress :=
  ⟨0, 100, 0, 4, 0, Shaper.reset, Gcl.reset, none, none, 0, 0, 0xFFFF, none⟩

structure SchedQ where
  weight : Nat
  shaper : Shaper
  start : Word
  finish : Word
  active : Bool
  bytes : Nat
  guardHits : Nat
  depthBins : Tbl Nat
  delayBins : Tbl Nat
  sampleDue : Bool
deriving DecidableEq, Repr

def SchedQ.reset : SchedQ := ⟨64, Shaper.reset, 0, 0, false, 0, 0, [], [], false⟩

structure PolicerReg where
  enable : Bool
  ingress : Nat
  tcMask : BitVec 16
  cir : Nat
  pir : Nat
  cbs : Nat
  pbs : Nat
  tc : Nat
  tp : Nat
  last : Nat
  green : Nat
  yellow : Nat
  red : Nat
deriving DecidableEq, Repr

def PolicerReg.reset : PolicerReg :=
  ⟨false, 0, 0, 128000, 128000, 65536, 65536, 65536000, 65536000, 0, 0, 0, 0⟩

/-- A red request held by a policer (09 R265): the transaction that waits to be linked, and the kind of its request. -/
structure HeldReq where
  policer : Nat
  txn : Txn
  kind : ReqKind
  tc : Nat
deriving DecidableEq, Repr

structure Sched where
  egress : Tbl Egress
  queues : Tbl SchedQ
  policers : Tbl PolicerReg
  vfShapers : Tbl Shaper
  held : List HeldReq
  realign : Nat
deriving DecidableEq, Repr

/-! ## Obmulum and Stairwell (10, 11) -/

/-- OBL_Ll_STATUS.STATE (10 R312). -/
inductive LinkRun where
  | down | detect | align | equalize | identify | init | active | retrain | held
deriving DecidableEq, Repr

structure LinkCfg where
  enable : Bool
  force56 : Bool
  sleepEn : Bool
  sleepUs : Nat
  replay100ns : Nat
  creditToUs : Nat
  retrainReplays : Nat
  retrainTries : Nat
deriving DecidableEq, Repr

def LinkCfg.reset : LinkCfg := ⟨true, false, true, 10, 20, 100, 16, 3⟩

/-- Credit counters of one virtual channel (10 R285). -/
structure Credit where
  granted : Nat
  consumed : Nat
  congAt : Option Nat
  adv : Nat
  limit : Nat
deriving DecidableEq, Repr

/-- A flit kept in the replay buffer: its sequence number, channel, the egress queue it left and the message
whose units it carries. -/
structure ReplayFlit where
  seq : Nat
  vc : Nat
  queue : Nat
  msg : Option Msg
deriving DecidableEq, Repr

/-- `cfgSince` is set once the link has been configured and has not trained since (03 R102), and `partUnits` counts the units
accepted of a message that is not whole yet, by channel (10 R282). -/
structure Link where
  state : LinkRun
  width : Nat
  high : Bool
  widthNext : Nat
  highNext : Bool
  rate : Nat
  forerunner : Bool
  txAsleep : Bool
  rxAsleep : Bool
  peerSwitch : Nat
  peerLink : Nat
  peerKnown : Bool
  heldCause : Nat
  broken : Bool
  cfg : LinkCfg
  limitsNext : List Nat
  txNext : Nat
  txAcked : Nat
  rxExpect : Nat
  unacked : List ReplayFlit
  btxNext : Nat
  btxAcked : Nat
  brxExpect : Nat
  bunacked : List (Nat × Nat × Bypass)
  bwait : List (Nat × Bypass)
  cvc : Nat
  vc0 : Credit
  vc1 : Credit
  vc2 : Credit
  vc3 : Credit
  partUnits : Tbl Nat
  bypassParts : List MicroFlit
  expiries : List Nat
  crcRun : Nat
  lastGood : Nat
  failedRetrains : Nat
  draining : Bool
  retired : Bool
  refLost : Bool
  held : Bool
  cfgSince : Bool
  replaying : Nat
  fecCorr : Nat
  crcErr : Nat
  replays : Nat
  retrains : Nat
  creditTo : Nat
  failovers : Nat
  defers : Nat
  sleeps : Nat
  flitsTx : Nat
  flitsRx : Nat
deriving DecidableEq, Repr

def Link.reset : Link :=
  { state := .down, width := 0, high := false, widthNext := 8, highNext := false, rate := 0, forerunner := false, txAsleep := false, rxAsleep := false,
    peerSwitch := 0, peerLink := 0, peerKnown := false, heldCause := 0, broken := false, cfg := LinkCfg.reset,
    limitsNext := [1024, 1536, 512, 5120], txNext := 0, txAcked := 0xFFF, rxExpect := 0, unacked := [],
    btxNext := 0, btxAcked := 0xFF, brxExpect := 0, bunacked := [], bwait := [], cvc := 0,
    vc0 := ⟨0, 0, none, 0, 1024⟩, vc1 := ⟨0, 0, none, 0, 1536⟩,
    vc2 := ⟨0, 0, none, 0, 512⟩, vc3 := ⟨0, 0, none, 0, 5120⟩,
    partUnits := [], bypassParts := [], expiries := [], crcRun := 0, lastGood := 0, failedRetrains := 0,
    draining := false, retired := false, refLost := false, held := false, cfgSince := false, replaying := 0,
    fecCorr := 0, crcErr := 0, replays := 0, retrains := 0, creditTo := 0, failovers := 0, defers := 0,
    sleeps := 0, flitsTx := 0, flitsRx := 0 }

structure RouteEnt where
  primary : Nat
  alt : Nat
  usingAlt : Bool
deriving DecidableEq, Repr

def RouteEnt.reset : RouteEnt := ⟨0xFF, 0xFF, false⟩

/-- A source flow's counters (11 R315, R319) and the link it is on (10 R303). -/
structure TxFlow where
  nextFseq : Nat
  restart : Bool
  lastPosted : Option Nat
  link : Option Nat
deriving DecidableEq, Repr

def TxFlow.reset : TxFlow := ⟨0, true, none, none⟩

/-- A message in its cells at the Stairwell of a link until its flow reaches it (10 R301, 11 R317); `fenced` once its
wait for its fence has been counted. -/
structure HeldMsg where
  link : Nat
  fenced : Bool
  msg : Msg
deriving DecidableEq, Repr

structure Obmulum where
  mgrLost : Bool
  mgrSwitch : Nat
  standbyEn : Bool
  standbySwitch : Nat
  epochSettled : Bool
  heartbeatUs : Nat
  mgrLossMs : Nat
  reach : BitVec 32
  dup : Nat
  hbCount : Nat
  routes : Tbl RouteEnt
  links : Tbl Link
  txFlows : Tbl TxFlow
  rxExpect : Tbl Nat
  heldMsgs : List HeldMsg
  fwdOut : Tbl Nat
  resend : List (Nat × Desc)
  unreach : List (Nat × Nat)
deriving DecidableEq, Repr

structure StwLink where
  npwMax : Nat
  lockToMs : Nat
  fenceTotal : Nat
  npwWaits : Nat
  npwDelayed : List Nat
deriving DecidableEq, Repr

def StwLink.reset : StwLink := ⟨1280, 10, 0, 0, []⟩

/-- A binding of a vPPB on the host's switch, or of a port on the slot's switch (11 R330). -/
structure BindHost where
  enable : Bool
  switch : Nat
  port : Nat
deriving DecidableEq, Repr
structure BindSlot where
  enable : Bool
  switch : Nat
  vs : Nat
  vppb : Nat
deriving DecidableEq, Repr

structure Stairwell where
  badMkind : Nat
  restartEnded : Nat
  lockBroken : Nat
  sbSent : Nat
  sbRecv : Nat
  links : Tbl StwLink
  bindHost : Tbl BindHost
  bindSlot : Tbl BindSlot
  wires : Tbl Nat
  wireSrc : Tbl Nat
  changes : Tbl Nat
  sent : Tbl Nat
  npwOut : List (Nat × Nat × Nat)
deriving DecidableEq, Repr

/-! ## Virtual functions (12) -/

/-- VF_STATEv.STATE (12 R333). -/
inductive VfRun where
  | absent | uncreated | created | orphaned | destroying
deriving DecidableEq, Repr

structure EventRing where
  base : Nat
  enable : Bool
  sizeLog2 : Nat
  vector : Nat
  vectorEn : Bool
  produced : Nat
  eqHead : Nat
  lost : Nat
  lostBefore : Bool
deriving DecidableEq, Repr

def EventRing.reset : EventRing := ⟨0, false, 6, 0, false, 0, 0, 0, false⟩

structure Vf where
  state : VfRun
  flr : Bool
  host : Nat
  vecBase : Nat
  vecCount : Nat
  ringSlots : Nat
  cls : Nat
  jobsMax : Nat
  polBase : Nat
  polCount : Nat
  shaper : Option Nat
  mapStage : Nat
  heatMax : Nat
  dirWaits : Nat
  targets : List (Nat × Nat)
  shapeRate : Nat
  shapeBurst : Nat
  instEpoch : Nat
  resetSeen : Bool
  toMgrFull : Bool
  toVfFull : Bool
  clamps : Nat
  ring : CmdRing
  evq : EventRing
  funcMask : Bool
  mbOut : Tbl Word
  mbIn : Tbl Word
  bme : Bool
  destroySeq : Option Nat
deriving DecidableEq, Repr

def Vf.reset : Vf :=
  { state := .absent, flr := false, host := 0, vecBase := 0, vecCount := 0, ringSlots := 0, cls := 0,
    jobsMax := 0, polBase := 0, polCount := 0, shaper := none, mapStage := 0, heatMax := 0, dirWaits := 0,
    targets := [], shapeRate := 0, shapeBurst := 0, instEpoch := 0, resetSeen := false, toMgrFull := false,
    toVfFull := false, clamps := 0, ring := CmdRing.reset, evq := EventRing.reset, funcMask := false, mbOut := [], mbIn := [],
    bme := false, destroySeq := none }

structure Vfs where
  enable : Bool
  numVfs : Nat
  vfs : Tbl Vf
  instNext : Nat
  heatCapped : Nat
  sel : Nat
deriving DecidableEq, Repr

/-! ## Events (13) -/

structure LineRoute where
  vector : Nat
  hostEn : Bool
  coreVector : Nat
  coreEn : Bool
deriving DecidableEq, Repr

def LineRoute.reset : LineRoute := ⟨0, false, 0, false⟩

/-- A vector's coalescer (13 R359, R360). -/
structure Coalescer where
  countMax : Nat
  timeHalfUs : Nat
  collected : Nat
  startedAt : Nat
  heldMsg : Bool
deriving DecidableEq, Repr

def Coalescer.reset : Coalescer := ⟨1, 1, 0, 0, false⟩

structure Events where
  pend : Tbl Word
  mask : Tbl Word
  vfState : Tbl Word
  vfMb : Tbl Word
  count : Tbl Nat
  route : Tbl LineRoute
  vec : Tbl Coalescer
  cvec : Tbl (Nat × Nat)
  sent : Nat
  unmasked : Tbl Bool
deriving DecidableEq, Repr

/-! ## Slots (14) -/

/-- SLOT_Cc_STATE.STATE (14 R389). -/
inductive ChState where
  | empty | seating | landing | waiting | test | inrush | on | stopping | tripped | retryWait | lockedOut
deriving DecidableEq, Repr

/-- SLOT_Cc_STATE.LAST_CAUSE (14 R389). -/
inductive Cause where
  | none | fast | tread | fetHot | inrushTimeout | busAbort | outShort | senseOpen | shuntReversed
  | busReversed | removed | offCmd | diodeFault | prsntMismatch
deriving DecidableEq, Repr

/-- SLOT_POLICY_SET KIND 0 (14 R367). -/
structure Policy where
  port : Nat
  portValid : Bool
  autoRelease : Bool
  hostCtrl : Bool
  shortTest : Bool
  thermSrc : Bool
  retries : Nat
  backoff10ms : Nat
  autoDelay10ms : Nat
  inrushMs : Nat
  rampMvMs : Nat
  fast100ma : Nat
  inrushLim : Nat
  pauseMv : Nat
  perstMs : Nat
  shuntUohm : Nat
  tfetMaxC : Nat
  tambC : Nat
  etaMilli : Nat
deriving DecidableEq, Repr

def Policy.reset : Policy :=
  ⟨0, false, false, false, true, false, 3, 10, 0, 100, 1000, 1000, 100, 10800, 100, 500, 150, 85, 1008⟩

/-- A tread of the breaker curve (14 R370). -/
structure Tread where
  ilim : Nat
  tunit : Nat
  tcount : Nat
deriving DecidableEq, Repr

def Tread.reset : Tread := ⟨0, 0, 0⟩

structure Channel where
  state : ChState
  longLow : Bool
  shortLow : Bool
  seated : Bool
  paused : Bool
  perst : Bool
  wake : Bool
  button : Bool
  attn : Nat
  retryCount : Nat
  thermFallback : Bool
  busAborts : Nat
  lastCause : Cause
  iMa : Int
  voutMv : Int
  vinMv : Int
  powerMw : Nat
  energyUj : Nat
  energyFrac : Nat
  tDiode : Int
  diodeOk : Bool
  d0 : Int
  d1 : Int
  d2 : Int
  tripCause : Cause
  tripTread : Nat
  tripPeak : Nat
  tripTime : Nat
  policy : Policy
  r1 : Nat
  r2 : Nat
  r3 : Nat
  tau1 : Nat
  tau2 : Nat
  tau3 : Nat
  treads : List Tread
  acc : List Nat
  trips : Nat
  busAbortTotal : Nat
  pauseUs : Nat
  gate : Bool
  autoOk : Bool
  wiringLock : Bool
  lockShort : Bool
  mismatch : Bool
  perstReq : Bool
  retired : Bool
  recent : List Int
  powerFault : Bool
deriving DecidableEq, Repr

def Channel.reset : Channel :=
  { state := .empty, longLow := false, shortLow := false, seated := false, paused := false, perst := true,
    wake := false, button := false, attn := 0, retryCount := 0, thermFallback := false, busAborts := 0,
    lastCause := .none, iMa := 0, voutMv := 0, vinMv := 0, powerMw := 0, energyUj := 0, energyFrac := 0,
    tDiode := 0, diodeOk := false, d0 := 0, d1 := 0, d2 := 0, tripCause := .none, tripTread := 0,
    tripPeak := 0, tripTime := 0, policy := Policy.reset, r1 := 20, r2 := 80, r3 := 1000, tau1 := 100,
    tau2 := 5000, tau3 := 500000, treads := List.replicate 8 Tread.reset, acc := List.replicate 8 0,
    trips := 0, busAbortTotal := 0, pauseUs := 0, gate := false, autoOk := false, wiringLock := false,
    lockShort := false, mismatch := false, perstReq := false, retired := false, recent := [],
    powerFault := false }

structure Slots where
  ch : Tbl Channel
deriving DecidableEq, Repr

/-! ## Faults (15) -/

/-- A history entry (15 R396): INSTANCE is `unit`; `lastRaise` is the local time of its latest raise. -/
structure HistEntry where
  cls : Nat
  merged : Bool
  repeatSat : Bool
  unit : Nat
  repeats : Nat
  seq : Nat
  time : Nat
  detail0 : Word
  detail1 : Word
  lastRaise : Nat
deriving DecidableEq, Repr

def HistEntry.reset : HistEntry := ⟨0, false, false, 0, 0, 0, 0, 0, 0, 0⟩

structure Faults where
  status : Word
  asserted : List (Nat × Nat)
  merged : Nat
  clearRefused : Nat
  count : Tbl Nat
  histHead : Nat
  hist : Tbl HistEntry
  temp : Bool
  supply : Bool
  debug : Bool
  retired : List Nat
  joining : List Nat
deriving DecidableEq, Repr

/-! ## Thyme (16) -/

inductive ThymeState where
  | free | acquire | locked | holdover
deriving DecidableEq, Repr

structure TimeCfg where
  prio0 : Nat
  prio1 : Nat
  prio2 : Nat
  slewPpm : Nat
  syncMs : Nat
  holdPpb : Nat
  ppsOutEn : Bool
  ppsInFall : Bool
  ppsWidthUs : Nat
  ppsInCompNs : Nat
  utcOffset : BitVec 16
deriving DecidableEq, Repr

def TimeCfg.reset : TimeCfg := ⟨1, 3, 2, 50, 10, 1000, true, false, 100000, 0, 0⟩

structure Thyme where
  now : Nat
  subNs : Nat
  localNs : Nat
  state : ThymeState
  source : Nat
  valid : BitVec 3
  validSince : Tbl Nat
  stepPending : Option Int
  stepAfter : Nat
  setArmed : Option Nat
  holdStart : Nat
  holdErr : Nat
  offset : Int
  slewLeft : Int
  ratePpb : Int
  cfg : TimeCfg
  ppsInLast : Nat
  ppsOutLast : Nat
  ppsHigh : Bool
  ppsInLocal : Nat
  goodEdges : Nat
  goodSyncs : Nat
  missedSyncs : Nat
  syncSeq : Nat
  peerErr : Nat
  freqOk : Bool
  steps : Nat
  holdovers : Nat
deriving DecidableEq, Repr

/-! ## Security, calibration, power (17) -/

/-- A flash operation in the queue (17 R428): which, and the command that waits for it. -/
inductive FlashKind where
  | imageCommit | calCommit (entries : List (Nat × Nat)) | calRestore | keyErase | eraseSector (a : Nat) | program (a : Nat) | read (a : Nat)
deriving DecidableEq, Repr

structure FlashOp where
  kind : FlashKind
  seq : Option Nat
deriving DecidableEq, Repr

structure Security where
  bootSlot : Nat
  slotValid : BitVec 2
  keyRevoked : BitVec 4
  svMin : Nat
  svBooted : Nat
  advance : Bool
  debugFails : Nat
  debugLocked : Bool
  debugFuse : Bool
  bootSeq : Nat
  otherSeq : Nat
  flashQ : List FlashOp
  flashAddr : Nat
  flashErr : Bool
  flashBuf : Tbl Word
  flash : Tbl Byte
  imageStage : Option (Nat × Nat × List Word)
  calOverlay : List (Nat × Nat)
  calInUse : Bool
  calSeq : Nat
  calStage : Option (List (Nat × Nat))
  keyed : List Nat
  insecure : List Nat
  keySet : Tbl Bool
  sessions : Nat
  nonce : Option Word
  nonces : Nat
  meas6 : Bool
  keyStore : Bool
deriving DecidableEq, Repr

structure Power where
  vddMv : Nat
  targetMv : Nat
  avsOk : Bool
  vminMv : Nat
  vmaxMv : Nat
  fixed : Bool
  fixedMv : Nat
  guardKppm : Nat
  rateMin : Nat
  monitor : Nat
  avsErr : Nat
  steps : Nat
  lowUs : Nat
  down : List Nat
deriving DecidableEq, Repr

/-! ## The whole state -/

structure State where
  pending : List Instr
  out : List Output
  free : Nat
  glb : Glb
  cmd : Cmd
  host : HostSide
  port : Ports
  gh : GreatHall
  cap : Capture
  win : Windows
  dir : Directory
  sage : Sage
  tel : Telemetry
  move : Move
  sched : Sched
  obl : Obmulum
  stw : Stairwell
  vf : Vfs
  evt : Events
  slot : Slots
  flt : Faults
  time : Thyme
  sec : Security
  pwr : Power
deriving DecidableEq, Repr

/-! ## Reset -/

def Glb.reset : Glb :=
  { revision := .a0, variant := .c24, mgrSel := false, pb0Bifur := 0, timeRef := 0, switchId := 0,
    ready := false, imageFail := false, debugOpened := false, warmSeen := false, clampCount := 0,
    rpt := RecRing.reset, heldRecs := [], rptEver := false, scratch := 0, bringUp := .phase 1,
    inReset := false, railsOk := true, warm := .none, thermTrip := false,
    gpioIn := 0xFFFFFFFF, gpioPull := 0xFFFFFFFF }

def Cmd.reset : Cmd := ⟨CmdRing.reset, CmdRing.reset, 0, 0, 0, 0, [], []⟩

def HostSide.reset : HostSide := ⟨[], false, false, 0, false⟩

def Ports.reset : Ports := ⟨[], [], [], []⟩

def GreatHall.reset : GreatHall :=
  { retired := [], relocQ := [], free := 1376256, route := GenTable.reset ⟨[], []⟩, routeStage := none,
    eccCorr := 0, eccUncorr := 0, pairRewrite := 0, ceLimit := 64, writeFaultRetire := true, bankCe := [],
    bankCeTimes := [], kCode := [], sharedOcc := [], reserveOcc := [], reserveUsed := [], queues := [],
    waits := [], nextTxn := 0, deferred := [], writeFault := none, lastBank := [] }

def Capture.reset : Capture := ⟨[], 0, 10, false, 0, false, 0, 0, 0, 0, [], false⟩

def Windows.reset : Windows := ⟨[], [], 0, 0, []⟩

def Directory.reset : Directory :=
  { domains := [], attach := [], agePriority := 4, ageReserve := 12, snoopTo := 4, lines := [], waiters := [],
    cached := [], fills := [], expander := [], suspect := [], high := 0, hit := 0, miss := 0, evict := 0,
    bisnp := 0, reserved := 0, eccCorr := 0, eccUncorr := 0, strayWb := 0, snoopTimeouts := 0, cutSel := 0, notices := [], snoopsHere := [],
    walks := [] }

def Limits.reset : Limits := ⟨256, 16, 10, 1, 2, 0x1F, 1024, 0⟩

def Sage.reset : Sage :=
  ⟨[], RecRing.reset, Limits.reset, 0, 0, 0, [], [], [], [], [], none, 0⟩

def TelCfg.reset : TelCfg := ⟨true, 6, 100, 1, 64, 0xFFFFFFFFFFFFFFFF⟩

def Telemetry.reset : Telemetry :=
  { cfg := TelCfg.reset, next := TelCfg.reset, epoch := 0, samples := 0, dropped := 0, evicts := 0,
    hotPushed := 0, countdown := [], heat := [], hot := [], summary := [], running := [], backSince := [],
    epochStart := 0, countStart := 64 }

def Move.reset : Move :=
  { movers := [], classes := [], issued := [], chunks := [], migs := [], poolSel := 0, overflow := 0,
    preempts := 0, bursts := 0, stalls := 0, bytes := 0, nextJob := 0, grants := 0, nextLine := 0 }

def Sched.reset : Sched := ⟨[], [], [], [], [], 0⟩

def Obmulum.reset : Obmulum :=
  { mgrLost := false, mgrSwitch := 32, standbyEn := false, standbySwitch := 0, epochSettled := false, heartbeatUs := 100,
    mgrLossMs := 10, reach := 0, dup := 0, hbCount := 0, routes := [], links := [], txFlows := [],
    rxExpect := [], heldMsgs := [], fwdOut := [], resend := [], unreach := [] }

def Stairwell.reset : Stairwell := ⟨0, 0, 0, 0, 0, [], [], [], [], [], [], [], []⟩

def Vfs.reset : Vfs := ⟨false, 0, [], 1, 0, 0⟩

def Events.reset : Events := ⟨[], [], [], [], [], [], [], [], 0, []⟩

def Slots.reset : Slots := ⟨[]⟩

def Faults.reset : Faults := ⟨0, [], 0, 0, [], 0, [], false, false, false, [], []⟩

def Thyme.reset : Thyme :=
  { now := 0, subNs := 0, localNs := 0, state := .free, source := 0, valid := 0, validSince := [],
    stepPending := none, stepAfter := 0, setArmed := none, holdStart := 0, holdErr := 0, offset := 0,
    slewLeft := 0, ratePpb := 0, cfg := TimeCfg.reset, ppsInLast := 0, ppsOutLast := 0, ppsHigh := false, ppsInLocal := 0,
    goodEdges := 0, goodSyncs := 0, missedSyncs := 0, syncSeq := 0, peerErr := 0, freqOk := false,
    steps := 0, holdovers := 0 }

def Security.reset : Security :=
  { bootSlot := 0, slotValid := 0, keyRevoked := 0, svMin := 0, svBooted := 0, advance := false,
    debugFails := 0, debugLocked := false, debugFuse := false, bootSeq := 0, otherSeq := 0, flashQ := [],
    flashAddr := 0, flashErr := false, flashBuf := [], flash := [], imageStage := none, calOverlay := [],
    calInUse := false, calSeq := 0, calStage := none, keyed := [], insecure := [], keySet := [], sessions := 0,
    nonce := none, nonces := 0, meas6 := false, keyStore := true }

def Power.reset : Power := ⟨0, 800, false, 620, 850, false, 800, 20, 0, 0, 0, 0, 0, []⟩

/-- The machine right after its first cold reset is released: bring-up phase 1 starts (01 R39). The
values the spec does not give are named in log entries 1, 2 and 11 to 16. -/
def State.reset : State :=
  { pending := [], out := [], free := 0, glb := Glb.reset, cmd := Cmd.reset, host := HostSide.reset,
    port := Ports.reset, gh := GreatHall.reset, cap := Capture.reset, win := Windows.reset,
    dir := Directory.reset, sage := Sage.reset, tel := Telemetry.reset, move := Move.reset,
    sched := Sched.reset, obl := Obmulum.reset, stw := Stairwell.reset, vf := Vfs.reset, evt := Events.reset,
    slot := Slots.reset, flt := Faults.reset, time := Thyme.reset, sec := Security.reset, pwr := Power.reset }

end Sys2Proof.Machine
end

