-- ==== Sys2Proof/Machine/Ops.lean ====
section
/-! DEFINITION. The shared operations: outcomes, free values, host-memory records (02 R468), vectors and
event lines (13), the fault collector (15 R390-R397), clamps and the report ring (02 R72-R75), and the two
time bases (16). -/

namespace Sys2Proof.Machine

/-- The outcome type of every meaning. -/
abbrev Out := Host.Outcome State Fault Refusal

/-- Go on only if unit `n` exists among the `bound` that the hardware has (log entry 3). -/
def inUnit (what : String) (n bound : Nat) (k : Out) : Out :=
  if n < bound then k else .fault (.noSuchUnit what n)

/-- Take the next free value: a value the spec leaves open (log entry 7). -/
def takeFree (s : State) : Word × State := (Config.freeWord s.free, { s with free := s.free + 1 })

/-- Record an output (log entry 5). -/
def emit (o : Output) (s : State) : State := { s with out := s.out ++ [o] }

/-! ## Access to the tables -/

def getPort (s : State) (p : Nat) : Port := tget Port.reset s.port.ports p
def setPort (p : Nat) (v : Port) (s : State) : State :=
  { s with port := { s.port with ports := tput Port.reset s.port.ports p v } }
def getLane (s : State) (l : Nat) : Lane := tget Lane.reset s.port.lanes l
def setLane (l : Nat) (v : Lane) (s : State) : State :=
  { s with port := { s.port with lanes := tput Lane.reset s.port.lanes l v } }
def getVf (s : State) (v : Nat) : Vf := tget Vf.reset s.vf.vfs v
def setVf (v : Nat) (x : Vf) (s : State) : State :=
  { s with vf := { s.vf with vfs := tput Vf.reset s.vf.vfs v x } }
def getHost (s : State) (h : Nat) : HostSpace := tget HostSpace.reset s.win.hosts h
def setHost (h : Nat) (x : HostSpace) (s : State) : State :=
  { s with win := { s.win with hosts := tput HostSpace.reset s.win.hosts h x } }
def getLink (s : State) (l : Nat) : Link := tget Link.reset s.obl.links l
def setLink (l : Nat) (x : Link) (s : State) : State :=
  { s with obl := { s.obl with links := tput Link.reset s.obl.links l x } }
def getStw (s : State) (l : Nat) : StwLink := tget StwLink.reset s.stw.links l
def setStw (l : Nat) (x : StwLink) (s : State) : State :=
  { s with stw := { s.stw with links := tput StwLink.reset s.stw.links l x } }
def getSlot (s : State) (k : Nat) : SageSlot := tget SageSlot.reset s.sage.slots k
def setSlot (k : Nat) (x : SageSlot) (s : State) : State :=
  { s with sage := { s.sage with slots := tput SageSlot.reset s.sage.slots k x } }
def getChan (s : State) (c : Nat) : Channel := tget Channel.reset s.slot.ch c
def setChan (c : Nat) (x : Channel) (s : State) : State :=
  { s with slot := { s.slot with ch := tput Channel.reset s.slot.ch c x } }
def getMover (s : State) (m : Nat) : Mover := tget Mover.reset s.move.movers m
def setMover (m : Nat) (x : Mover) (s : State) : State :=
  { s with move := { s.move with movers := tput Mover.reset s.move.movers m x } }
def getClass (s : State) (c : Nat) : MoveClass := tget MoveClass.reset s.move.classes c
def setClass (c : Nat) (x : MoveClass) (s : State) : State :=
  { s with move := { s.move with classes := tput MoveClass.reset s.move.classes c x } }
def getMig (s : State) (k : Nat) : Option Migration := tget none s.move.migs k
def setMig (k : Nat) (x : Option Migration) (s : State) : State :=
  { s with move := { s.move with migs := tput none s.move.migs k x } }
def getEgress (s : State) (e : Nat) : Egress := tget Egress.reset s.sched.egress e
def setEgress (e : Nat) (x : Egress) (s : State) : State :=
  { s with sched := { s.sched with egress := tput Egress.reset s.sched.egress e x } }
def getSchedQ (s : State) (q : Nat) : SchedQ := tget SchedQ.reset s.sched.queues q
def setSchedQ (q : Nat) (x : SchedQ) (s : State) : State :=
  { s with sched := { s.sched with queues := tput SchedQ.reset s.sched.queues q x } }
def getPolicer (s : State) (p : Nat) : PolicerReg := tget PolicerReg.reset s.sched.policers p
def setPolicer (p : Nat) (x : PolicerReg) (s : State) : State :=
  { s with sched := { s.sched with policers := tput PolicerReg.reset s.sched.policers p x } }
def getDomain (s : State) (d : Nat) : Domain := tget Domain.reset s.dir.domains d
def setDomain (d : Nat) (x : Domain) (s : State) : State :=
  { s with dir := { s.dir with domains := tput Domain.reset s.dir.domains d x } }
def getLine (s : State) (a : Nat) : DirLine := tget DirLine.reset s.dir.lines a
def setLine (a : Nat) (x : DirLine) (s : State) : State :=
  { s with dir := { s.dir with lines := tput DirLine.reset s.dir.lines a x } }
def getRouteEnt (s : State) (w : Nat) : RouteEnt := tget RouteEnt.reset s.obl.routes w
def setRouteEnt (w : Nat) (x : RouteEnt) (s : State) : State :=
  { s with obl := { s.obl with routes := tput RouteEnt.reset s.obl.routes w x } }

/-- A warm reset drains the switch: no ingress admits a new transaction (01 R469, step 1). -/
def warmDrains (s : State) : Bool :=
  match s.glb.warm with
  | .drain _ => true
  | .links _ => true
  | _ => false

/-- A warm reset waits for the replay buffers of its links, which send nothing new any more (01 R469, step 4; 10 R311). -/
def linksClose (s : State) : Bool :=
  match s.glb.warm with
  | .links _ => true
  | _ => false

/-! ## Host-memory records (02 R468) -/

/-- Bus Master Enable of a function. -/
def fnBme (s : State) : Fn → Bool
  | .pf => s.host.pfBme
  | .vf v => (getVf s v).bme

/-- The function's upstream port is up: the VFs are functions of the PF's port (12 R332). -/
def fnUp (s : State) (_ : Fn) : Bool := s.host.pfUp

/-- Records of this function are held (02 R468). -/
def fnHeld (s : State) (f : Fn) : Bool := !(fnBme s f && fnUp s f)

/-- A record of this stream is held, so its ring counts as full (02 R468). -/
def streamHeld (s : State) (x : Stream) : Bool := s.host.held.any (fun w => w.stream == x)

/-- Write a record upstream, or hold it behind the held ones (02 R468). -/
def hostWrite (w : HostWrite) (s : State) : State :=
  if fnHeld s w.fn || s.host.held.any (fun x => x.fn == w.fn)
  then { s with host := { s.host with held := s.host.held ++ [w] } }
  else emit (.host w) s

/-! ## Vectors (13 R358-R360, 12 R335) -/

/-- The VF object exists: CREATED, ORPHANED or DESTROYING (12 R333). -/
def vfExists (x : Vf) : Bool := x.state == .created || x.state == .orphaned || x.state == .destroying

/-- The VF that reserves a global vector, if any (12 R334). -/
def vecOwner (s : State) (v : Nat) : Option Nat :=
  (s.vf.vfs.find? (fun e => vfExists e.2 && decide (e.2.vecBase ≤ v) && decide (v < e.2.vecBase + e.2.vecCount))).map
    (·.1)

/-- The function whose MSI-X table holds the vector. -/
def vecFn (s : State) (v : Nat) : Fn :=
  match vecOwner s v with
  | some x => .vf x
  | none => .pf

/-- The function mask of the vector's function. -/
def fnMask (s : State) : Fn → Bool
  | .pf => s.host.funcMask
  | .vf v => (getVf s v).funcMask

/-- A message of this vector is held (13 R360; 02 R468: behind the held records of its function). -/
def vecHeld (s : State) (v : Nat) : Bool :=
  !(tget false s.evt.unmasked v) || fnMask s (vecFn s v) || fnHeld s (vecFn s v)
    || s.host.held.any (fun w => w.fn == vecFn s v)

def getVec (s : State) (v : Nat) : Coalescer := tget Coalescer.reset s.evt.vec v
def setVec (v : Nat) (c : Coalescer) (s : State) : State :=
  { s with evt := { s.evt with vec := tput Coalescer.reset s.evt.vec v c } }

/-- The MSI-X message of a vector leaves (13 R359, R363 EVT_SENT). -/
def sendMsix (v : Nat) (s : State) : State :=
  emit (.msix (vecFn s v) v) { s with evt := { s.evt with sent := sat64 s.evt.sent } }

/-- The vector fires: the coalescer is idle again, and the message leaves or is held (13 R359, R360). -/
def fireVec (v : Nat) (s : State) : State :=
  if vecHeld s v
  then setVec v { getVec s v with collected := 0, startedAt := 0, heldMsg := true } s
  else sendMsix v (setVec v { getVec s v with collected := 0, startedAt := 0 } s)

/-- One occurrence is offered to a vector (13 R359, R360). -/
def offerVec (v : Nat) (s : State) : State :=
  if (getVec s v).heldMsg then s
  else if (getVec s v).countMax ≤ (getVec s v).collected + 1 then fireVec v s
  else if (getVec s v).collected = 0
  then setVec v { getVec s v with collected := 1, startedAt := s.time.localNs } s
  else setVec v { getVec s v with collected := (getVec s v).collected + 1 } s

/-- A PF VECTOR field offers, unless a VF reserves the vector (12 R335, 13 R358). -/
def offerPf (en : Bool) (v : Nat) (s : State) : State :=
  if en && (vecOwner s v).isNone then offerVec v s else s

/-- A VF ring offers to VEC_BASE + VECTOR (13 R358). -/
def offerVf (v : Nat) (en : Bool) (vector : Nat) (s : State) : State :=
  if en then offerVec ((getVf s v).vecBase + vector) s else s

/-! ## Event lines (13 R351-R357) -/

/-- An occurrence on a line's host route (13 R353, R357). -/
def offerLine (n : Nat) (s : State) : State :=
  offerPf (tget LineRoute.reset s.evt.route n).hostEn (tget LineRoute.reset s.evt.route n).vector s

/-- One rising edge on line `n`: the pending bit, the count, the offer if unmasked, and the core route
(13 R351, R353, R355, R357). -/
def eventEdge (n : Nat) (s : State) : State :=
  let r := n / 64
  let e := s.evt
  let s1 := { s with evt := { e with
    pend := tput 0 e.pend r (tget 0 e.pend r ||| (1#64 <<< (n % 64)))
    count := tput 0 e.count n ((tget 0 e.count n + 1) % 65536) } }
  let s2 := if bit (tget (BitVec.allOnes 64) e.mask r) (n % 64) then s1 else offerLine n s1
  if (tget LineRoute.reset e.route n).coreEn then emit (.core (tget LineRoute.reset e.route n).coreVector) s2 else s2

/-! ## Faults (15 R390-R397) -/

/-- The unit encoding of 15 R401. -/
def unitCode (kind number : Nat) : Nat := kind * 4096 + number

/-- Write history entry `e` at FLT_HIST_HEAD (15 R396). -/
def histPush (e : HistEntry) (s : State) : State :=
  { s with flt := { s.flt with
      hist := tput HistEntry.reset s.flt.hist (s.flt.histHead % 32) { e with seq := s.flt.histHead % 65536 }
      histHead := (s.flt.histHead + 1) % 2 ^ 32 } }

/-- The newest history entry. -/
def histNewest (s : State) : HistEntry := tget HistEntry.reset s.flt.hist ((s.flt.histHead + 31) % 32)

/-- Record a raise in the history (15 R397). -/
def histRaise (merged : Bool) (k unit : Nat) (d0 d1 : Word) (s : State) : State :=
  let n := histNewest s
  if merged && n.cls == k && n.unit == unit && decide (s.time.localNs < n.lastRaise + 1000000)
  then { s with flt := { s.flt with
      hist := tput HistEntry.reset s.flt.hist ((s.flt.histHead + 31) % 32)
        { n with repeats := satAdd 16 n.repeats 1
                 repeatSat := n.repeatSat || decide (65534 ≤ n.repeats)
                 lastRaise := s.time.localNs } } }
  else histPush ⟨k, merged, false, unit, 0, 0, s.time.now, d0, d1, s.time.localNs⟩ s

/-- The collector handles one raise of class `k` by `unit` (15 R391). -/
def raiseWith (k unit : Nat) (d0 d1 : Word) (s : State) : State :=
  let m := bit s.flt.status k
  let s1 := { s with flt := { s.flt with
    status := s.flt.status ||| (1#64 <<< k)
    merged := if m then sat64 s.flt.merged else s.flt.merged
    count := tput 0 s.flt.count k (sat64 (tget 0 s.flt.count k)) } }
  eventEdge (384 + k) (histRaise m k unit d0 d1 s1)

/-- A pulse of class `k` (15 R394 "pulse"): a raise with its line dropped at once. The DETAIL words that the
spec does not state for the class are free values (log entry 7). -/
def pulse (k unit : Nat) (d0 d1 : Option Word) (s : State) : State :=
  match d0, d1 with
  | some a, some b => raiseWith k unit a b s
  | some a, none => raiseWith k unit a (takeFree s).1 (takeFree s).2
  | none, some b => raiseWith k unit (takeFree s).1 b (takeFree s).2
  | none, none => raiseWith k unit (takeFree s).1 (takeFree (takeFree s).2).1 (takeFree (takeFree s).2).2

/-- Whether `unit` asserts the line of class `k`. -/
def asserted (s : State) (k unit : Nat) : Bool := s.flt.asserted.contains (k, unit)

/-- Whether any unit asserts the line of class `k` (FLT_LINES, 15 R390). -/
def lineUp (s : State) (k : Nat) : Bool := s.flt.asserted.any (fun e => e.1 == k)

/-- `unit` asserts its line of class `k`: a raise on the rising edge, nothing while it is already
asserted (15 R390, R391). -/
def assertLine (k unit : Nat) (d0 d1 : Option Word) (s : State) : State :=
  if asserted s k unit then s
  else pulse k unit d0 d1 { s with flt := { s.flt with asserted := s.flt.asserted ++ [(k, unit)] } }

/-- `unit` drops its line of class `k`. -/
def dropLine (k unit : Nat) (s : State) : State :=
  { s with flt := { s.flt with asserted := s.flt.asserted.filter (fun e => !(e.1 == k && e.2 == unit)) } }

/-- An access to a half of the on-package memory that was repeated (15 R394). -/
def memRetried (half : Option Nat) (s : State) : State :=
  match half with
  | some n => pulse 19 (unitCode 9 (n % 2)) none none s
  | none => s

/-- A reset marker in the history: DETAIL1 [1:0] 1 cold, 2 warm; [15:8] the source (15 R396, R399). -/
def resetMarker (kind source : Nat) (s : State) : State :=
  histPush ⟨0xFF, false, false, unitCode 0 0, 0, 0, s.time.now, (takeFree s).1, pack [(kind, 0), (source, 8)],
    s.time.localNs⟩ (takeFree s).2

/-- Whether a unit is retired (15 R401). -/
def unitRetired (s : State) (kind number : Nat) : Bool := s.flt.retired.contains (unitCode kind number)

/-! ## Clamps and the report ring (02 R72-R75) -/

/-- PHASE of entry k of a ring of 2^z entries (02 R60). -/
def phase (k z : Nat) : Bool := k / 2 ^ z % 2 == 0

/-- The report ring has room (02 R74, R468). -/
def rptRoom (s : State) : Bool :=
  s.glb.rpt.enable && decide ((s.glb.rpt.produced + 2 ^ 32 - s.glb.rpt.consumed) % 2 ^ 32 < 2 ^ s.glb.rpt.sizeLog2)
    && !(streamHeld s .report)

/-- Write one configuration report record (02 R73, R74) and offer its vector. -/
def rptWrite (r : ReportRec) (s : State) : State :=
  let g := s.glb.rpt
  let w0 := pack [(r.source, 0), (b2n (phase g.produced g.sizeLog2) * 128, 8), (r.fieldHi, 16), (r.fieldLo, 24),
    (r.seq % 2 ^ 32, 32)]
  offerPf g.vectorEn g.vector
    (hostWrite ⟨.pf, .report, g.base * 4096 + g.produced % 2 ^ g.sizeLog2 * 32, [w0, r.loc, r.written, r.used]⟩
      { s with glb := { s.glb with rpt := { g with produced := (g.produced + 1) % 2 ^ 32 } } })

/-- A clamp without a record (02 R74). -/
def rptLost (s : State) : State :=
  { s with glb := { s.glb with rpt := { s.glb.rpt with lost := sat64 s.glb.rpt.lost } } }

/-- Held records are written as space appears, ahead of any later record (02 R75). -/
def flushHeldRecs : List ReportRec → State → State
  | [], s => { s with glb := { s.glb with heldRecs := [] } }
  | r :: rs, s => if rptRoom s then flushHeldRecs rs (rptWrite r s) else { s with glb := { s.glb with heldRecs := r :: rs } }

/-- One clamp: counted, and its record written, held (SOURCE 4 and 5 before the ring was first enabled) or
lost (02 R72, R74, R75). -/
def clamp (r : ReportRec) (s : State) : State :=
  let s1 := { s with glb := { s.glb with clampCount := sat64 s.glb.clampCount } }
  if (r.source == 4 || r.source == 5) && !s.glb.rptEver
  then if s.glb.heldRecs.length < 64 then { s1 with glb := { s1.glb with heldRecs := s1.glb.heldRecs ++ [r] } }
       else rptLost s1
  else if rptRoom s1 && s1.glb.heldRecs.isEmpty then rptWrite r s1 else rptLost s1

/-- WHERE of a register or doorbell access (02 R73, 12 R345). -/
def whereOf (f : Fn) (off : Nat) : Word :=
  match f with
  | .pf => w64 off
  | .vf v => pack [(off, 0), (0x8000 + v, 48)]

/-- A clamp of a register or doorbell access (02 R72; 12 R345: VF_CLAMPS counts it as well). -/
def clampAccess (f : Fn) (source off hi lo : Nat) (written used : Word) (s : State) : State :=
  let s1 := clamp ⟨source, hi, lo, 0, whereOf f off, written, used⟩ s
  match f with
  | .pf => s1
  | .vf v => setVf v { getVf s1 v with clamps := satAdd 32 (getVf s1 v).clamps 1 } s1

/-- A discarded access is reported with FIELD 0xFF and VALUE_USED 0 (02 R73). -/
def discard (f : Fn) (source off : Nat) (v : Word) (s : State) : State := clampAccess f source off 0xFF 0xFF v 0 s

/-- The record of a clamped command argument (02 R73, SOURCE 2). -/
def argRecord (opcode : BitVec 16) (seq : Nat) (c : FieldClamp) : ReportRec :=
  ⟨2, c.hi, c.lo, seq % 2 ^ 32, pack [(c.offset, 0), (c.dataOff % 2 ^ 32, 8), (b2n c.inData, 40), (opcode.toNat, 48)],
    w64 c.written, w64 c.used⟩

/-! ## The way toward another switch (10 R275, R288, R299-R302) -/

/-- A link carries messages: ACTIVE, or in a retrain, and not draining (10 R291, R274). -/
def linkWorks (s : State) (l : Nat) : Bool :=
  ((getLink s l).state == .active || (getLink s l).state == .retrain) && !(getLink s l).draining

/-- The link in use toward a switch by its route entry: the primary, or the alternate while flows are on it or the
primary does not work (10 R275, R300, R302). -/
def linkToward (s : State) (sw : Nat) : Option Nat :=
  let r := getRouteEnt s sw
  let ok := fun (e : Nat) => decide (112 ≤ e) && decide (e < 120) && linkWorks s (e - 112)
  if !r.usingAlt && ok r.primary then some (r.primary - 112)
  else if ok r.alt then some (r.alt - 112)
  else if ok r.primary then some (r.primary - 112)
  else none

/-- Parts of a bypass message that take sequence numbers (10 R290, 16 R412); 0 for the messages of R308, R167 and R185, whose
form on the wire the spec does not give (log entry 29), and for INIT, whose exchange sets the numbers (R294). -/
def bypassParts : Bypass → Nat
  | .cmdFwd _ _ => 4
  | .cplFwd _ => 2
  | .epoch _ => 1
  | .heartbeat _ _ => 1
  | .init _ => 0
  | .sleep _ => 1
  | .propFwd _ _ => 2
  | .propRes _ _ _ => 1
  | .timeReq _ _ _ _ => 1
  | .timeRsp _ _ _ _ _ => 2
  | .check _ => 0
  | .apply _ => 0
  | .defs _ => 0
  | .cutOff _ _ => 0
  | .walk _ _ => 0
  | .relayed _ _ ps => ps.length

/-- Micro-flits of a link that are not acknowledged (10 R288). -/
def bypassOut (x : Link) : Nat := (x.btxNext + 255 - x.btxAcked) % 256

/-- Send a bypass message on a link: its micro-flits take the next numbers, or it waits while 255 are
unacknowledged, in a retrain, or until the direction wakes (10 R288, R294, R295). -/
def bypassOn (l sw : Nat) (m : Bypass) (s : State) : State :=
  let x := getLink s l
  let n := bypassParts m
  if n = 0 then emit (.bypass sw m) s
  else if x.state == .active && !x.txAsleep && x.bwait.isEmpty && decide (bypassOut x + n ≤ Config.maxBypassUnacked) then
    emit (.bypass sw m) (setLink l { x with
      btxNext := (x.btxNext + n) % 256, bunacked := x.bunacked ++ [((x.btxNext + n + 255) % 256, sw, m)] } s)
  else setLink l { x with bwait := x.bwait ++ [(sw, m)] } s

/-- Send a bypass message toward a switch; without a working link it is discarded (10 R288, R302). A worker that
has not yet learned the manager switch's number (32) sends it unnumbered (log entry 20). -/
def sendBypass (sw : Nat) (m : Bypass) (s : State) : State :=
  match linkToward s sw with
  | some l => bypassOn l sw m s
  | none => if sw = 32 then emit (.bypass sw m) s else s

/-! ## Time bases (16) -/

/-- The slewing still in force per local nanosecond, in parts per 10^9 (16 R414). -/
def slewStep (t : Thyme) : Int :=
  let lim := Int.ofNat (t.cfg.slewPpm * 1000)
  let want : Int := if 0 < t.slewLeft then lim else if t.slewLeft < 0 then -lim else 0
  let d := clampInt (t.ratePpb + want) (-lim) lim - t.ratePpb
  if 0 < t.slewLeft then (if t.slewLeft < d then t.slewLeft else d)
  else if t.slewLeft < 0 then (if d < t.slewLeft then t.slewLeft else d) else 0

/-- One nanosecond of the local time base passes: Thyme advances with its frequency correction and slew
(16 R407, R408, R414, R416). -/
def tickTime (t : Thyme) : Thyme :=
  let n := (Int.ofNat (t.now * 10 ^ 9 + t.subNs) + 10 ^ 9 + t.ratePpb + slewStep t).toNat
  { t with localNs := (t.localNs + 1) % 2 ^ 64, now := n / 10 ^ 9 % 2 ^ 64, subNs := n % 10 ^ 9,
           slewLeft := t.slewLeft - slewStep t }

/-! ## Lane tests as time passes (03 R92) -/

/-- Half bits per nanosecond at a RATE code of LANE_TEST_CTRL. -/
def halfBits (rate : Nat) : Nat :=
  match rate with
  | 1 => 5 | 2 => 10 | 3 => 16 | 4 => 32 | 5 => 64 | 6 => 128 | 8 => 112 | 9 => 256
  | _ => 0

/-- A PAM4 rate: 64 GT/s and the rates of the O-lanes (03 R80). -/
def pam4 (rate : Nat) : Bool := decide (6 ≤ rate)

/-- The stages of a pattern's shift register that are added: x^n + x^k + 1, as ITU-T O.150 has it (03 R92; log entry 93). -/
def prbsTaps (pattern : Nat) : Nat × Nat :=
  match pattern with
  | 1 => (7, 6)
  | 2 => (9, 5)
  | 3 => (15, 14)
  | 4 => (23, 18)
  | _ => (31, 28)

/-- O.150 inverts the output of its longer patterns. -/
def prbsInverted (pattern : Nat) : Bool := decide (3 ≤ pattern)

/-- The bit that follows a shift register. -/
def prbsNext (pattern reg : Nat) : Bool := testb reg ((prbsTaps pattern).1 - 1) != testb reg ((prbsTaps pattern).2 - 1)

/-- Shift a bit into a register. -/
def prbsShift (pattern reg : Nat) (b : Bool) : Nat := (2 * reg + b2n b) % 2 ^ (prbsTaps pattern).1

/-- The register of a generator as its test begins: all ones (log entry 93). -/
def prbsSeed (pattern : Nat) : Nat := 2 ^ (prbsTaps pattern).1 - 1

/-- The level of the symbol that a pair of bits is Gray-mapped to (03 R92). -/
def grayLevel (first second : Bool) : Nat := if first then (if second then 2 else 3) else b2n second

/-- The generator runs; in the far-end loop it is unused (03 R91). -/
def prbsGen (t : LaneTest) : Bool := t.genEn && t.pattern != 0 && t.loop != 3

/-- Bit `i` of the generator is inverted by the injector. At a PAM4 rate it is the second bit of its pair, whose inversion moves
the symbol by one level (03 R92). -/
def prbsInject (t : LaneTest) (p : Prbs) (i : Nat) : Bool :=
  prbsGen t && (match t.injMode with
    | 1 => i == (if pam4 t.rate then p.single ||| 1 else p.single)
    | 2 => (i + 1) % 2 ^ t.injLog2 == 0
    | _ => false)

/-- Bit `i` as it leaves the generator. -/
def prbsSent (t : LaneTest) (p : Prbs) (i : Nat) : Bool :=
  (prbsNext t.pattern p.tx != prbsInverted t.pattern) != prbsInject t p i

/-- Bit `i` as the receiver finds it: in the parallel loop what the generator sent, in the serial loop that with the errors of
an analog path, which are free; else what the partner sends, which is free (03 R91, R92; log entry 93). -/
def prbsReceived (t : LaneTest) (p : Prbs) (free : Bool) (i : Nat) : Bool :=
  if prbsGen t && t.loop == 2 then prbsSent t p i
  else if prbsGen t && t.loop == 1 then prbsSent t p i != free
  else free

/-- A received bit is not the one that the checker's register calls for; a register of zeros is no state of the pattern. -/
def prbsWrong (t : LaneTest) (p : Prbs) (got : Bool) : Bool :=
  p.rx == 0 || (prbsNext t.pattern p.rx != prbsInverted t.pattern) != got

/-- The checker takes one bit: it seeds itself from the incoming data, locks after 128 good bits, loses lock at 2,048 errors in
4,096 bits, and counts while it is locked (03 R92). -/
def prbsCheck (t : LaneTest) (got : Bool) (i : Nat) (x : Lane) : Lane :=
  let p := x.prbs
  let e := prbsWrong t p got
  if x.prbsLock then
    let errs := (if e then [i] else []) ++ p.errAt.filter (fun k => decide (i < k + 4096))
    let keep := decide (errs.length < 2048)
    { x with prbsBits := sat64 x.prbsBits, prbsErrs := satAdd 48 x.prbsErrs (b2n e), prbsLock := keep
             prbs := { p with errAt := if keep then errs else [], clean := 0, rx := prbsShift t.pattern p.rx (prbsNext t.pattern p.rx) } }
  else
    let c := if e then 0 else p.clean + 1
    { x with prbsLock := decide (128 ≤ c), prbs := { p with
        clean := c, errAt := [], rx := prbsShift t.pattern p.rx (got != prbsInverted t.pattern) } }

/-- One bit of the generator: it is sent, counted if it was inverted, and the register moves on. -/
def prbsStep (t : LaneTest) (i : Nat) (x : Lane) : Lane :=
  let p := x.prbs
  if !(prbsGen t) then x
  else { x with prbsInjected := satAdd 48 x.prbsInjected (b2n (prbsInject t p i))
                prbs := { p with tx := prbsShift t.pattern p.tx (prbsNext t.pattern p.tx), sent := (2 * p.sent + b2n (prbsSent t p i)) % 4 } }

/-- The level at the TX pins of a lane that sends its pattern at a PAM4 rate (03 R91, R92). -/
def laneLevel (x : Lane) : Nat := grayLevel (testb x.prbs.sent 1) (testb x.prbs.sent 0)

/-- The bits of a lane that pass in one nanosecond, from number `n` on. -/
def prbsRun (t : LaneTest) (free n : Nat) : List Nat → Lane → Lane
  | [], x => x
  | j :: js, x =>
    let got := prbsReceived t x.prbs (free.testBit j) (n + j)
    let x1 := prbsStep t (n + j) x
    prbsRun t free n js (if t.chkEn then prbsCheck t got (n + j) x1 else x1)

/-- One nanosecond of a lane test; two free words say which bits of a partner or an analog path are wrong. -/
def laneTick (l : Nat) (s : State) : State :=
  let x := getLane s l
  let h := x.prbs.half + halfBits x.test.rate
  let a := takeFree s
  let b := takeFree a.2
  let y := prbsRun x.test (a.1.toNat + b.1.toNat * 2 ^ 64) x.prbs.bits (List.range (h / 2)) x
  setLane l { y with prbs := { y.prbs with half := h % 2, bits := x.prbs.bits + h / 2 } } b.2

def laneTicks : List Nat → State → State
  | [], s => s
  | l :: ls, s => laneTicks ls (laneTick l s)

/-- The lanes that a test with a pattern runs on. -/
def testedLanes (s : State) : List Nat := (tkeys s.port.lanes).filter (fun l => (getLane s l).test.pattern != 0)

/-- A PPS_OUT pulse ends after PPS_WIDTH_US (16 R419). -/
def ppsFall (s : State) : State :=
  if s.time.ppsHigh && decide (s.time.ppsOutLast + 1000 * s.time.cfg.ppsWidthUs ≤ s.time.now) then
    emit (.pin .ppsOut false) { s with time := { s.time with ppsHigh := false } }
  else s

/-- What a step does on an empty queue: 1 ns of local time passes, and with it the bits of lane tests and the width of a
PPS_OUT pulse (log entry 4). -/
def idleTick (s : State) : State := ppsFall (laneTicks (testedLanes s) { s with time := tickTime s.time })

end Sys2Proof.Machine
end

