-- ==== Sys2Proof/Machine/Seq.lean ====
section
/-! DEFINITION. The command sequencer (02 R55-R69): objects and versions, the checks of R61 in their order,
completions, and the one path by which every opcode runs. -/

namespace Sys2Proof.Machine

/-! ## Completion codes (02 R61) -/

def OK : Nat := 0
def OK_CLAMPED : Nat := 1
def EPOCH_STALE : Nat := 0x10
def VERSION_CONFLICT : Nat := 0x11
def BAD_OPCODE : Nat := 0x12
def BAD_OBJECT : Nat := 0x13
def PRECONDITION : Nat := 0x14
def LOCKED : Nat := 0x15
def NO_RESOURCE : Nat := 0x16
def NOT_PERMITTED : Nat := 0x18
def UNIT_FAULT : Nat := 0x1A
def TIMEOUT : Nat := 0x1B
def DESC_FAULT : Nat := 0x1C

/-! ## Objects (02 R57) -/

/-- The port numbers that a bifurcation code creates in a block, as i of 4b + i (00 R16, 02 R47). -/
def bifurPorts (code : Nat) : List Nat :=
  match code with
  | 0 => [0]
  | 1 => [0, 2]
  | 2 => [0, 2, 3]
  | 3 => [0, 1, 2]
  | _ => [0, 1, 2, 3]

/-- The current bifurcation creates port `p` (00 R16). -/
def portCreated (s : State) (p : Nat) : Bool :=
  decide (p < 112) && (bifurPorts (tget 0 s.port.bifur (p / 4))).contains (p % 4)

/-- Egress `e` exists: a created port, or an egress beyond the ports (04 R115, 09 R251). -/
def egressExists (s : State) (e : Nat) : Bool := if e < 112 then portCreated s e else decide (e < 129)

/-- The OBJECT_ID names an object of its class (02 R57 and the chapter that owns the class). -/
def objExists (s : State) (cls idx : Nat) : Bool :=
  let kind := idx / 2 ^ 48
  let n := idx % 2 ^ 48
  match cls with
  | 0x01 => decide (idx = 0)
  | 0x02 => decide (idx < 64)
  | 0x03 => decide (idx < 64)
  | 0x04 => if kind ≤ 2 then decide (n < 64) else decide (kind = 3) && decide (n = 0)
  | 0x05 => decide (idx < 32)
  | 0x06 => decide (kind ≤ 1) && decide (n = 0)
  | 0x07 => decide (idx < 64)
  | 0x08 => if kind = 0 then decide (n < 16) else if kind = 1 then decide (n < 8) else decide (kind = 2) && decide (n = 0)
  | 0x09 =>
    if kind = 0 || kind = 2 then decide (n < 65536) && decide (n % 256 ≤ 16) && egressExists s (n / 256)
    else if kind = 1 then decide (n < 4096)
    else decide (kind = 3) && decide (n < 120) && egressExists s n
  | 0x0A =>
    if kind = 0 then decide (n < 28) else if kind = 1 then portCreated s n else decide (kind = 2) && decide (n < 512)
  | 0x0B =>
    if kind = 0 || kind = 3 then decide (n < 8) else if kind = 1 then decide (n < 32)
    else if kind = 2 then decide (n = 0) else if kind = 4 then decide (n < 8192) else decide (kind = 5) && decide (n < 112)
  | 0x0C => decide (idx < 2048)
  | 0x0D => if kind = 0 then decide (n < 4096) else decide (kind = 1) && decide (n < 8192)
  | 0x0E => decide (kind ≤ 1) && decide (n < 32)
  | 0x0F =>
    let k := idx / 4096
    let u := idx % 4096
    decide (idx < 65536) &&
      (match k with
       | 0 => decide (u = 0)
       | 1 => decide (u < 512)
       | 2 => portCreated s u
       | 3 => decide (u < 256)
       | 4 => decide (u < 64)
       | 5 => decide (u < 32)
       | 6 => decide (u < 8)
       | 7 => decide (u < 32)
       | 8 => decide (u < 16)
       | 9 => decide (u < 2)
       | 10 => decide (u < 4)
       | 11 => decide (u < 64)
       | 12 => decide (u < 16)
       | 13 => decide (u < 112)
       | 14 => decide (u < 8)
       | _ => false)
  | 0x10 => decide (idx ≤ 2)
  | _ => false

/-- The staged objects (02 R69). -/
def stagedObj (cls idx : Nat) : Bool :=
  cls == 1 || cls == 2 || cls == 3 || cls == 5 || (cls == 9 && idx / 2 ^ 48 == 3) || (cls == 0x10 && idx != 0)

/-- The opcodes of 02 R71. -/
def opcodeTable : List Nat :=
  [0x0001, 0x0002, 0x0003, 0x0004, 0x0005, 0x0006, 0x1001, 0x1002, 0x1003, 0x2001, 0x2002, 0x2003, 0x2004, 0x3001,
   0x3002, 0x3003, 0x4001, 0x4002, 0x4003, 0x4004, 0x4005, 0x5001, 0x5002, 0x5003, 0x6001, 0x6002, 0x6003, 0x6004,
   0x7001, 0x7002, 0x7003, 0x7004, 0x7005, 0x7006, 0x8001, 0x8002, 0x8003, 0x9001, 0x9002, 0x9003, 0x9004, 0x9005,
   0xA001, 0xA002, 0xA003, 0xA004, 0xA005, 0xA006]

/-- Opcodes marked T (02 R71). -/
def tenantOps : List Nat := [0x0001, 0x0003, 0x0004, 0x0005, 0x2004, 0x5002]

/-- The opcode acts on this class and KIND (02 R71 and the chapter that owns the class). -/
def opActs (op cls idx : Nat) : Bool :=
  let kind := idx / 2 ^ 48
  match op with
  | 0x0003 => true
  | 0x0004 => stagedObj cls idx
  | 0x0005 => stagedObj cls idx
  | 0x0006 => cls == 1 || cls == 2 || cls == 3
  | 0x1001 => cls == 1
  | 0x1002 => cls == 8 && kind == 0
  | 0x1003 => cls == 8 && (kind == 1 || kind == 2)
  | 0x2001 => cls == 2
  | 0x2002 => cls == 2
  | 0x2003 => cls == 2
  | 0x2004 => cls == 3
  | 0x3001 => cls == 4 && kind == 0
  | 0x3002 => cls == 4 && kind == 1
  | 0x3003 => cls == 4 && (kind == 2 || kind == 3)
  | 0x4001 => cls == 5
  | 0x4002 => cls == 5
  | 0x4003 => cls == 5
  | 0x4004 => cls == 6 && kind == 0
  | 0x4005 => cls == 6 && kind == 1
  | 0x5001 => cls == 3
  | 0x5002 => cls == 7
  | 0x5003 => cls == 7
  | 0x6001 => cls == 9 && kind == 0
  | 0x6002 => cls == 9 && kind == 1
  | 0x6003 => cls == 9 && kind == 2
  | 0x6004 => cls == 9 && kind == 3
  | 0x7001 => cls == 0xA && kind == 0
  | 0x7002 => cls == 0xA && kind == 1
  | 0x7003 => cls == 0xA && kind == 2
  | 0x7004 => cls == 0xA && kind == 2
  | 0x7005 => cls == 0xB && decide (kind ≤ 2)
  | 0x7006 => cls == 0xB && decide (3 ≤ kind)
  | 0x8001 => cls == 0xC
  | 0x8002 => cls == 0xC
  | 0x8003 => cls == 0xD
  | 0x9001 => cls == 0xE
  | 0x9002 => cls == 0xE && kind == 0
  | 0x9003 => cls == 0xE && kind == 0
  | 0x9004 => cls == 0xE && kind == 0
  | 0x9005 => cls == 0xE && kind == 0
  | 0xA001 => cls == 0xF && decide (1 ≤ idx / 4096) && decide (idx / 4096 ≤ 7)
  | 0xA002 => cls == 0xF && decide (1 ≤ idx / 4096) && decide (idx / 4096 ≤ 7)
  | 0xA003 => cls == 0x10 && idx == 0
  | 0xA004 => cls == 0x10 && idx == 1
  | 0xA005 => cls == 0x10 && idx == 1
  | 0xA006 => cls == 0x10 && idx == 2
  | _ => false

/-- NOP and EPOCH_CLAIM are the opcodes of class 0x00: they ignore OBJECT_ID (02 R57). -/
def globalOp (op : Nat) : Bool := op == 1 || op == 2

/-- The version key of an object: both KINDs of a slot channel are one object (14 R366). -/
def verKey (o : Word) : Nat :=
  if objClass o = 0xE then objKey 0xE (objIndex o % 32) else objKey (objClass o) (objIndex o)

/-- Objects that exist from reset start at version 1; VFs, domains, partitions and quotas come into being
later (02 R65, 06 R164, 12 R333). -/
def fromReset (key : Nat) : Bool :=
  !(key / 2 ^ 52 == 0xC || (key / 2 ^ 52 == 4 && decide (key % 2 ^ 52 / 2 ^ 48 ≤ 2)))

/-- The version of an object (02 R65). The table holds its distance from the starting value. -/
def keyVersion (s : State) (key : Nat) : Nat := tget 0 s.cmd.versions key + b2n (fromReset key)

def objVersion (s : State) (o : Word) : Nat := keyVersion s (verKey o)

/-- Set the distance of an object's version from its starting value. -/
def setVer (key n : Nat) (s : State) : State :=
  { s with cmd := { s.cmd with versions := tput 0 s.cmd.versions key n } }

/-- Each successful state-changing command increments the version (02 R65). -/
def bumpVer (key : Nat) (s : State) : State := setVer key (tget 0 s.cmd.versions key + 1) s

/-! ## Rings -/

/-- The ring registers of a ring. -/
def getRing (s : State) : RingId → CmdRing
  | .mring m => if m = 0 then s.cmd.ring0 else s.cmd.ring1
  | .tenant v => (getVf s v).ring

def setRing (r : RingId) (x : CmdRing) (s : State) : State :=
  match r with
  | .mring m => if m = 0 then { s with cmd := { s.cmd with ring0 := x } } else { s with cmd := { s.cmd with ring1 := x } }
  | .tenant v => setVf v { getVf s v with ring := x } s

/-- The function that owns the ring. -/
def ringFn : RingId → Fn
  | .mring _ => .pf
  | .tenant v => .vf v

/-- The RING field of a completion (02 R59). -/
def ringField : RingId → Nat
  | .mring m => m
  | .tenant v => 0x8000 + v

/-- Commands of the ring that are executing. -/
def ringBusy (s : State) (r : RingId) : Nat :=
  (s.cmd.inflight.filter (fun c => c.origin == .ring r || (c.origin == .relay && r == .mring 1))).length

/-- CMD_MRINGm_STATE.ACTIVE: until the last completion of a fetched command has been written, one that is held included (02
R49, R52, R468). -/
def ringActive (s : State) (r : RingId) : Bool :=
  (getRing s r).enable || decide (0 < ringBusy s r) || streamHeld s (.cpl r)

/-- This switch is the manager switch (10 R305). -/
def isManager (s : State) : Bool := s.glb.mgrSel && decide (s.cmd.ownEpoch ≠ 0)

/-- Ring 1 of this worker is the proxy ring (10 R310). -/
def proxyHere (s : State) : Bool :=
  !s.glb.mgrSel && s.obl.standbyEn && decide (s.obl.standbySwitch = s.glb.switchId)

/-! ## Completions (02 R59, R60) -/

/-- The four words of a completion. -/
def cplWords (c : Cpl) (ph : Bool) : List Word :=
  [pack [(c.tag.toNat, 0), (c.status.toNat, 32), (b2n c.clamped, 48), (b2n ph, 63)], w64 c.newVersion, c.result,
   pack [(c.seq % 2 ^ 32, 0), (c.descIndex, 32), (c.ring, 48)]]

/-- Write a completion into a ring and offer it to the ring's vector (02 R60, 13 R358). -/
def ringCpl (r : RingId) (c : Cpl) (s : State) : State :=
  let g := getRing s r
  let w := hostWrite ⟨ringFn r, .cpl r, g.cplBase * 4096 + g.written % 2 ^ g.cplSizeLog2 * 32,
    cplWords { c with ring := ringField r } (phase g.written g.cplSizeLog2)⟩
      (setRing r { g with written := (g.written + 1) % 2 ^ 32 } s)
  match r with
  | .mring _ => offerPf g.vectorEn g.vector w
  | .tenant v => offerVf v g.vectorEn g.vector w

/-! ## The proposal log (07 R217) -/

/-- A result record of 07 R217 written to the proposal log, under the rules of R74. -/
def plogRoom (s : State) : Bool :=
  s.sage.plog.enable && decide ((s.sage.plog.produced + 2 ^ 32 - s.sage.plog.consumed) % 2 ^ 32 < 2 ^ s.sage.plog.sizeLog2)
    && !(streamHeld s .plog)

def plogWrite (p : Proposal) (status slot sw seq epoch : Nat) (done remote : Bool) (result : Word) (s : State) : State :=
  if plogRoom s then
    let g := s.sage.plog
    let w4 := pack [(status, 0), (slot, 16), (b2n done + 2 * b2n remote + 128 * b2n (phase g.produced g.sizeLog2), 24), (sw, 32)]
    offerPf g.vectorEn g.vector
      (hostWrite ⟨.pf, .plog, g.base * 4096 + g.produced % 2 ^ g.sizeLog2 * 64,
        [p.word0, p.a, p.b, p.c, w4, pack [(seq % 2 ^ 32, 0), (epoch % 2 ^ 32, 32)], w64 s.time.now, result]⟩
        { s with sage := { s.sage with plog := { g with produced := (g.produced + 1) % 2 ^ 32 } } })
  else { s with sage := { s.sage with plog := { s.sage.plog with lost := sat64 s.sage.plog.lost } } }

/-- The TAG of a proposal (07 R210). -/
def propTag (p : Proposal) : Nat := fld p.word0 31 16

/-- Counters of accepted and rejected proposals (07 R219). -/
def countProp (status : Nat) (s : State) : State :=
  if status ≤ 1 then { s with sage := { s.sage with accepted := sat64 s.sage.accepted } }
  else { s with sage := { s.sage with rejected := sat64 s.sage.rejected } }

/-- A MIGRATE of a worker has its answer: it is logged with REMOTE set, counts against the limits if it was
accepted, and its status goes to the worker (07 R212, R213, R217). RESULT is the destination's device address. -/
def remoteResult (sw slot epoch : Nat) (p : Proposal) (x : Cpl) (s : State) : State :=
  let st := x.status.toNat
  let k := sw * 32 + slot
  let s1 := plogWrite p st slot sw x.seq epoch false true (if st ≤ 1 then w64 (fld x.result 63 12 * 4096) else 0) (countProp st s)
  let s2 := if st ≤ 1 then { s1 with sage := { s1.sage with
      migThisEpoch := s1.sage.migThisEpoch + 1
      propThisEpoch := tput 0 s1.sage.propThisEpoch k (tget 0 s1.sage.propThisEpoch k + 1) } } else s1
  sendBypass sw (.propRes st (propTag p) slot) s2

/-- Send a command's completion where the command came from: its ring, or the switch that forwarded it
(02 R58, 10 R310). A Function Level Reset silences it (12 R338). -/
def sendCpl (c : SeqCmd) (x : Cpl) (s : State) : State :=
  match c.origin with
  | .ring r => ringCpl r x s
  | .fromManager sw => sendBypass sw (.cplFwd x) s
  | .proxy sw => sendBypass sw (.cplFwd { x with ring := 1 }) s
  | .relay => ringCpl (.mring 1) x s
  | .script => s
  | .silent _ => s
  | .commit sw slot epoch p => remoteResult sw slot epoch p x s

/-- Remove a command and send its completion. -/
def retire (c : SeqCmd) (status : Nat) (clamped : Bool) (newVersion : Nat) (result : Word) (s : State) : State :=
  sendCpl c ⟨c.desc.tag, BitVec.ofNat 16 status, clamped, newVersion, result, c.seq, c.descIndex, 0⟩
    { s with cmd := { s.cmd with inflight := s.cmd.inflight.filter (fun x => x.seq != c.seq) } }

/-- A command names another switch (02 R58). -/
def otherSwitch (s : State) (c : SeqCmd) : Bool :=
  !globalOp c.desc.opcode.toNat && objSwitch c.desc.objectId != s.glb.switchId

/-- The command came from a manager ring of the fabric (this switch's, or a proxy ring). -/
def managerOrigin (c : SeqCmd) : Bool :=
  match c.origin with
  | .ring (.mring _) => true
  | .proxy _ => true
  | _ => false

/-- The epoch of the ring a command came from (02 R64). -/
def ringEpoch (s : State) (c : SeqCmd) : Nat :=
  match c.origin with
  | .ring (.tenant v) => (getVf s v).instEpoch
  | .silent v => (getVf s v).instEpoch
  | _ => s.cmd.ownEpoch

/-- Retire a command that failed with `code`: NEW_VERSION and RESULT as 02 R59 says. The object's version on
another switch, and a RESULT that no rule states, are free values (log entry 7). -/
def retireFail (c : SeqCmd) (code : Nat) (s : State) : State :=
  let zero := globalOp c.desc.opcode.toNat || code == BAD_OBJECT || (otherSwitch s c && code == NOT_PERMITTED)
    || (otherSwitch s c && code == TIMEOUT)
  let f1 := takeFree s
  let nv : Nat × State :=
    if zero then (0, s)
    else if otherSwitch s c then (f1.1.toNat, f1.2)
    else if objExists s (objClass c.desc.objectId) (objIndex c.desc.objectId) then (objVersion s c.desc.objectId, s)
    else (0, s)
  if code = EPOCH_STALE then
    retire c code false nv.1 (w64 (ringEpoch s c))
      { nv.2 with cmd := { nv.2.cmd with staleCount := sat64 nv.2.cmd.staleCount } }
  else if code = VERSION_CONFLICT then
    retire c code false nv.1 (w64 nv.1) { nv.2 with cmd := { nv.2.cmd with conflictCount := sat64 nv.2.cmd.conflictCount } }
  else retire c code false nv.1 (takeFree nv.2).1 (takeFree nv.2).2

/-! ## The checks made in arrival order (02 R61, R64) -/

/-- The tenant owns the object for this opcode (12 R339). -/
def tenantOwns (x : Vf) (v op : Nat) (o : Word) : Bool :=
  if op = 1 then true
  else if op = 3 then (objClass o == 0xC && objIndex o == v) || (objClass o == 3 && objIndex o == x.host)
    || (objClass o == 7 && objIndex o == x.cls)
  else if op = 5 ∨ op = 4 ∨ op = 0x2004 then objClass o == 3 && objIndex o == x.host
  else objClass o == 7 && objIndex o == x.cls

/-- The opcode or operation is accepted only on the manager switch (06 R162, R171, 10 R275). -/
def managerOnly (d : Desc) : Bool :=
  (d.opcode == 0x3001#16 && (fld d.arg0 2 0 == 0 || decide (3 ≤ fld d.arg0 2 0)))
    || d.opcode == 0x3002#16
    || (d.opcode == 0x7005#16 && objClass d.objectId == 0xB && objIndex d.objectId / 2 ^ 48 == 2)

/-- The command is not permitted on its ring (02 R58, R61, R68; 10 R310; 12 R339). -/
def notPermitted (s : State) (c : SeqCmd) : Bool :=
  let op := c.desc.opcode.toNat
  match c.origin with
  | .ring (.tenant v) =>
    !tenantOps.contains op || (op != 1 && (otherSwitch s c || !tenantOwns (getVf s v) v op c.desc.objectId))
  | .silent v =>
    !tenantOps.contains op || (op != 1 && (otherSwitch s c || !tenantOwns (getVf s v) v op c.desc.objectId))
  | .ring (.mring m) =>
    (m == 1 && !s.glb.mgrSel) || (op == 2 && !s.glb.mgrSel) || (otherSwitch s c && !isManager s)
      || (managerOnly c.desc && !isManager s)
  | .proxy _ => (op == 2 && !s.glb.mgrSel) || (otherSwitch s c && !isManager s) || (managerOnly c.desc && !isManager s)
  | _ => false

/-- The first failing check of R61 up to EPOCH_STALE, 0 where they pass. A command forwarded by the manager
switch has made these checks there (02 R58). -/
def earlyCode (s : State) (c : SeqCmd) : Nat :=
  match c.origin with
  | .fromManager _ => 0
  | _ =>
    if !opcodeTable.contains c.desc.opcode.toNat then BAD_OPCODE
    else if notPermitted s c then NOT_PERMITTED
    else if c.desc.ownEpoch ≠ w64 (ringEpoch s c) then EPOCH_STALE
    else 0

/-- The FENCE holds: an earlier command of the same ring has not completed (02 R56). CMD_FWD does not carry the ring of a
forwarded command: on a worker it waits for every earlier command forwarded by the same switch (log entry 150). -/
def fenceHolds (s : State) (c : SeqCmd) : Bool :=
  fenced c.desc && s.cmd.inflight.any (fun x => x.origin == c.origin && decide (x.seq < c.seq))

/-- An EPOCH_CLAIM that arrived earlier has passed its own checks and not yet taken effect, so the epoch check
of later manager-ring commands waits for it (02 R64, Example 3). -/
def claimAhead (s : State) (c : SeqCmd) : Bool :=
  managerOrigin c && s.cmd.inflight.any (fun x => x.desc.opcode == 2#16 && x.stage == .ready && managerOrigin x
    && decide (x.seq < c.seq))

def setStage (seq : Nat) (st : Stage) (s : State) : State :=
  { s with cmd := { s.cmd with inflight := s.cmd.inflight.map (fun x => if x.seq = seq then { x with stage := st } else x) } }

def setAux (seq n : Nat) (s : State) : State :=
  { s with cmd := { s.cmd with inflight := s.cmd.inflight.map (fun x => if x.seq = seq then { x with aux := n } else x) } }

def setNote (seq n : Nat) (s : State) : State :=
  { s with cmd := { s.cmd with inflight := s.cmd.inflight.map (fun x => if x.seq = seq then { x with note := n } else x) } }

/-- Make the early checks of the commands listed, in arrival order; stop at one whose epoch check must wait. -/
def runChecks : List SeqCmd → State → State
  | [], s => s
  | c :: cs, s =>
    if c.stage ≠ .unchecked then runChecks cs s
    else if claimAhead s c then s
    else
      let code := earlyCode s c
      runChecks cs <|
        if code ≠ 0 then (if fenceHolds s c then setStage c.seq (.failed code) s else retireFail c code s)
        else if otherSwitch s c && managerOrigin c && !s.obl.epochSettled && c.desc.opcode != 3#16 then
          (if fenceHolds s c then setStage c.seq (.failed PRECONDITION) s else retireFail c PRECONDITION s)
        else if otherSwitch s c && managerOrigin c then setStage c.seq .forwarded s
        else setStage c.seq .ready s

/-- Complete failed commands whose FENCE is satisfied, in arrival order. -/
def flushFailed : List SeqCmd → State → State
  | [], s => s
  | c :: cs, s =>
    match c.stage with
    | .failed code => flushFailed cs (if fenceHolds s c then s else retireFail c code s)
    | _ => flushFailed cs s

/-- Commands sent to worker `w` whose answer is outstanding. -/
def outstanding (s : State) (w : Nat) : Nat :=
  (s.cmd.inflight.filter (fun x => x.stage == .forwarded && x.note == 1 && objSwitch x.desc.objectId == w)).length

/-- A descriptor as it is forwarded: reserved FLAGS bits are zero, but bit 7 marks the command of a proposal, which
carries no expected version (07 R211; log entry 34). -/
def wireDesc (c : SeqCmd) : Desc :=
  match c.origin with
  | .commit _ _ _ _ => { c.desc with flags := 0x80#8 }
  | _ => { c.desc with flags := c.desc.flags &&& 1#8 }

/-- The command carries an expected version: not one that the image's script runs (17 R472), nor one that a
proposal runs (07 R211). -/
def versioned (c : SeqCmd) : Bool :=
  match c.origin with
  | .script => false
  | .commit _ _ _ _ => false
  | .fromManager _ => !(c.desc.flags.getLsbD 7)
  | _ => true

/-- Send forwarded commands, at most 64 outstanding to each worker (02 R58, 10 R305). -/
def sendForwards : List SeqCmd → State → State
  | [], s => s
  | c :: cs, s =>
    if c.stage == .forwarded && c.note == 0 && !(c.origin == .relay) && !fenceHolds s c
        && decide (outstanding s (objSwitch c.desc.objectId) < 64)
    then sendForwards cs (sendBypass (objSwitch c.desc.objectId) (.cmdFwd c.seq (wireDesc c)) (setNote c.seq 1 s))
    else sendForwards cs s

/-- What follows every arrival and completion: checks, failed commands behind fences, forwards. -/
def settle (s : State) : State :=
  let s1 := runChecks s.cmd.inflight s
  let s2 := flushFailed s1.cmd.inflight s1
  sendForwards s2.cmd.inflight s2

/-- Complete a command and let the others go on. -/
def finish (c : SeqCmd) (status : Nat) (clamped : Bool) (newVersion : Nat) (result : Word) (s : State) : State :=
  settle (retire c status clamped newVersion result s)

def finishFail (c : SeqCmd) (code : Nat) (s : State) : State := settle (retireFail c code s)

/-! ## Running one opcode -/

/-- How a command's own part ends: with a failing code, with its effect, its RESULT and its clamps, or as a
waiting command that has been checked. -/
inductive CmdOut where
  | fail (code : Nat) (s : State)
  | done (result : Word) (clamps : List FieldClamp) (s : State)
  | wait (clamps : List FieldClamp) (s : State)

/-- Report the clamps of a command (02 R72, R73): SOURCE 2, or SOURCE 4 for the image's script, whose WHERE is
the offset of the word in the configuration section (17 R472). -/
def reportClamps (c : SeqCmd) : List FieldClamp → State → State
  | [], s => s
  | k :: ks, s =>
    reportClamps c ks <|
      match c.origin with
      | .script =>
        let n := (k.offset - 32) / 8
        let at_ := if k.inData then (arg c.desc n).toNat / 8 * 8 + k.dataOff else c.note + k.offset
        clamp ⟨4, k.hi, k.lo, 0, w64 at_, w64 k.written, w64 k.used⟩ s
      | _ => clamp (argRecord c.desc.opcode c.seq k) s

def findCmd (s : State) (seq : Nat) : Option SeqCmd := s.cmd.inflight.find? (fun c => c.seq == seq)

/-- The opcodes that are not marked "waits" in 02 R71 and yet complete later: OBJ_COMMIT, DETACH and
CAL_RESTORE_FACTORY. The next command on their object waits for their completion (02 R67). -/
def completesLater (op : Nat) : Bool := op == 4 || op == 0x3001 || op == 0xA005

/-- A command with an arrival number before `n` on the object with this key has neither completed nor, as a waiting command,
been checked (02 R67). -/
def keyBusy (s : State) (n key : Nat) : Bool :=
  s.cmd.inflight.any (fun x => decide (x.seq < n) && !globalOp x.desc.opcode.toNat
    && (x.stage != .waiting || completesLater x.desc.opcode.toNat)
    && x.stage != .forwarded && verKey x.desc.objectId == key)

/-- The object that a proposal acts on: the map of its host, or the queue or policer that it names (07 R210, R211). -/
def propKey (p : Proposal) : Option Nat :=
  match fld p.word0 7 0 with
  | 1 => some (objKey 3 (fld p.a 5 0))
  | 2 => some (objKey 3 (fld p.a 5 0))
  | 3 => some (verKey p.a)
  | 4 => some (verKey p.a)
  | _ => none

/-- An earlier command or proposal on the same object has not been executed (02 R67; 07 R211). -/
def objectBusy (s : State) (c : SeqCmd) : Bool :=
  !globalOp c.desc.opcode.toNat &&
    (keyBusy s c.seq (verKey c.desc.objectId) || (match s.sage.taken with
      | some t => decide (t.1.seq < c.seq) && propKey t.1.prop == some (verKey c.desc.objectId)
      | none => false))

/-- The command may start (02 R56, R67). -/
def canStart (s : State) (c : SeqCmd) : Bool := c.stage == .ready && !fenceHolds s c && !objectBusy s c

/-- The command is a manager-ring command that must wait for the epoch to settle (10 R307). -/
def unsettled (s : State) (c : SeqCmd) : Bool :=
  managerOrigin c && !s.obl.epochSettled && c.desc.opcode != 1#16 && c.desc.opcode != 3#16

/-- Execute one started command: BAD_OBJECT, VERSION_CONFLICT, the opcode's own checks and effect, its clamps,
its version and its completion (02 R59, R61, R65, R72). `bump`: the command increments its object's version. -/
def execute (bump : Bool) (body : SeqCmd → State → CmdOut) (c : SeqCmd) (s : State) : State :=
  let op := c.desc.opcode.toNat
  let o := c.desc.objectId
  if !globalOp op && !(objExists s (objClass o) (objIndex o) && opActs op (objClass o) (objIndex o))
  then finishFail c BAD_OBJECT s
  else if !globalOp op && versioned c && c.desc.expectVersion ≠ w64 (objVersion s o) then finishFail c VERSION_CONFLICT s
  else
    match body c s with
    | .fail code s' =>
      if unsettled s c && code != DESC_FAULT && code != LOCKED then finishFail c PRECONDITION s else finishFail c code s'
    | .done r ks s' =>
      if unsettled s c then finishFail c PRECONDITION s
      else
        let s1 := reportClamps c ks (if bump then bumpVer (verKey o) s' else s')
        finish c (if ks.isEmpty then OK else OK_CLAMPED) (!ks.isEmpty) (if globalOp op then 0 else objVersion s1 o) r s1
    | .wait ks s' =>
      if unsettled s c then finishFail c PRECONDITION s
      else settle (setNote c.seq (b2n (!ks.isEmpty)) (setStage c.seq .waiting (reportClamps c ks s')))

/-- The row of an opcode: the sequenced command `seq` runs if it is one of this opcode and operation and may
start; otherwise nothing happens. -/
def runOp (op : Nat) (sel : Desc → Bool) (bump : Bool) (body : SeqCmd → State → CmdOut) (seq : Nat) (s : State) : State :=
  match findCmd s seq with
  | none => s
  | some c =>
    if c.desc.opcode.toNat = op && sel c.desc && canStart s c then execute bump body c s else s

/-- Complete a waiting command of opcode `op` with OK or OK_CLAMPED; `bump` increments its object's version. -/
def endWait (c : SeqCmd) (bump : Bool) (result : Word) (s : State) : State :=
  let s1 := if bump then bumpVer (verKey c.desc.objectId) s else s
  finish c (if c.note = 0 then OK else OK_CLAMPED) (c.note != 0) (objVersion s1 c.desc.objectId) result s1

/-- The waiting commands that satisfy `p`, in arrival order. -/
def waitingCmds (s : State) (p : SeqCmd → Bool) : List SeqCmd :=
  s.cmd.inflight.filter (fun c => c.stage == .waiting && p c)

/-- Complete every waiting command listed. -/
def endWaits (bump : Bool) : List SeqCmd → State → State
  | [], s => s
  | c :: cs, s => endWaits bump cs (endWait c bump 0 s)

/-- The words of argument data, if the read succeeded. -/
def withData (data : ReadData) (s : State) (k : List Word → CmdOut) : CmdOut :=
  match data with
  | none => .fail DESC_FAULT s
  | some ws => k ws

end Sys2Proof.Machine
end

