-- ==== Sys2Proof/Machine/Rings.lean ====
section
/-! DEFINITION. Record rings, command rings, doorbells and the fetch and forwarding of descriptors
(02 R48-R60, R68, R71, R74, R75, R468; 10 R306, R310; 12 R343, R344). -/

namespace Sys2Proof.Machine

/-! ## Record rings: the report ring and the proposal log (02 R48, R74, 07 R217) -/

/-- A CTRL write: SIZE_LOG2 only while ENABLE reads 0, ENABLE from 0 to 1 zeroes the positions (02 R48). -/
def recCtrl (g : RecRing) (v : Word) : RecRing :=
  let size := if g.enable then g.sizeLog2 else used v 5 1 6 16
  let start := !g.enable && bit v 0
  { g with enable := bit v 0, sizeLog2 := size, vector := fld v 28 16, vectorEn := bit v 32,
           produced := if start then 0 else g.produced, consumed := if start then 0 else g.consumed }

/-- SIZE_LOG2 as supplied differs from the value it takes: a clamp (02 R48, R72). -/
def recCtrlClamped (g : RecRing) (v : Word) : Bool := fld v 5 1 != (recCtrl g v).sizeLog2

/-- A TAIL value is legal: not ahead of PRODUCED nor behind the last value (02 R74). -/
def tailLegal (produced consumed c : Nat) : Bool :=
  decide ((c + 2 ^ 32 - consumed) % 2 ^ 32 ≤ (produced + 2 ^ 32 - consumed) % 2 ^ 32)

/-- Held strap and image records go first, as space appears (02 R75). -/
def flushHeld (s : State) : State := if s.glb.rpt.enable then flushHeldRecs s.glb.heldRecs s else s

/-- GLB_CFGRPT_CTRL (02 R48, R75). -/
def rptCtrlWrite (v : Word) (s : State) : State :=
  let g := s.glb.rpt
  let s1 := { s with glb := { s.glb with rpt := recCtrl g v, rptEver := s.glb.rptEver || bit v 0 } }
  let s2 := flushHeld s1
  if recCtrlClamped g v then clampAccess .pf 0 0x28 5 1 (w64 (fld v 5 1)) (w64 (recCtrl g v).sizeLog2) s2 else s2

/-- GLB_CFGRPT_TAIL (02 R74). -/
def rptTailWrite (v : Word) (s : State) : State :=
  let c := fld v 31 0
  if tailLegal s.glb.rpt.produced s.glb.rpt.consumed c
  then flushHeld { s with glb := { s.glb with rpt := { s.glb.rpt with consumed := c } } }
  else clampAccess .pf 0 0x38 31 0 (w64 c) (w64 s.glb.rpt.consumed) s

def execGlbCfgrptCtrlWrite (v : Word) (s : State) : Out := .next (rptCtrlWrite v s)

def execGlbCfgrptTailWrite (v : Word) (s : State) : Out := .next (rptTailWrite v s)

/-- The image has failed: only the GLB, SEC and FLT blocks are occupied (01 R41). -/
def imageDead (s : State) : Bool := s.glb.imageFail

/-! ## Command rings (02 R51-R54, 12 R343) -/

/-- The largest SIZE_LOG2 of a ring: 16 for manager rings, 12 for tenant rings. -/
def ringMaxSize : RingId → Nat
  | .mring _ => 16
  | .tenant _ => 12

/-- Base offset of the ring's registers in its function's BAR0. -/
def ringRegs : RingId → Nat
  | .mring m => 0x100000 + m * 0x80
  | .tenant _ => 0x20

/-- The VECTOR value used: a tenant's is limited to its VEC_COUNT (12 R343). -/
def ringVector (s : State) (r : RingId) (v : Word) : Nat :=
  match r with
  | .mring _ => fld v 28 16
  | .tenant x => clampNat (fld v 21 16) 0 ((getVf s x).vecCount - 1)

def ringVectorSupplied (r : RingId) (v : Word) : Nat :=
  match r with
  | .mring _ => fld v 28 16
  | .tenant _ => fld v 21 16

/-- Base, sizes and completion base may change: ENABLE and ACTIVE both read 0 (02 R51). -/
def ringOpen (s : State) (r : RingId) : Bool := !(getRing s r).enable && !(ringActive s r)

/-- The SIZE_LOG2 that a CTRL or CPL_CTRL write leaves (02 R51). -/
def ringSize (s : State) (r : RingId) (old : Nat) (v : Word) : Nat :=
  if ringOpen s r then used v 5 1 4 (ringMaxSize r) else old

/-- ENABLE from 0 to 1 is accepted only while ACTIVE is 0 (02 R51). -/
def ringStarts (s : State) (r : RingId) (v : Word) : Bool := !(getRing s r).enable && bit v 0 && !(ringActive s r)

/-- ENABLE from 0 to 1 while ACTIVE is 1 is refused (02 R51). -/
def ringRefused (s : State) (r : RingId) (v : Word) : Bool := !(getRing s r).enable && bit v 0 && ringActive s r

/-- The ring's registers after a CTRL write (02 R51, R52). -/
def ringCtrl (s : State) (r : RingId) (v : Word) : CmdRing :=
  let g := getRing s r
  let size := ringSize s r g.sizeLog2 v
  let g1 := { g with enable := bit v 0 && !(ringRefused s r v), sizeLog2 := size, vector := ringVector s r v,
                     vectorEn := bit v 32 }
  if ringStarts s r v then
    { g1 with fetched := 0, written := 0, sqTail := 0, cqHead := 0, cplSizeLog2 := max g1.cplSizeLog2 size }
  else g1

/-- Report a register field that was clamped, if it was. -/
def clampIf (p : Bool) (f : Fn) (off hi lo : Nat) (written used_ : Nat) (s : State) : State :=
  if p then clampAccess f 0 off hi lo (w64 written) (w64 used_) s else s

/-- A write to a ring's CTRL register (02 R51, R52; 12 R343). -/
def ringCtrlWrite (r : RingId) (v : Word) (s : State) : State :=
  let g := getRing s r
  let g' := ringCtrl s r v
  let f := ringFn r
  let o := ringRegs r
  let s1 := setRing r g' s
  let s2 := clampIf (fld v 5 1 != g'.sizeLog2) f (o + 8) 5 1 (fld v 5 1) g'.sizeLog2 s1
  let s3 := clampIf (ringVectorSupplied r v != g'.vector) f (o + 8) 21 16 (ringVectorSupplied r v) g'.vector s2
  let s4 := clampIf (ringRefused s r v) f (o + 8) 0 0 1 0 s3
  clampIf (ringStarts s r v && decide (g.cplSizeLog2 < g'.sizeLog2)) f (o + 0x18) 5 1 g.cplSizeLog2 g'.sizeLog2 s4

/-- A write to BASE (`cpl` false) or CPL_BASE (02 R51). -/
def ringBaseWrite (r : RingId) (cpl : Bool) (v : Word) (s : State) : State :=
  let g := getRing s r
  let old := if cpl then g.cplBase else g.base
  if ringOpen s r then setRing r (if cpl then { g with cplBase := fld v 63 12 } else { g with base := fld v 63 12 }) s
  else clampIf (fld v 63 12 != old) (ringFn r) (ringRegs r + (if cpl then 0x10 else 0)) 63 12 (fld v 63 12) old s

/-- A write to CPL_CTRL (02 R51). -/
def ringCplCtrlWrite (r : RingId) (v : Word) (s : State) : State :=
  let g := getRing s r
  let n := ringSize s r g.cplSizeLog2 v
  clampIf (fld v 5 1 != n) (ringFn r) (ringRegs r + 0x18) 5 1 (fld v 5 1) n (setRing r { g with cplSizeLog2 := n } s)

def execCmdMringCtrlWrite (m : Nat) (v : Word) (s : State) : Out :=
  inUnit "manager ring" m 2 (.next (if imageDead s then discard .pf 0 (ringRegs (.mring m) + 8) v s
    else ringCtrlWrite (.mring m) v s))

/-- A doorbell value `v` lies behind the last accepted value `a` (02 R54). -/
def behind (a v : Nat) : Bool :=
  decide (1 ≤ (a + 2 ^ 32 - v) % 2 ^ 32) && decide ((a + 2 ^ 32 - v) % 2 ^ 32 ≤ 2 ^ 31)

/-- SQ_TAIL accepts the value (02 R54). -/
def sqAccepts (g : CmdRing) (v : Nat) : Bool :=
  decide ((v + 2 ^ 32 - g.fetched) % 2 ^ 32 ≤ 2 ^ g.sizeLog2) && !(behind g.sqTail v)

/-- CQ_HEAD accepts the value (02 R54). -/
def cqAccepts (g : CmdRing) (h : Nat) : Bool :=
  decide ((g.written + 2 ^ 32 - h) % 2 ^ 32 ≤ 2 ^ g.cplSizeLog2) && !(behind g.cqHead h)

/-- The BAR2 offset of a ring's doorbell page. -/
def ringPage : RingId → Nat
  | .mring m => m * 0x1000
  | .tenant _ => 0

/-- A write to SQ_TAIL (02 R53, R54; 01 R41). -/
def sqTailWrite (r : RingId) (v : Word) (s : State) : State :=
  let g := getRing s r
  if imageDead s then discard (ringFn r) 3 (ringPage r) v s
  else if sqAccepts g (fld v 31 0) then setRing r { g with sqTail := fld v 31 0 } s
  else clampAccess (ringFn r) 3 (ringPage r) 31 0 (w64 (fld v 31 0)) (w64 g.sqTail) s

/-- A write to CQ_HEAD (02 R53, R54; 01 R41). -/
def cqHeadWrite (r : RingId) (v : Word) (s : State) : State :=
  let g := getRing s r
  if imageDead s then discard (ringFn r) 3 (ringPage r + 8) v s
  else if cqAccepts g (fld v 31 0) then setRing r { g with cqHead := fld v 31 0 } s
  else clampAccess (ringFn r) 3 (ringPage r + 8) 31 0 (w64 (fld v 31 0)) (w64 g.cqHead) s

def execSqTail (m : Nat) (v : Word) (s : State) : Out := inUnit "manager ring" m 2 (.next (sqTailWrite (.mring m) v s))

def execCqHead (m : Nat) (v : Word) (s : State) : Out := inUnit "manager ring" m 2 (.next (cqHeadWrite (.mring m) v s))

/-! ## Fetching descriptors (02 R55, R62, R63) -/

/-- How many commands of the ring may execute at once (02 R55, 12 R343). -/
def ringLimit (s : State) : RingId → Nat
  | .mring _ => Config.ringExec
  | .tenant v => (getVf s v).ringSlots

/-- The VF may fetch: CREATED and not in a Function Level Reset (12 R337, R338). -/
def vfFetches (s : State) : RingId → Bool
  | .mring _ => true
  | .tenant v => (getVf s v).state == .created && !(getVf s v).flr

/-- A descriptor may be fetched from the ring now (02 R55, R468). -/
def mayFetch (s : State) (r : RingId) : Bool :=
  let g := getRing s r
  g.enable && decide (g.fetched ≠ g.sqTail) && decide ((g.fetched + 2 ^ 32 - g.cqHead) % 2 ^ 32 < 2 ^ g.cplSizeLog2)
    && decide (ringBusy s r < ringLimit s r) && !(fnHeld s (ringFn r)) && vfFetches s r && !(warmDrains s)

/-- The descriptor that stands for one whose fetch failed (02 R62). -/
def noDesc : Desc := ⟨0, 0, 0, 0, 0, 0, 0, 0, 0, 0⟩

/-- Give a command its arrival number and make its checks (02 R63, R64). -/
def sequence (o : Origin) (descIndex : Nat) (d : Desc) (s : State) : State :=
  settle { s with cmd := { s.cmd with
    seqNext := (s.cmd.seqNext + 1) % 2 ^ 64
    inflight := s.cmd.inflight ++ [⟨s.cmd.seqNext, o, descIndex, d, .unchecked, 0, 0⟩] } }

/-- The number by which a command relayed from this worker's proxy ring is known here: beyond every arrival
number, since the manager switch sequences it (10 R310). -/
def relayId (fetched : Nat) : Nat := 2 ^ 64 + fetched

/-- The host address of descriptor `i` of a ring: BASE + (i mod 2^SIZE_LOG2) × 64 (02 R55). -/
def descAddr (g : CmdRing) (i : Nat) : Nat := g.base * 4096 + i % 2 ^ g.sizeLog2 * 64

/-- A fetched descriptor is sequenced; `none` is a failed read, which gets an arrival number and a completion (02 R55, R62). One of
the proxy ring goes to the manager switch, which sequences it; a failed read of that ring takes an arrival number of this switch
(10 R310; log entry 148). -/
def takeDesc (r : RingId) (g : CmdRing) (d : Option Desc) (s : State) : State :=
  let i := g.fetched % 2 ^ g.sizeLog2
  match d with
  | none =>
    let c : SeqCmd := ⟨s.cmd.seqNext, .ring r, i, noDesc, .failed DESC_FAULT, 0, 0⟩
    settle (retire c DESC_FAULT false 0 0 { s with cmd := { s.cmd with seqNext := (s.cmd.seqNext + 1) % 2 ^ 64 } })
  | some d =>
    if r == .mring 1 && proxyHere s then
      sendBypass s.obl.mgrSwitch (.cmdFwd (relayId g.fetched) d)
        { s with cmd := { s.cmd with inflight := s.cmd.inflight ++ [⟨relayId g.fetched, .relay, i, d, .forwarded, 1, 0⟩] } }
    else sequence (.ring r) i d s

/-! ## Forwarded commands (02 R58, 10 R310) -/

/-- A CMD_FWD arrives: at the manager switch from a proxy ring, at a worker from the manager switch. -/
def execCmdFwd (src : Nat) (d : Desc) (s : State) : Out :=
  inUnit "switch" src 32 (.next (if s.glb.mgrSel then sequence (.proxy src) 0 d s
    else sequence (.fromManager src) 0 d { s with obl := { s.obl with mgrSwitch := src } }))

/-- A CPL_FWD arrives and completes the original command with the worker's completion (02 R58). TAG,
DESC_INDEX and RING are those of the ring, and SEQ is this switch's arrival number; a command relayed from the
proxy ring carries the manager switch's SEQ (log entry 20). -/
def cplFwd (seq : Nat) (cpl : Cpl) (s : State) : State :=
  match findCmd s seq with
  | none => s
  | some c =>
    if c.stage == .forwarded && c.note == 1 then
      let c' := if c.origin == .relay then { c with seq := cpl.seq } else c
      settle (sendCpl c' ⟨c.desc.tag, cpl.status, cpl.clamped, cpl.newVersion, cpl.result, c'.seq, c.descIndex, 0⟩
        { s with cmd := { s.cmd with inflight := s.cmd.inflight.filter (fun x => x.seq != seq) } })
    else s

def execCplFwd (seq : Nat) (cpl : Cpl) (s : State) : Out := .next (cplFwd seq cpl s)

/-- No answer within 10 ms: TIMEOUT (02 R58). -/
def forwardTimeout (seq : Nat) (s : State) : State :=
  match findCmd s seq with
  | none => s
  | some c => if c.stage == .forwarded && c.note == 1 then finishFail c TIMEOUT s else s

def execForwardTimeout (seq : Nat) (s : State) : Out := .next (forwardTimeout seq s)

/-! ## Held records (02 R468) -/

/-- Send every held message whose vector's condition has ended (13 R360). -/
def releaseVecs : List Nat → State → State
  | [], s => s
  | v :: vs, s =>
    releaseVecs vs <|
      if (getVec s v).heldMsg && !(vecHeld s v)
      then sendMsix v (setVec v { getVec s v with heldMsg := false } s) else s

def emitAll : List HostWrite → State → State
  | [], s => s
  | w :: ws, s => emitAll ws (emit (.host w) s)

/-- If nothing holds the function's records any more, write them in order, then the messages that waited behind
them; the report ring then takes held strap and image records (02 R75, R468; 13 R360). -/
def flushRecords (f : Fn) (s : State) : State :=
  if fnHeld s f then s
  else
    let mine := s.host.held.filter (fun w => w.fn == f)
    let s1 := emitAll mine { s with host := { s.host with held := s.host.held.filter (fun w => w.fn != f) } }
    flushHeld (releaseVecs (tkeys s1.evt.vec) s1)

/-- The function's Bus Master Enable. -/
def setBme (f : Fn) (on : Bool) (s : State) : State :=
  match f with
  | .pf => { s with host := { s.host with pfBme := on } }
  | .vf v => setVf v { getVf s v with bme := on } s

/-- The state of the functions' upstream port. -/
def setUp (on : Bool) (s : State) : State := { s with host := { s.host with pfUp := on } }

/-- Write what is held of the functions listed, in order. -/
def flushVfs : List Nat → State → State
  | [], s => s
  | v :: vs, s => flushVfs vs (flushRecords (.vf v) s)

/-- Write what is held of every function. -/
def flushAll (s : State) : State := flushVfs (tkeys s.vf.vfs) (flushRecords .pf s)

/-- The condition that held the records of a function ends: its Bus Master Enable returns, or, `portUp`, the upstream port of
every function comes up (02 R468; 12 R332). -/
def recordsGo (f : Fn) (portUp : Bool) (s : State) : State :=
  if portUp then flushAll (setUp true s) else flushRecords f (setBme f true s)

def execHeldRecordFlush (fn : Fn) (portUp : Bool) (s : State) : Out :=
  match fn with
  | .pf => .next (recordsGo fn portUp s)
  | .vf v => inUnit "VF" v 2048 (.next (recordsGo fn portUp s))

/-! ## The VF event ring (12 R346) -/

/-- The event ring takes no entry: disabled, full, or its records held (12 R346, 02 R468). -/
def evqFull (s : State) (v : Nat) : Bool :=
  let g := (getVf s v).evq
  !g.enable || decide (2 ^ g.sizeLog2 ≤ (g.produced + 2 ^ 32 - g.eqHead) % 2 ^ 32) || streamHeld s (.evq v)

/-- Write an entry of a VF's event ring, or count it lost (12 R346, 13 R358). A Function Level Reset silences it
(12 R338). -/
def vfEvent (v typ info : Nat) (data : Word) (s : State) : State :=
  let x := getVf s v
  let g := x.evq
  if x.flr then s
  else if evqFull s v then setVf v { x with evq := { g with lost := sat64 g.lost, lostBefore := true } } s
  else
    let w0 := pack [(typ, 0), (b2n g.lostBefore + 128 * b2n (phase g.produced g.sizeLog2), 8), (info % 2 ^ 32, 32)]
    offerVf v g.vectorEn g.vector
      (hostWrite ⟨.vf v, .evq v, g.base * 4096 + g.produced % 2 ^ g.sizeLog2 * 16, [w0, data]⟩
        (setVf v { x with evq := { g with produced := (g.produced + 1) % 2 ^ 32, lostBefore := false } } s))

/-! ## Staging copies (02 R69) -/

/-- Drop the manager's staging copy of a host's map (12 R340). -/
def dropStage (h : HostSpace) : HostSpace := { h with winStage := none, stageMgr := none }

/-- Apply a function to every value of a table, keeping it canonical. -/
def tmapAll {α : Type} [DecidableEq α] (d : α) (f : α → α) : List Nat → Tbl α → Tbl α
  | [], t => t
  | k :: ks, t => tmapAll d f ks (tput d t k (f (tget d t k)))

/-- Discard every staged object copy; a VF's map set is its own and stays (02 R68, 12 R340). -/
def discardStaged (s : State) : State :=
  { s with
    gh := { s.gh with routeStage := none }
    win := { s.win with hosts := tmapAll HostSpace.reset dropStage (tkeys s.win.hosts) s.win.hosts }
    sage := { s.sage with slots := tmapAll SageSlot.reset (fun x => { x with stage := none }) (tkeys s.sage.slots) s.sage.slots }
    sched := { s.sched with
      egress := tmapAll Egress.reset (fun x => { x with gclStage := none }) (tkeys s.sched.egress) s.sched.egress }
    sec := { s.sec with imageStage := none, calStage := none } }

/-- Whether the staging copy exists that this issuer's commands would fill (02 R71, 12 R340). -/
def staged (s : State) (c : SeqCmd) : Bool :=
  let cls := objClass c.desc.objectId
  let idx := objIndex c.desc.objectId
  match cls with
  | 1 => s.gh.routeStage.isSome
  | 2 => (getHost s idx).winStage.isSome
  | 3 =>
    match c.origin with
    | .ring (.tenant v) => !(tget ⟨[], 0⟩ (getHost s idx).stageVf v).ents.isEmpty
    | .silent v => !(tget ⟨[], 0⟩ (getHost s idx).stageVf v).ents.isEmpty
    | _ => (getHost s idx).stageMgr.isSome
  | 5 => (getSlot s idx).stage.isSome
  | 9 => decide (idx / 2 ^ 48 = 3) && (getEgress s (idx % 2 ^ 48)).gclStage.isSome
  | 0x10 => if idx = 1 then s.sec.calStage.isSome else if idx = 2 then s.sec.imageStage.isSome else false
  | _ => false

/-! ## NOP, EPOCH_CLAIM, OBJ_QUERY, EPOCH (02 R68, R71; 10 R306) -/

def anyDesc (_ : Desc) : Bool := true

def execNop (seq : Nat) (s : State) : Out := .next (runOp 1 anyDesc false (fun _ s => .done 0 [] s) seq s)

/-- Send the epoch to every worker that this switch reaches (02 R68, 10 R306). -/
def sendEpochs : List Nat → State → State
  | [], s => s
  | w :: ws, s =>
    sendEpochs ws (if w != s.glb.switchId && s.obl.reach.getLsbD w then sendBypass w (.epoch s.cmd.ownEpoch) s else s)

/-- EPOCH_CLAIM's own part (02 R68). -/
def claimBody (c : SeqCmd) (s : State) : CmdOut :=
  if !s.obl.epochSettled then .fail PRECONDITION s
  else if c.desc.arg0.toNat ≤ s.cmd.ownEpoch then .fail PRECONDITION s
  else .done 0 [] (sendEpochs (List.range 32)
    (discardStaged { s with cmd := { s.cmd with ownEpoch := c.desc.arg0.toNat } }))

def execEpochClaim (seq : Nat) (s : State) : Out := .next (runOp 2 anyDesc false claimBody seq s)

/-- RESULT of OBJ_QUERY (02 R71). -/
def queryResult (s : State) (c : SeqCmd) : Word :=
  let idx := objIndex c.desc.objectId
  let gen := match objClass c.desc.objectId with
    | 1 => s.gh.route.current
    | 2 => (getHost s idx).win.current
    | 3 => (getHost s idx).map.current
    | _ => 0
  pack [(b2n (staged s c), 0), (gen, 32)]

def execObjQuery (seq : Nat) (s : State) : Out :=
  .next (runOp 3 anyDesc false (fun c s => .done (queryResult s c) [] s) seq s)

/-- A worker takes the manager switch's epoch, higher or lower, and its epoch is settled (10 R306, R307). Its
staged copies are discarded as at the claim that changed the epoch (02 R68; log entry 21). -/
def takeEpoch (e : Nat) (s : State) : State :=
  if s.glb.mgrSel then s
  else
    let s1 := { s with cmd := { s.cmd with ownEpoch := e }, obl := { s.obl with epochSettled := true } }
    settle (if e = s.cmd.ownEpoch then s1 else discardStaged s1)

def execEpoch (e : Word) (s : State) : Out := .next (takeEpoch e.toNat s)

/-- The epoch settles: every enabled link is in a final training state, or 200 ms have passed since READY
(10 R307). The sender says when (log entry 8). It happens on a switch with MGR_SEL 1 once READY is set. -/
def execEpochSettled (s : State) : Out :=
  .next (if s.glb.ready && s.glb.mgrSel then { s with obl := { s.obl with epochSettled := true } } else s)

end Sys2Proof.Machine
end

