-- ==== Sys2Proof/Machine/Gens.lean ====
section
/-! DEFINITION. Versioned tables: generations, residency and in-flight counts (04 R120-R123, 05 R152, R153). -/

namespace Sys2Proof.Machine

/-- Generation `g` is older than `c` (04 R120). -/
def older (c g : Nat) : Bool :=
  decide (1 ≤ (c + 2 ^ 32 - g) % 2 ^ 32) && decide ((c + 2 ^ 32 - g) % 2 ^ 32 ≤ 2 ^ 31)

/-- The resident slot of a generation. -/
def genFind {α : Type} (t : GenTable α) (g : Nat) : Option (GenSlot α) :=
  (t.slots.find? (fun e => e.2.gen == g)).map (·.2)

/-- The contents of a generation, if it is resident. -/
def genContent {α : Type} (t : GenTable α) (g : Nat) : Option α := (genFind t g).map (·.content)

/-- The current contents. -/
def genCurrent {α : Type} (d : α) (t : GenTable α) : α := (genContent t t.current).getD d

/-- A generation stays resident while transactions are in flight or an ingress can still stamp it (04 R122). -/
def genPurge {α : Type} (t : GenTable α) : GenTable α :=
  { t with slots := t.slots.filter (fun e => !(older t.stamping e.2.gen) || e.2.inflight != 0) }

/-- Change the in-flight count of a generation. -/
def genCount {α : Type} (f : Nat → Nat) (g : Nat) (t : GenTable α) : GenTable α :=
  { t with slots := t.slots.map (fun e => if e.2.gen == g then (e.1, { e.2 with inflight := f e.2.inflight }) else e) }

/-- A transaction is stamped: it counts in flight. -/
def genInc {α : Type} (g : Nat) (t : GenTable α) : GenTable α := genCount (· + 1) g t

/-- A transaction ends. -/
def genDec {α : Type} (g : Nat) (t : GenTable α) : GenTable α := genPurge (genCount (· - 1) g t)

/-- A fifth resident generation would be needed (04 R122). -/
def genFull {α : Type} (t : GenTable α) : Bool := decide (4 ≤ t.slots.length)

/-- The lowest-numbered free slot of the four (04 R122). -/
def genSlotFree {α : Type} (t : GenTable α) : Nat :=
  ((List.range 4).find? (fun k => !(t.slots.any (fun e => e.1 == k)))).getD 0

/-- Publish new contents as the next generation; ingresses stamp the old one until every one of them stamps the
new one (04 R122, 05 R153; log entry 24). -/
def genCommit {α : Type} (a : α) (publishing : Option Nat) (t : GenTable α) : GenTable α :=
  let g := (t.current + 1) % 2 ^ 32
  { current := g, stamping := t.stamping, slots := t.slots ++ [(genSlotFree t, ⟨g, 0, a⟩)],
    publishing := if publishing.isSome then publishing else t.publishing }

/-- Every ingress stamps the current generation. -/
def genPublished {α : Type} (t : GenTable α) : GenTable α :=
  genPurge { t with stamping := t.current, publishing := none }

/-- Change the current contents in place: an effect that takes place at once, outside the staging copy. -/
def genEdit {α : Type} (f : α → α) (t : GenTable α) : GenTable α :=
  { t with slots := t.slots.map (fun e => if e.2.gen == t.current then (e.1, { e.2 with content := f e.2.content }) else e) }

/-- Change the contents of every resident generation. -/
def genEditAll {α : Type} (f : α → α) (t : GenTable α) : GenTable α :=
  { t with slots := t.slots.map (fun e => (e.1, { e.2 with content := f e.2.content })) }

/-- No transaction of generation `g` or an older one is in flight, or the generation is no longer resident (04 R123). -/
def genDrained {α : Type} (g : Nat) (t : GenTable α) : Bool :=
  (genFind t g).isNone || t.slots.all (fun e => !(e.2.gen == g || older g e.2.gen) || e.2.inflight == 0)

/-- No access of a generation older than `g` is in flight (05 R154). -/
def genFenced {α : Type} (g : Nat) (t : GenTable α) : Bool :=
  t.slots.all (fun e => !(older g e.2.gen) || e.2.inflight == 0)

/-- The oldest resident generation (04 R123). -/
def genOldest {α : Type} (t : GenTable α) : Nat :=
  t.slots.foldl (fun a e => if older a e.2.gen then e.2.gen else a) t.current

end Sys2Proof.Machine
end

