-- ==== Sys2Proof/Machine/Layout.lean ====
section
/-! DEFINITION. The switch's fixed layout and its stated arithmetic: the numbering of lanes, blocks and Galleries (00 R14-R17),
the power domains (01 R37), the latency budget and the reception time of a unit (01 R28-R32), the Great Hall's bandwidth
(01 R33, R34), the supply groups (18 R447) and the balls of the package (00 R18; 18 R459-R465). No command changes any of it. -/

namespace Sys2Proof.Machine

/-! ## Numbering (00 R14-R17) -/

/-- The block of P-lane n and the link of O-lane m (00 R14). -/
def laneBlock (n : Nat) : Nat := n / 16
def olaneLink (m : Nat) : Nat := m / 8

/-- The LANE index of a P-lane and of an O-lane (00 R15). -/
def planeIndex (n : Nat) : Nat := n
def olaneIndex (m : Nat) : Nat := 448 + m

/-- The port whose lowest lane is lane `low` of block `b` (00 R16). -/
def portOfLow (b low : Nat) : Nat := 4 * b + low / 4

/-- The Gallery of a port block (00 R17): four blocks for each of G0-G3, three for each of G4-G7. -/
def galleryOfBlock (b : Nat) : Nat := if b < 16 then b / 4 else 4 + (b - 16) / 3

/-- The Gallery of a link (00 R17). -/
def galleryOfLink (l : Nat) : Nat := l

/-- P-lanes that a Gallery serves, and its largest load in GB/s per direction: 8 GB/s a P-lane and one link at 128 GB/s
(01 R21). -/
def galleryLanes (g : Nat) : Nat := 16 * ((List.range 28).filter (fun b => galleryOfBlock b == g)).length
def galleryLoad (g : Nat) : Nat := 8 * galleryLanes g + 128

/-- One mover's most, a group's eight and all 64, in GB/s: 250 lines of 64 bytes a microsecond each (08 R222). -/
def moverRate : Nat := 250 * 64 / 1000
def moverGroupRate : Nat := 8 * moverRate
def moverIngress : Nat := 64 * moverRate

/-- The Gallery through which a mover group moves its traffic (08 R221), and a Gallery's largest load with it
(08 R222). -/
def galleryOfGroup (g : Nat) : Nat := g
def galleryLoadMovers (g : Nat) : Nat := galleryLoad g + moverGroupRate

/-- What a Gallery carries at least, in GB/s per direction at the slow corner (01 R21). -/
def galleryCapacity : Nat := 1024

/-! ## Power domains (01 R37) -/

/-- A kind of power domain and how many of it there are. -/
inductive PowerDomain where
  | pb | ob | gh | gal | dirc | memc | mv | sg | mc | cmdq | vfc | service | refclk | sbio | test | aon
deriving DecidableEq, Repr

def powerDomainCount : PowerDomain → Nat
  | .pb => 28
  | .ob => 8
  | .gh => 16
  | .gal => 8
  | .dirc => 2
  | .memc => 2
  | .mv => 8
  | .sg => 4
  | .mc => 2
  | .cmdq => 1
  | .vfc => 2
  | .service => 4
  | .refclk => 4
  | .sbio => 2
  | .test => 1
  | .aon => 4

def powerDomains : List PowerDomain :=
  [.pb, .ob, .gh, .gal, .dirc, .memc, .mv, .sg, .mc, .cmdq, .vfc, .service, .refclk, .sbio, .test, .aon]

/-- The number of domain `i` of a kind, the kinds counted in the order of R37. -/
def powerDomainNo (d : PowerDomain) (i : Nat) : Nat := (powerDomains.takeWhile (fun x => x != d)).foldl (fun a x => a + powerDomainCount x) i
def ghDomain (i : Nat) : Nat := powerDomainNo .gh i
def mvDomain (i : Nat) : Nat := powerDomainNo .mv i

/-- The domains that stay powered through warm reset and in every power state (01 R38). -/
def alwaysOn : PowerDomain → Bool
  | .aon => true
  | _ => false

/-- The domain GHs that holds a Great Hall bank, MVg a mover, SGg a Sage core, and MCm a management core (01 R36, R37). -/
def bankDomain (bank : Nat) : Nat := bank / 16
def moverDomain (m : Nat) : Nat := m / 8
def sageDomain (core : Nat) : Nat := core / 8
def mgmtDomain (core : Nat) : Nat := core / 8

/-! ## Latency (01 R28-R32) -/

/-- The stages of a one-way traversal (01 R28). -/
inductive LatencyStage where
  | deserialize | decode | mapLookup | windowCheck | directory | greatHall | scheduling | assembly | gallery
deriving DecidableEq, Repr

/-- Whether a stage is clocked; only Kazzil stages stretch at the slow corner (01 R28). -/
def clockedStage : LatencyStage → Bool
  | .deserialize => true
  | .assembly => true
  | _ => false

/-- Nominal time of a stage in tenths of a nanosecond (01 R28). -/
def stageNominal : LatencyStage → Nat
  | .deserialize => 60
  | .decode => 40
  | .mapLookup => 80
  | .windowCheck => 20
  | .directory => 0
  | .greatHall => 180
  | .scheduling => 60
  | .assembly => 80
  | .gallery => 160

/-- Its time at the slow corner: a Kazzil stage stretches by 1.4 (01 R28). -/
def stageSlow (g : LatencyStage) : Nat := if clockedStage g then stageNominal g else stageNominal g * 14 / 10

/-- The time of one stage at the corner chosen. -/
def stageTime (slow : Bool) (g : LatencyStage) : Nat := if slow then stageSlow g else stageNominal g

def stages : List LatencyStage :=
  [.deserialize, .decode, .mapLookup, .windowCheck, .directory, .greatHall, .scheduling, .assembly, .gallery]

/-- One traversal in tenths of a nanosecond; a response has the same stage times as a request (01 R28, R29). -/
def traversal (slow : Bool) : Nat := ((stages.map (stageTime slow)).foldl (· + ·) 0)

/-- What a map-cache miss and a shared window add to a traversal, in tenths of a nanosecond (01 R31). -/
def missTime (slow : Bool) : Nat := if slow then 840 else 600
def sharedTime (slow hit : Bool) : Nat := (if slow then 140 else 100) + (if hit then 0 else missTime slow)

/-- Bits on the wire for each data bit, as a ratio, by the rate in tenths of GT/s (01 R32). -/
def lineCoding (rate10 : Nat) : Nat × Nat :=
  if rate10 ≤ 50 then (10, 8) else if rate10 ≤ 320 then (130, 128) else (1, 1)

/-- Flit reception time in picoseconds, rounded down: the unit's bits on the wire over width times rate (01 R32). -/
def receptionPs (bytes width rate10 : Nat) : Nat :=
  bytes * 8 * (lineCoding rate10).1 * 10000 / ((lineCoding rate10).2 * width * rate10)

/-- The switch's contribution to a 64-byte CXL.mem read in tenths of a nanosecond: two traversals and the reception of a
256-byte flit at each of the two ports at 64 GT/s (01 R30), with what its events add (01 R31). -/
def readContribution (slow : Bool) (hostWidth expWidth : Nat) (mapMiss : Bool) (shared : Option Bool) : Nat :=
  receptionPs 256 hostWidth 640 / 100 + receptionPs 256 expWidth 640 / 100 + traversal slow + traversal slow
    + (if mapMiss then missTime slow else 0)
    + (match shared with
       | none => 0
       | some hit => sharedTime slow hit)

/-! ## Bandwidth (01 R33, R34) -/

/-- Ingress of all lanes, and the worst-case write and read demand on the Great Hall, in GB/s (01 R33). -/
def laneIngress : Nat := 448 * 64 / 8 + 64 * 128 / 8
def hallDemand : Nat := 2 * laneIngress

/-- The same with all movers at full rate: a mover byte is written into a cell once and read once (08 R222). -/
def hallDemandMovers : Nat := hallDemand + 2 * moverIngress

/-- Bandwidth of one bank in tenths of GB/s: 64 bytes a beat at 0.9 or 1.1 G beats/s (01 R33, R34). -/
def bankRate10 (slow : Bool) : Nat := if slow then 576 else 704

/-- The least number of banks that lets every ingress lane run at full rate (01 R34). -/
def banksForFullRate (slow : Bool) : Nat := ceilDiv (hallDemand * 10) (bankRate10 slow)

/-! ## Supplies (18 R447) -/

/-- Every supply rail, the always-on ones among them (18 R445). -/
inductive SupplyRail where
  | vddCore | vddaPl | vddhPl | vddaOl | vddhOl | vddPll | vppMem | vddMem | vddqMem | vddAon | vdd3v3Aon | vddio1v8
deriving DecidableEq, Repr

/-- The group in which a rail comes up; a group starts only when the rails of the group before it are in range
(18 R447). -/
def railGroup : SupplyRail → Nat
  | .vddAon => 1
  | .vdd3v3Aon => 1
  | .vddio1v8 => 2
  | .vddCore => 3
  | .vddaPl => 3
  | .vddaOl => 3
  | .vddhPl => 4
  | .vddhOl => 4
  | .vddPll => 4
  | .vppMem => 4
  | .vddMem => 5
  | .vddqMem => 5

/-- The rails that keep the always-on domains powered: group 1, which falls last (18 R447, R448). -/
def aonRail (r : SupplyRail) : Bool := railGroup r == 1

/-- A rail may start: the groups before its own are in range, and VDDQ_MEM follows VDD_MEM (18 R447). -/
def railMayStart (inRange : SupplyRail → Bool) (all : List SupplyRail) (r : SupplyRail) : Bool :=
  all.all (fun q => inRange q || !(decide (railGroup q < railGroup r))) && (r != .vddqMem || inRange .vddMem)

/-! ## Balls (00 R18; 18 R459-R465) -/

/-- The letters of ball rows (00 R18). -/
def ballLetters : List Char :=
  ['A', 'B', 'C', 'D', 'E', 'F', 'G', 'H', 'J', 'K', 'L', 'M', 'N', 'P', 'T', 'U', 'V', 'W', 'Y']

/-- The name of the row with row index `r` from 1 to 89: a series letter from row 20 on, then the letter of the row
(00 R18; 18 R460). -/
def rowName (r : Nat) : List Char :=
  if r ≤ 19 then [ballLetters.getD (r - 1) 'A']
  else [ballLetters.getD ((r - 20) / 19) 'A', ballLetters.getD ((r - 20) % 19) 'A']

/-- The position (row index, column) of depth `d` and place `s` of band `q` (18 R461). -/
def bandPos (q d s : Nat) : Nat × Nat :=
  match q with
  | 0 => (d, s)
  | 1 => (s, 90 - d)
  | 2 => (90 - d, 90 - s)
  | _ => (90 - s, d)

/-- The ball of one pin of a lane (18 R461): `tx` for the transmitter, `pos` for the _P pin. -/
def laneBall (olane : Bool) (n : Nat) (tx pos : Bool) : Nat × Nat :=
  let q := if olane then n / 8 / 2 else n / 16 / 7
  let t := if olane then 8 * (n / 8 % 2) + n % 8 else 16 + 16 * (n / 16 % 7) + n % 16
  let d := (if tx then 2 else 11) + 3 * (t / 23 / 2) + t / 23 % 2
  let s := 3 * (t % 23) + (if pos then 1 else 2)
  bandPos q d s

/-- The ball of REFCLKq (18 R462). -/
def refclkBall (q : Nat) (pos : Bool) : Nat × Nat := bandPos q 10 (if pos then 70 else 71)

/-- The ball of signal `i` of slot channel `ch`, in the order of 14 R364 (18 R463). -/
def slotBall (ch i : Nat) : Nat × Nat :=
  if ch < 16 then (19 + i, 19 + 2 * ch) else (71 - i, 19 + 2 * (ch - 16))

/-- The balls of a port's CLKREQ_N and PERST_N (18 R463). -/
def portBall (perst : Bool) (p : Nat) : Nat × Nat :=
  if p < 56 then (19 + p / 10, 52 + b2n perst + 2 * (p % 10))
  else (71 - (p - 56) / 10, 52 + b2n perst + 2 * ((p - 56) % 10))

/-- The ball of a GPIO (18 R463). -/
def gpioBall (n : Nat) : Nat × Nat := if n < 16 then (26, 54 + n) else (64, 54 + (n - 16))

/-- The positions with no ball (18 R459). -/
def noBall (r c : Nat) : Bool := decide (43 ≤ r ∧ r ≤ 47 ∧ 43 ≤ c ∧ c ≤ 47)

/-- The supply at a position of the centre's rows 32-58, where r + c is odd; none is VSS (18 R465). -/
def centreSupply (r c : Nat) : Option SupplyRail :=
  if (r + c) % 2 = 0 || noBall r c then none
  else if r = 32 then some (if c ≤ 45 then .vddPll else .vddio1v8)
  else if r = 58 then some (if c ≤ 45 then .vddAon else .vdd3v3Aon)
  else if r ≤ 41 || 49 ≤ r then some .vddCore
  else if c ≤ 30 then some .vppMem
  else if c ≤ 42 then some .vddMem
  else if c ≤ 47 then none
  else if c ≤ 59 then some .vddMem
  else some .vddqMem

end Sys2Proof.Machine
end

