-- ==== Sys2Proof/Machine/Telemetry.lean ====
section
/-! DEFINITION. Heat telemetry (07 R189-R198, R220): samples, the heat table, the hot ring, epochs and egress
summaries; and the triggers of sprig slots (07 R205). -/

namespace Sys2Proof.Machine

/-! ## Triggers (07 R205) -/

def CAUSE_START : Nat := 0
def CAUSE_EPOCH : Nat := 1
def CAUSE_HOT : Nat := 2
def CAUSE_TIMER : Nat := 3
def CAUSE_MBOX : Nat := 4
def CAUSE_RESULT : Nat := 5

/-- The slot runs or waits. -/
def slotLive (x : SageSlot) : Bool := x.state == .running || x.state == .waiting

/-- The cause is accepted by TRIG_EN; START always is. -/
def causeOn (x : SageSlot) (k : Nat) : Bool := k == 0 || testb x.trigEn k

/-- A trigger sets its pending bit if enabled; a merged EPOCH is counted (07 R205). -/
def triggerSlot (k : Nat) (x : SageSlot) : SageSlot :=
  if slotLive x && causeOn x k then
    if x.causes.getLsbD k then (if k = CAUSE_EPOCH then { x with missedEpochs := satAdd 16 x.missedEpochs 1 } else x)
    else { x with causes := x.causes ||| (1#6 <<< k) }
  else x

def trigger (slot k : Nat) (s : State) : State := setSlot slot (triggerSlot k (getSlot s slot)) s

/-- Trigger every slot. -/
def triggerAll (k : Nat) (s : State) : State :=
  { s with sage := { s.sage with slots := tmapAll SageSlot.reset (triggerSlot k) (tkeys s.sage.slots) s.sage.slots } }

/-! ## Heat table (07 R192-R195) -/

/-- H: 2^H sets of 8 ways (07 R192). -/
def heatBits (s : State) : Nat := if s.glb.variant == .c24 then 24 else 25

/-- The set of a page of host `h` (07 R192); `page` is address bits [51:12]. -/
def heatSet (s : State) (h page : Nat) (huge : Bool) : Nat :=
  let key := if huge then page / 512 else page
  ((key ^^^ (key / 2 ^ heatBits s)) ^^^ (h * 2 ^ (heatBits s - 6))) % 2 ^ heatBits s

/-- The page number that an entry holds: bits [8:0] zero for a 2 MiB page (07 R193). -/
def heatPage (page : Nat) (huge : Bool) : Nat := if huge then page / 512 * 512 else page

def heatWay (s : State) (set way : Nat) : Option Heat := tget none s.tel.heat (set * 8 + way)

/-- The way of a set that holds the page. -/
def heatFind (s : State) (set h page : Nat) (huge : Bool) : Option Nat :=
  (List.range 8).find? (fun w => match heatWay s set w with
    | some e => e.host == h && e.page == heatPage page huge && e.huge == huge
    | none => false)

/-- Age of an entry: (current epoch − LAST_SAMPLE) mod 2^16 (07 R195). -/
def heatAge (s : State) (e : Heat) : Nat := (s.tel.epoch + 65536 - e.lastSample % 65536) % 65536

/-- A counter decayed by DECAY_SHIFT for each epoch of age (07 R195). -/
def decayed (s : State) (e : Heat) (n : Nat) : Nat := n / 2 ^ (s.tel.cfg.decayShift * heatAge s e)

/-- Word 0 of a heat entry (07 R193). -/
def heatWord0 (e : Heat) : Word :=
  pack [(e.page, 0), (e.host, 40), (b2n e.huge, 46), (1, 47), (e.lastSample % 65536, 48)]

/-- Word 1 of a heat entry with its counters decayed (07 R193, R195). -/
def heatWord1 (s : State) (e : Heat) : Word :=
  pack [(decayed s e e.reads, 0), (decayed s e e.writes, 16), (decayed s e e.home, 32), (e.lastMove, 48)]

/-- Decayed READS + WRITES. -/
def heatLoad (s : State) (e : Heat) : Nat := decayed s e e.reads + decayed s e e.writes

/-- The way that an allocation takes: the lowest invalid way, else the way with the lowest decayed
READS + WRITES, the lowest on a tie (07 R194). -/
def heatVictim (s : State) (set : Nat) : Nat :=
  match (List.range 8).find? (fun w => (heatWay s set w).isNone) with
  | some w => w
  | none =>
    (List.range 8).foldl (fun best w =>
      match heatWay s set best, heatWay s set w with
      | some a, some b => if heatLoad s b < heatLoad s a then w else best
      | _, _ => best) 0

/-- An entry appended to the hot ring, which keeps 4,096 entries; the HOT triggers (07 R196, R205). -/
def hotAppend (w : Word) (s : State) : State :=
  triggerAll CAUSE_HOT { s with tel := { s.tel with
    hot := (s.tel.hot ++ [w]).drop (s.tel.hot.length + 1 - 4096)
    hotPushed := sat64 s.tel.hotPushed } }

/-- One sample taken for a page (07 R190, R191, R194, R196). -/
def heatUpdate (h page : Nat) (huge write home : Bool) (s : State) : State :=
  let set := heatSet s h page huge
  let found := heatFind s set h page huge
  let way := match found with | some w => w | none => heatVictim s set
  let fresh : Heat := ⟨h, heatPage page huge, huge, s.tel.epoch % 65536, 0, 0, 0, 0xFFFF⟩
  let old := match found with | some w => (heatWay s set w).getD fresh | none => fresh
  let before := heatLoad s old
  let e : Heat := { old with
    lastSample := s.tel.epoch % 65536
    reads := satAdd 16 (decayed s old old.reads) (b2n (!write))
    writes := satAdd 16 (decayed s old old.writes) (b2n write)
    home := satAdd 16 (decayed s old old.home) (b2n home) }
  let evicts := if found.isNone && (heatWay s set way).isSome then sat64 s.tel.evicts else s.tel.evicts
  let s1 := { s with tel := { s.tel with
    heat := tput none s.tel.heat (set * 8 + way) (some e)
    samples := sat64 s.tel.samples, evicts := evicts } }
  if before < s.tel.cfg.hotThresh && s.tel.cfg.hotThresh ≤ e.reads + e.writes then hotAppend (heatWord0 e) s1 else s1

/-- The key of the countdown that an access of host `h` to page `page` decrements (07 R190). -/
def sliceKey (h page : Nat) : Nat := Config.sliceHash h page % 16 * 64 + h

/-- An uncorrectable word of heat slot `n`: the entry is treated as invalid (15 R394). -/
def heatLost (n : Nat) (s : State) : State :=
  pulse 20 (unitCode 0 0) none none { s with tel := { s.tel with heat := tput none s.tel.heat n none } }

/-- An uncorrectable word of a page's entry, if it has one. -/
def heatPageLost (h page : Nat) (huge : Bool) (s : State) : State :=
  match heatFind s (heatSet s h page huge) h page huge with
  | some w => heatLost (heatSet s h page huge * 8 + w) s
  | none => s

/-- One counted access: the countdown of its slice and host, and a sample when it reaches zero (07 R189-R191,
12 R342). A countdown not yet touched stands at `countStart`, 2^SAMPLE_LOG2 as it was when telemetry was enabled. `full`: the update queue is full; `bad`: a word of the page's entry is uncorrectable; `capped`: the VF's
HEAT_MAX is reached, so only an existing entry takes the sample. -/
def heatAccess (h page : Nat) (huge write home full bad capped : Bool) (s : State) : State :=
  if !(s.tel.cfg.enable && s.tel.cfg.hostEn.getLsbD h) then s
  else
    let k := sliceKey h page
    let c := tget 0 s.tel.countdown k
    let left := (if c = 0 then s.tel.countStart else c) - 1
    let next := if left = 0 then 2 ^ s.tel.cfg.sampleLog2 else left
    let s1 := { s with tel := { s.tel with countdown := tput 0 s.tel.countdown k next } }
    if left ≠ 0 then s1
    else if full then { s1 with tel := { s1.tel with dropped := sat64 s1.tel.dropped } }
    else
      let s2 := if bad then heatPageLost h page huge s1 else s1
      if capped && (heatFind s2 (heatSet s2 h page huge) h page huge).isNone
      then { s2 with vf := { s2.vf with heatCapped := sat64 s2.vf.heatCapped } }
      else heatUpdate h page huge write home s2

/-- LAST_MOVE of a page, 0xFFFF where it has no entry (07 R193, R215). -/
def lastMove (s : State) (h page : Nat) (huge : Bool) : Nat :=
  let set := heatSet s h page huge
  match heatFind s set h page huge with
  | some w => match heatWay s set w with | some e => e.lastMove | none => 0xFFFF
  | none => 0xFFFF

/-- An accepted MIGRATE or SPLIT sets LAST_MOVE of the page's entry, if it has one (07 R193). -/
def stampMove (h page : Nat) (huge : Bool) (s : State) : State :=
  let set := heatSet s h page huge
  match heatFind s set h page huge with
  | none => s
  | some w =>
    match heatWay s set w with
    | none => s
    | some e => { s with tel := { s.tel with
        heat := tput none s.tel.heat (set * 8 + w) (some { e with lastMove := s.tel.epoch % 65536 }) } }

/-- The sweep of one entry (07 R195). -/
def sweepEntry (s : State) (e : Heat) : Heat :=
  let old := decide (16384 ≤ heatAge s e)
  let moveAge := (s.tel.epoch + 65536 - e.lastMove % 65536) % 65536
  { e with
    reads := if old then decayed s e e.reads else e.reads
    writes := if old then decayed s e e.writes else e.writes
    home := if old then decayed s e e.home else e.home
    lastSample := if old then (s.tel.epoch + 65536 - 16384) % 65536 else e.lastSample
    lastMove := if e.lastMove ≠ 0xFFFF ∧ 16384 ≤ moveAge then 0xFFFF else e.lastMove }

def sweepWays (set : Nat) : List Nat → State → State
  | [], s => s
  | w :: ws, s =>
    sweepWays set ws <|
      match heatWay s set w with
      | none => s
      | some e => { s with tel := { s.tel with heat := tput none s.tel.heat (set * 8 + w) (some (sweepEntry s e)) } }

/-- The sweep of a set, a word of whose way `bad` is uncorrectable (07 R195; 15 R394). -/
def sweepSet (set : Nat) (bad : Option Nat) (s : State) : State :=
  sweepWays set (List.range 8) (match bad with
    | some w => if w < 8 && (heatWay s set w).isSome then heatLost (set * 8 + w) s else s
    | none => s)

def execHeatSweep (set : Nat) (bad : Option Nat) (s : State) : Out :=
  inUnit "heat set" set (2 ^ heatBits s) (.next (sweepSet set bad s))

/-! ## Egress summaries and epochs (07 R195, R197) -/

/-- The shared plus reserve occupancy of an egress's queues (07 R197). -/
def egressOcc (s : State) (e : Nat) : Nat :=
  (List.range 16).foldl (fun a q => a + tget 0 s.gh.sharedOcc (e * 16 + q) + tget 0 s.gh.reserveOcc (e * 16 + q)) 0

/-- Some queue of the egress holds cells. -/
def egressBusy (s : State) (e : Nat) : Bool := decide (0 < egressOcc s e)

/-- The running summary of an egress follows its occupancy: peak, and the time with cells held (07 R197). -/
def noteOcc (e : Nat) (s : State) : State :=
  let r := tget Summary.reset s.tel.running e
  let since := tget none s.tel.backSince e
  let busy := egressBusy s e
  let r1 := { r with peak := max r.peak (egressOcc s e) }
  let (r2, since2) :=
    match since, busy with
    | none, true => (r1, some s.time.localNs)
    | some t, false => ({ r1 with backlogUs := r1.backlogUs + (s.time.localNs - t) }, none)
    | x, _ => (r1, x)
  { s with tel := { s.tel with
      running := tput Summary.reset s.tel.running e r2
      backSince := tput none s.tel.backSince e since2 } }

/-- Write the summary of the epoch just ended for each egress listed and start the next one (07 R197). The
running BACKLOG is kept in ns. -/
def writeSummaries : List Nat → State → State
  | [], s => s
  | e :: es, s =>
    let r := tget Summary.reset s.tel.running e
    let ns := match tget none s.tel.backSince e with
      | some t => r.backlogUs + (s.time.localNs - t)
      | none => r.backlogUs
    writeSummaries es { s with tel := { s.tel with
      summary := tput Summary.reset s.tel.summary e ⟨r.bytes, ns / 1000, r.peak, s.tel.epoch⟩
      running := tput Summary.reset s.tel.running e ⟨0, 0, egressOcc s e, 0⟩
      backSince := tput none s.tel.backSince e
        (match tget none s.tel.backSince e with | some _ => some s.time.localNs | none => none) } }

/-- A telemetry epoch ends (07 R195, R197, R198, R205, R215). -/
def epochBoundary (s : State) : State :=
  let s1 := writeSummaries (List.range Config.egresses) s
  let start := s1.tel.next.enable && !s1.tel.cfg.enable
  triggerAll CAUSE_EPOCH { s1 with
    tel := { s1.tel with
      epoch := (s1.tel.epoch + 1) % 2 ^ 32, cfg := s1.tel.next, epochStart := s1.time.localNs
      countdown := if start then [] else s1.tel.countdown
      countStart := if start then 2 ^ s1.tel.next.sampleLog2 else s1.tel.countStart }
    sage := { s1.sage with migThisEpoch := 0, propThisEpoch := [], knobThisEpoch := [] } }

def execEpochBoundary (s : State) : Out := .next (if s.glb.ready && !s.glb.imageFail then epochBoundary s else s)

/-- The fields of TEL_CONFIG (07 R198). -/
def telFields : List FieldSpec := [(0, 8, 4, 4, 16), (0, 31, 16, 1, 60000), (0, 35, 32, 0, 8), (0, 63, 48, 1, 65535)]

/-- The settings that TEL_CONFIG asks for. -/
def telCfgOf (d : Desc) : TelCfg :=
  ⟨bit d.arg0 0, used d.arg0 8 4 4 16, used d.arg0 31 16 1 60000, used d.arg0 35 32 0 8, used d.arg0 63 48 1 65535, d.arg1⟩

/-- TEL_CONFIG: a change of EPOCH_MS starts a new epoch at once; everything else waits for the next boundary
(07 R198). -/
def telBody (c : SeqCmd) (s : State) : CmdOut :=
  let n := telCfgOf c.desc
  let s1 := { s with tel := { s.tel with next := n } }
  .done 0 (argClamps c.desc telFields) (if n.epochMs ≠ s.tel.cfg.epochMs then epochBoundary s1 else s1)

def execTelConfig (seq : Nat) (s : State) : Out := .next (runOp 0x4005 anyDesc true telBody seq s)

end Sys2Proof.Machine
end

