-- ==== Sys2Proof/Machine/GreatHall.lean ====
section
/-! DEFINITION. The Great Hall: accounts and thresholds, queues, banks, and the routing table's commands
(04 R104-R128). -/

namespace Sys2Proof.Machine

/-- The number of queue q of egress e (04 R115). -/
def qkey (e q : Nat) : Nat := e * 16 + q

def getQueue (s : State) (k : Nat) : List Txn := tget [] s.gh.queues k
def setQueue (k : Nat) (l : List Txn) (s : State) : State :=
  { s with gh := { s.gh with queues := tput [] s.gh.queues k l } }

/-! ## Reserves (04 R109, R113) -/

/-- Lanes of a created port under its block's bifurcation. -/
def portLanes (s : State) (p : Nat) : Nat :=
  match tget 0 s.port.bifur (p / 4), p % 4 with
  | 0, _ => 16
  | 1, _ => 8
  | 2, 0 => 8
  | 2, _ => 4
  | 3, 2 => 8
  | 3, _ => 4
  | _, _ => 4

/-- The reserve of an ingress, in cells (04 R109): at a mover group's ingress, the 128 cells of each of its eight movers. -/
def reserveSize (s : State) (i : Nat) : Nat :=
  if i < 112 then 256 * portLanes s i else if i < 120 then 8192 else if i < 128 then 8 * Config.moverCells else 8192

/-- Flow-control classes of an ingress (04 R113). PCIe: 0 posted, 1 non-posted, 2 completion; a CXL port adds its
three CXL.mem classes 3-5 and, with CXL.cache, 6-8; an Obmulum link has one per channel; a mover has one class, and class j
of a mover group's ingress is that of its mover j. -/
def fccShares (s : State) (i : Nat) : Nat :=
  if i < 112 then (if (getPort s i).proto = 0 then 3 else if (getPort s i).cache then 9 else 6)
  else if i < 120 then 4 else if i < 128 then 8 else 3

/-- The share of one flow-control class: the division rounded down, the remainder to completions; LIMITv for a
link (04 R113, 10 R274). -/
def fccShare (s : State) (i f : Nat) : Nat :=
  if 112 ≤ i ∧ i < 120 then
    let l := getLink s (i - 112)
    match f with | 0 => l.vc0.limit | 1 => l.vc1.limit | 2 => l.vc2.limit | _ => l.vc3.limit
  else
    let n := fccShares s i
    reserveSize s i / n + (if f = 2 then reserveSize s i % n else 0)

/-- Cells charged to the share of ingress `i` and class `f`. -/
def reserveUsed (s : State) (i f : Nat) : Nat := tget 0 s.gh.reserveUsed (i * 16 + f)

/-! ## Admission (04 R111, 09 R265) -/

/-- k of a traffic class: K_CODE − 6, less 2 but not below −6 for a yellow request (04 R114, 09 R265). -/
def classK (s : State) (c : Nat) (yellow : Bool) : Int :=
  let k := Int.ofNat (tget 6 s.gh.kCode c) - 6
  if yellow then max (k - 2) (-6) else k

/-- The dynamic limit of a queue of class `c` (04 R111). -/
def threshold (f : Int) (k : Int) : Int := if 0 ≤ k then f * 2 ^ k.toNat else f / 2 ^ (-k).toNat

/-- The shared pool takes `n` more cells for the queue (04 R111). -/
def sharedFits (s : State) (k n : Nat) (yellow : Bool) : Bool :=
  decide (Int.ofNat (tget 0 s.gh.sharedOcc k + n) ≤ threshold s.gh.free (classK s (k % 16) yellow))
    && decide (Int.ofNat n ≤ s.gh.free)

/-- The ingress's share has room: credit was held for it (04 R110). -/
def reserveFits (s : State) (i f n : Nat) : Bool := decide (reserveUsed s i f + n ≤ fccShare s i f)

/-- ADVv of a link receiver grows by the cells that its channel gets back: those charged to the shared pool at
once, those of the reserve when they are freed (04 R111, 10 R283, R285). -/
def creditBack (i v n : Nat) (s : State) : State :=
  if 112 ≤ i ∧ i < 120 then
    let l := i - 112
    let x := getLink s l
    let up := fun (c : Credit) => { c with adv := (c.adv + n) % 2 ^ 24 }
    setLink l (match v with
      | 0 => { x with vc0 := up x.vc0 }
      | 1 => { x with vc1 := up x.vc1 }
      | 2 => { x with vc2 := up x.vc2 }
      | _ => { x with vc3 := up x.vc3 }) s
  else s

/-- Charge `n` cells to the shared pool or to the ingress's reserve (04 R111). -/
def charge (shared : Bool) (k i f n : Nat) (s : State) : State :=
  if shared then
    creditBack i f n { s with gh := { s.gh with
        free := s.gh.free - Int.ofNat n
        sharedOcc := tput 0 s.gh.sharedOcc k (tget 0 s.gh.sharedOcc k + n) } }
  else
    { s with gh := { s.gh with
        reserveOcc := tput 0 s.gh.reserveOcc k (tget 0 s.gh.reserveOcc k + n)
        reserveUsed := tput 0 s.gh.reserveUsed (i * 16 + f) (reserveUsed s i f + n) } }

/-- Free the cells of a transaction back to the account that was charged (04 R112). -/
def discharge (t : Txn) (s : State) : State :=
  let k := qkey t.egress t.queue
  if t.shared then
    { s with gh := { s.gh with
        free := s.gh.free + Int.ofNat t.cells
        sharedOcc := tput 0 s.gh.sharedOcc k (tget 0 s.gh.sharedOcc k - t.cells) } }
  else
    creditBack t.ingress t.fcc t.cells { s with gh := { s.gh with
        reserveOcc := tput 0 s.gh.reserveOcc k (tget 0 s.gh.reserveOcc k - t.cells)
        reserveUsed := tput 0 s.gh.reserveUsed (t.ingress * 16 + t.fcc) (reserveUsed s t.ingress t.fcc - t.cells) } }

/-- The cells of a transfer: one per 64 bytes of data, one for none (04 R105; log entry 25). -/
def cellsOf (bytes : Nat) : Nat := max 1 (ceilDiv bytes 64)

/-- The next transaction number. -/
def nextId (s : State) : Nat × State := (s.gh.nextTxn, { s with gh := { s.gh with nextTxn := s.gh.nextTxn + 1 } })

/-! ## Cells (04 R104, R105, R107, R125) -/

/-- A cell address: the bank in bits 20:13, the index in bits 12:0 (04 R104). -/
def cellAddr (bank index : Nat) : Nat := bank * 8192 + index
def cellBank (a : Nat) : Nat := a / 8192
def cellIndex (a : Nat) : Nat := a % 8192

/-- A bank is in the allocator's rotation: neither retired nor being relocated (04 R125). -/
def bankInService (s : State) (b : Nat) : Bool :=
  decide (b < 256) && !(s.gh.retired.contains b) && s.gh.relocQ.head? != some b

/-- Every transaction that occupies cells: queued, or held by a policer. -/
def storedTxns (s : State) : List Txn := (s.gh.queues.map (·.2)).flatten ++ s.sched.held.map (·.txn)

/-- The indexes of a bank whose cells are occupied. -/
def bankUsed (s : State) (b : Nat) : List Nat :=
  ((storedTxns s).flatMap (·.addrs)).filterMap (fun a => if cellBank a = b then some (cellIndex a) else none)

/-- The first index from `n` on, around the bank, that is free. -/
def freeIndex (taken : List Nat) (n : Nat) : Nat :=
  (((List.range Config.cellsPerBank).map (fun j => (n + j) % Config.cellsPerBank)).find? (fun i => !(taken.contains i))).getD 0

/-- The banks that a cell may come from: in service, with a free cell, and none of `avoid`. -/
def banksOpen (s : State) (avoid : List Nat) : List Nat :=
  (List.range 256).filter (fun b => bankInService s b && !(avoid.contains b)
    && decide ((bankUsed s b).length < Config.cellsPerBank))

/-- A free cell outside the banks `avoid`. The rotation skips every bank whose write backlog is full, so which bank comes next
and which of its cells is taken are free values (log entry 133). -/
def pickCell (avoid : List Nat) (s : State) : Nat × State :=
  let f := takeFree s
  let g := takeFree f.2
  let l := banksOpen s avoid
  let b := l.getD (f.1.toNat % max 1 l.length) 0
  (cellAddr b (freeIndex (bankUsed s b) (g.1.toNat % Config.cellsPerBank)), g.2)

/-- `n` cells, each in another bank than the cell before it, `last` being the bank before the first, and none in bank
`bad` (04 R105, R107). -/
def pickCells (bad : List Nat) : Nat → Nat → State → List Nat × State
  | 0, _, s => ([], s)
  | n + 1, last, s =>
    let c := pickCell (last :: bad) s
    let r := pickCells bad n (cellBank c.1) c.2
    (c.1 :: r.1, r.2)

/-- The Gallery whose cells an ingress fills (00 R17; 08 R221); the internal endpoint's are counted apart. -/
def ingressGallery (i : Nat) : Nat :=
  if i < 112 then galleryOfBlock (i / 4) else if i < 120 then galleryOfLink (i - 112) else if i < 128 then i - 120 else 8

/-- The cells of a transaction as the allocator gives them: each Gallery's consecutive cells in different banks. -/
def placeCells (bad : List Nat) (t : Txn) (s : State) : Txn × State :=
  let g := ingressGallery t.ingress
  let r := pickCells bad t.cells (tget 256 s.gh.lastBank g) s
  ({ t with addrs := r.1 }, { r.2 with gh := { r.2.gh with
      lastBank := tput 256 r.2.gh.lastBank g (cellBank (r.1.getLast?.getD (cellAddr 256 0))) } })

/-! ## Routing table (04 R117-R123) -/

/-- A DID entry of a generation. -/
def didEntry (s : State) (gen did : Nat) : Word :=
  match genContent s.gh.route gen with
  | some r => tget 0 r.did did
  | none => 0

/-- The DID of a bus number of a virtual switch, if its entry is valid (04 R117). -/
def busDid (s : State) (gen vs bus : Nat) : Option Nat :=
  match genContent s.gh.route gen with
  | some r =>
    let e := tget 0 r.bus (vs * 256 + bus)
    if e.getLsbD 15 then some (e.toNat % 4096) else none
  | none => none

/-- The queue that a DID entry names for a traffic class (04 R117). -/
def didQueue (e : Word) (tc : Nat) : Nat := if bit e 14 then min 15 (fld e 13 10 + tc) else fld e 13 10

/-- A DID entry with its fields clamped into their legal values (04 R117). -/
def didLegal (e : Word) : Word :=
  let eg := clampNat (fld e 9 2) 0 128
  let alt := if fld e 27 20 = 0xFF then 0xFF else clampNat (fld e 27 20) 112 119
  pack [(fld e 1 0, 0), (eg, 2), (fld e 19 10, 10), (alt, 20), (fld e 39 28, 28)]

/-- The clamp of one field of a DID entry, at data offset `off` of ARG2 or, with none, in ARG1. -/
def didClamp (off : Option Nat) (hi lo w u : Nat) : List FieldClamp :=
  if w = u then []
  else match off with
    | some o => [⟨48, true, o, hi, lo, w, u⟩]
    | none => [⟨40, false, 0, hi, lo, w, u⟩]

/-- The clamps of one DID entry. -/
def didClamps (e : Word) (off : Option Nat) : List FieldClamp :=
  didClamp off 9 2 (fld e 9 2) (fld (didLegal e) 9 2) ++ didClamp off 27 20 (fld e 27 20) (fld (didLegal e) 27 20)

/-- Write DID entries from index `i` on. -/
def putDids : Nat → List Word → Routes → Routes
  | _, [], r => r
  | i, w :: ws, r => putDids (i + 1) ws { r with did := tput 0 r.did i (didLegal w) }

/-- Write bus entries from index `i` on. -/
def putBuses : Nat → List Word → Routes → Routes
  | _, [], r => r
  | i, w :: ws, r => putBuses (i + 1) ws { r with bus := tput 0 r.bus i (w.setWidth 16 &&& 0x8FFF#16) }

/-- The staging copy of the routing table, taken from the committed one at the first write (02 R69). -/
def routeStaging (s : State) : Routes := s.gh.routeStage.getD (genCurrent ⟨[], []⟩ s.gh.route)

/-- RT_WRITE (04 R118). -/
def rtBody (data : ReadData) (c : SeqCmd) (s : State) : CmdOut :=
  let d := c.desc
  let size := if bit d.arg0 0 then 16384 else 4096
  let idx := used d.arg0 29 16 0 (size - 1)
  let count := fld d.arg3 14 0
  let n := min (min count 16384) (size - idx)
  let kc := (if idx = fld d.arg0 29 16 then [] else [(⟨32, false, 0, 29, 16, fld d.arg0 29 16, idx⟩ : FieldClamp)]) ++
    (if n = count then [] else [⟨56, false, 0, 14, 0, count, n⟩])
  let put := fun (ws : List Word) => if bit d.arg0 0 then putBuses idx ws (routeStaging s) else putDids idx ws (routeStaging s)
  if count = 0 then
    .done 0 (kc ++ (if bit d.arg0 0 then [] else didClamps d.arg1 none))
      { s with gh := { s.gh with routeStage := some (put [d.arg1]) } }
  else
    withData data s fun ws =>
      let vs := (List.range n).map (nth ws)
      .done 0 (kc ++ (if bit d.arg0 0 then [] else
          ((List.range n).map (fun j => didClamps (nth ws j) (some (8 * j)))).flatten))
        { s with gh := { s.gh with routeStage := some (put vs) } }

/-- GH_THRESH_SET (04 R114). -/
def threshBody (c : SeqCmd) (s : State) : CmdOut :=
  .done 0 (argClamps c.desc [(0, 3, 0, 0, 9)])
    { s with gh := { s.gh with kCode := tput 6 s.gh.kCode (objIndex c.desc.objectId % 16) (used c.desc.arg0 3 0 0 9) } }

def execGhThreshSet (seq : Nat) (s : State) : Out := .next (runOp 0x1002 anyDesc true threshBody seq s)

/-! ## Banks (04 R107, R108, R124-R127) -/

/-- A bank is retired or on its way to it. -/
def bankLeaving (s : State) (b : Nat) : Bool := s.gh.retired.contains b || s.gh.relocQ.contains b

/-- Banks that will stay in service once every retirement under way has ended. -/
def banksLeft (s : State) : Nat := 256 - s.gh.retired.length - s.gh.relocQ.length

/-- Start the retirement of a bank: GH_BANK_RETIRE is raised and its line held until the relocation is complete
(04 R124, R125; 15 R394). -/
def bankRetire (b : Nat) (s : State) : State :=
  assertLine 11 (unitCode 3 b) none none { s with gh := { s.gh with relocQ := s.gh.relocQ ++ [b] } }

/-- An automatic retirement, unless the bank is leaving already; one that would leave fewer than 64 banks is not
made and raises GH_ECC_UNCORR (04 R126). -/
def bankAutoRetire (b : Nat) (s : State) : State :=
  if bankLeaving s b then s
  else if banksLeft s ≤ Config.minBanks then pulse 10 (unitCode 3 b) none none s
  else bankRetire b s

/-- A corrected word read from cell `a` (04 R104, R108, R124; 15 R396). -/
def bankCorrected (a : Nat) (s : State) : State :=
  let b := cellBank a
  let recent := (s.gh.bankCeTimes.filter (fun e => decide (s.time.localNs < e.2 + 1000000000))) ++ [(b, s.time.localNs)]
  let s1 := pulse 9 (unitCode 3 b) (some (w64 a)) none { s with gh := { s.gh with
    eccCorr := sat64 s.gh.eccCorr
    bankCe := tput 0 s.gh.bankCe b (satAdd 32 (tget 0 s.gh.bankCe b) 1)
    bankCeTimes := recent } }
  if s.gh.ceLimit ≠ 0 ∧ s.gh.ceLimit ≤ (recent.filter (fun e => e.1 == b)).length then bankAutoRetire b s1 else s1

/-- An uncorrectable word read from cell `a` (04 R104, R108; 15 R396). -/
def bankUncorrectable (a : Nat) (s : State) : State :=
  pulse 10 (unitCode 3 (cellBank a)) (some (w64 a)) none { s with gh := { s.gh with eccUncorr := sat64 s.gh.eccUncorr } }

/-- A failed beat write counts, and its bank may retire (04 R107, R124). -/
def pairRewrite (b : Nat) (s : State) : State :=
  let s1 := { s with gh := { s.gh with pairRewrite := sat64 s.gh.pairRewrite } }
  if s.gh.writeFaultRetire then bankAutoRetire b s1 else s1

/-- The transaction's cells are written: a write that fails is made again in other banks, and no reader sees the failed
attempt (04 R105-R107). -/
def storeTxn (t : Txn) (s : State) : Txn × State :=
  match s.gh.writeFault with
  | some b =>
    let s1 := { s with gh := { s.gh with writeFault := none } }
    if bankInService s b then placeCells [b] t (pairRewrite b s1) else placeCells [] t s1
  | none => placeCells [] t s

/-- The next beat written to bank `b` fails (04 R107). -/
def writeWillFail (b : Option Nat) (s : State) : State :=
  match b with
  | some n => { s with gh := { s.gh with writeFault := some (n % 256) } }
  | none => s

/-- A waiting command on unit `u` of class 0x0F with this opcode. -/
def unitWaiters (s : State) (op u : Nat) : List SeqCmd :=
  waitingCmds s (fun c => c.desc.opcode.toNat == op && objIndex c.desc.objectId == u)

/-- A unit leaves service for good: it is listed as retired, and a UNIT_RETIRE that waits for it completes
(15 R402, R406). -/
def unitOut (u : Nat) (s : State) : State :=
  let s1 := { s with flt := { s.flt with retired := insNat s.flt.retired u } }
  endWaits true (unitWaiters s1 0xA001 u) s1

/-! ### Relocation (04 R125, R126) -/

/-- A transaction after an uncorrectable word of its data has been found: poison (04 R108). -/
def poisoned : Body → Body
  | .req r a => .req { r with poison := true } a
  | .rsp p k d => .rsp p (if k == .data then .poison else k) d
  | .home p r k => .home p { r with poison := true } k
  | .grant o h d dla => .grant o h (d.map (fun x => (true, x.2))) dla
  | .homeWrite a o n _ d => .homeWrite a o n true d
  | .record a ws _ => .record a ws true
  | b => b

/-- Move the cells that a transaction has in bank `b`, both beats of a pair together, to cells in other banks; `bad` are the
cells in which the copy met an uncorrectable word (04 R125). -/
def moveTxn (b : Nat) (bad : List Nat) (t : Txn) (s : State) : Txn × State :=
  if !(t.addrs.any (fun a => cellBank a == b)) then (t, s)
  else
    let r := pickCells [b] t.cells 256 s
    let t1 := { t with addrs := r.1 }
    if t.addrs.any (fun a => bad.contains a) then ({ t1 with body := poisoned t.body }, r.2) else (t1, r.2)

def moveTxns (b : Nat) (bad : List Nat) : List Txn → State → List Txn × State
  | [], s => ([], s)
  | t :: ts, s =>
    let r := moveTxn b bad t s
    let q := moveTxns b bad ts r.2
    (r.1 :: q.1, q.2)

def moveQueues (b : Nat) (bad : List Nat) : List Nat → State → State
  | [], s => s
  | k :: ks, s =>
    let r := moveTxns b bad (getQueue s k) s
    moveQueues b bad ks (setQueue k r.1 r.2)

def moveHeld (b : Nat) (bad : List Nat) : List HeldReq → State → List HeldReq × State
  | [], s => ([], s)
  | h :: hs, s =>
    let r := moveTxn b bad h.txn s
    let q := moveHeld b bad hs r.2
    ({ h with txn := r.1 } :: q.1, q.2)

/-- The cells of bank `b` whose copy meets an uncorrectable word: counted and raised as at a read (04 R108, R125). -/
def badCopies : List Nat → State → State
  | [], s => s
  | a :: as, s => badCopies as (bankUncorrectable a s)

/-- The cells of `l` in which a copy meets an uncorrectable word: a free value for each (log entry 154). -/
def copyErrs : List Nat → State → List Nat × State
  | [], s => ([], s)
  | a :: as, s =>
    let f := takeFree s
    let r := copyErrs as f.2
    (if bit f.1 0 then a :: r.1 else r.1, r.2)

/-- Every occupied cell of the bank is copied elsewhere, and the queues keep their order (04 R116, R125). -/
def relocateCells (b : Nat) (s : State) : State :=
  let bad := copyErrs ((bankUsed s b).map (cellAddr b)) s
  let s1 := moveQueues b bad.1 (tkeys s.gh.queues) (badCopies bad.1 bad.2)
  let r := moveHeld b bad.1 s1.sched.held s1
  { r.2 with sched := { r.2.sched with held := r.1 } }

/-- Power domain GHs of a bank is powered down once all 16 banks of its slice are retired (04 R126). -/
def settleSlice (b : Nat) (s : State) : State :=
  let d := ghDomain (bankDomain b)
  let gone := (List.range' (16 * bankDomain b) 16).all (fun x => s.gh.retired.contains x)
  { s with pwr := { s.pwr with down := if gone then insNat s.pwr.down d else s.pwr.down.filter (fun x => x != d) } }

/-- The head of the relocation queue has been relocated: its cells have been copied, the pool shrinks by 6,144 cells, the
line drops and the next retirement starts (04 R125, R126). -/
def relocationDone (s : State) : State :=
  match s.gh.relocQ with
  | [] => s
  | b :: rest =>
    let s1 := relocateCells b s
    settleSlice b (unitOut (unitCode 3 b) (dropLine 11 (unitCode 3 b) { s1 with gh := { s1.gh with
      relocQ := rest, retired := insNat s1.gh.retired b, free := s1.gh.free - 6144 } }))

def execBankRelocationDone (s : State) : Out := .next (relocationDone s)

/-- A tested bank joins the rotation: the pool grows by 6,144 cells (04 R127). -/
def bankReturn (b : Nat) (s : State) : State :=
  settleSlice b { s with gh := { s.gh with retired := s.gh.retired.filter (fun x => x != b), free := s.gh.free + 6144 } }

end Sys2Proof.Machine
end

