-- ==== Sys2Proof/Machine/Arbiter.lean ====
section
/-! DEFINITION. The mover arbiter: the credit classes, their credits, decisions, grants and preemptions (08 R232-R236). -/

namespace Sys2Proof.Machine

/-! ## Settings (08 R232) -/

/-- The settings of a class in force. -/
def classCfg (x : MoveClass) : ClassCfg :=
  ⟨x.weight, x.burstLog2, x.marginLog2, x.maxMovers, x.groups, x.queueMax, x.watchdogUs⟩

/-- Put settings in force. -/
def withCfg (c : ClassCfg) (x : MoveClass) : MoveClass :=
  { x with weight := c.weight, burstLog2 := c.burstLog2, marginLog2 := c.marginLog2, maxMovers := c.maxMovers,
           groups := c.groups, queueMax := c.queueMax, watchdogUs := c.watchdogUs, next := none }

/-- New settings apply from the next decision point (08 R232). -/
def adoptClasses : List Nat → State → State
  | [], s => s
  | c :: cs, s =>
    adoptClasses cs (match (getClass s c).next with
      | some n => setClass c (withCfg n (getClass s c)) s
      | none => s)

def adoptAll (s : State) : State := adoptClasses (tkeys s.move.classes) s

/-! ## Credits and requests (08 R233) -/

/-- The credit of a class in a group. -/
def creditOf (x : MoveClass) (g : Nat) : Int := tget 0 x.credit g

/-- Credits stay within ±2^24. -/
def clamp24 (x : Int) : Int := clampInt x (-(2 ^ 24)) (2 ^ 24)

/-- The movers of a group. -/
def groupMovers (g : Nat) : List Nat := (List.range 8).map (fun j => g * 8 + j)

/-- Movers of group `g` that class `c` holds. -/
def heldIn (s : State) (c g : Nat) : Nat :=
  ((groupMovers g).filter (fun m => (getMover s m).state == .granted && (getMover s m).owner == c)).length

/-- Buffered capture records wait for a mover of class `c` (04 R133, 08 R232). -/
def captureWork (s : State) (c : Nat) : Bool :=
  s.cap.enable && !s.cap.buffer.isEmpty && s.cap.creditClass == c
    && !(s.move.movers.any (fun e => match e.2.job with | some j => j.kind == .capture | none => false))

/-- The class requests in the group (08 R233). -/
def requesting (s : State) (c g : Nat) : Bool :=
  let x := getClass s c
  decide (0 < heldIn s c g) || ((!x.queue.isEmpty || captureWork s c) && x.groups.getLsbD g)

/-- Change a class's credit in a group. -/
def setCredit24 (c g : Nat) (v : Int) (s : State) : State :=
  setClass c { getClass s c with credit := tput 0 (getClass s c).credit g (clamp24 v) } s

/-- A class that stops requesting keeps a debt but no surplus (08 R233). -/
def dropSurplus (g : Nat) : List Nat → State → State
  | [], s => s
  | c :: cs, s =>
    dropSurplus g cs (if 0 < creditOf (getClass s c) g ∧ !(requesting s c g) then setCredit24 c g 0 s else s)

def dropAll : List Nat → State → State
  | [], s => s
  | g :: gs, s => dropAll gs (dropSurplus g (tkeys s.move.classes) s)

/-- After every change of the queues and grants. -/
def settleCredits (s : State) : State := dropAll (List.range 8) s

/-- Share `b` bytes among the requesting classes of a group (08 R233). -/
def shareCredit (g b w : Nat) : List Nat → State → State
  | [], s => s
  | c :: cs, s =>
    let x := getClass s c
    shareCredit g b w cs (setCredit24 c g (creditOf x g + Int.ofNat (b * x.weight / w)) s)

/-- The requesting classes of a group. -/
def requesters (s : State) (g : Nat) : List Nat := (List.range 64).filter (fun c => requesting s c g)

/-- The credit part of a tick (08 R233). -/
def tickCredit (g : Nat) (s : State) : State :=
  let b := tget 0 s.move.issued g
  let rs := requesters s g
  let w := rs.foldl (fun a c => a + (getClass s c).weight) 0
  let s1 := { s with move := { s.move with issued := tput 0 s.move.issued g 0 } }
  if w = 0 then s1 else shareCredit g b w rs s1

/-! ## Decisions (08 R227, R234) -/

/-- A job of the class with a lower number has not ended: queued, held by a mover, or with lines in flight. -/
def earlierJob (s : State) (c id : Nat) : Bool :=
  (getClass s c).queue.any (fun j => decide (j.id < id))
    || s.move.movers.any (fun e => e.2.owner == c && (match e.2.job with
        | some j => decide (j.id < id) && j.kind != .capture
        | none => false))

/-- The job that a mover would take from the class's queue: its head, unless a FENCE holds it back (08 R227). -/
def nextJob (s : State) (c : Nat) : Option Job :=
  match (getClass s c).queue with
  | [] => none
  | j :: _ => if j.fence && !j.started && earlierJob s c j.id then none else some j

/-- The job that stands for the writing of the capture buffer (04 R133). -/
def captureJob (id : Nat) : Job :=
  { id := id, kind := .capture, submitter := .pf, fence := false, event := false, srcSpace := 0, dstSpace := 0,
    srcSel := 0, dstSel := 0, src := 0, dst := 0, length := 0, pattern := 0, statusAddr := 0, tag := 0, next := 0,
    poisonLines := 0, firstBad := 0, started := true, failed := none }

/-- The class has work for a mover. -/
def classWork (s : State) (c : Nat) : Bool := captureWork s c || (nextJob s c).isSome

/-- The class may receive a grant in the group (08 R234). -/
def eligible (s : State) (c g : Nat) : Bool :=
  let x := getClass s c
  x.groups.getLsbD g && classWork s c && !x.stuck && decide (heldIn s c g < x.maxMovers)

/-- The class of a list with the highest credit in the group, the lowest number on a tie. -/
def richest (s : State) (g : Nat) (l : List Nat) : Option Nat :=
  l.foldl (fun b c => match b with
    | none => some c
    | some d => if creditOf (getClass s d) g < creditOf (getClass s c) g then some c else some d) none

/-- The class that wins a decision of the group (08 R234). -/
def winner (s : State) (g : Nat) : Option Nat := richest s g ((List.range 64).filter (fun c => eligible s c g))

/-- A mover takes the next work of class `c` within its grant: the capture buffer, or the head of the queue. -/
def takeJob (c m : Nat) (s : State) : State :=
  let x := getMover s m
  if captureWork s c then
    setMover m { x with job := some (captureJob s.move.nextJob) }
      { s with move := { s.move with nextJob := s.move.nextJob + 1 } }
  else match nextJob s c with
    | some j =>
      setMover m { x with job := some { j with started := true } }
        (setClass c { getClass s c with queue := (getClass s c).queue.tail } s)
    | none => s

/-- Grant a mover to class `c` (08 R234). -/
def grantMover (c m : Nat) (s : State) : State :=
  let x := getMover s m
  takeJob c m (setMover m { x with
    state := .granted, owner := c, job := none, grantBytes := 0, grantAt := s.move.grants, burst := (getClass s c).burstLog2 }
    { s with move := { s.move with grants := s.move.grants + 1 } })

/-- A decision point of an idle mover (08 R234); settings written since the last one apply from it (08 R232). -/
def decideMover (m : Nat) (s : State) : State :=
  if (getMover s m).state != .idle then s
  else
    let s1 := adoptAll s
    match winner s1 (m / 8) with
    | some c => settleCredits (grantMover c m s1)
    | none => settleCredits s1

/-- Return a job to the head of its class's queue (08 R236); a capture job needs no saving. -/
def requeue (c : Nat) (j : Job) (s : State) : State :=
  if j.kind == .capture then s else setClass c { getClass s c with queue := { j with started := true } :: (getClass s c).queue } s

/-- A mover gives up its grant, saving its job's progress (08 R236). -/
def releaseMover (m : Nat) (s : State) : State :=
  let x := getMover s m
  let s1 := setMover m { x with state := .idle, job := none, grantBytes := 0 } s
  match x.job with
  | some j => requeue x.owner j s1
  | none => s1

/-- A grant ends by burst: the decision that follows may give the mover back to its owner (08 R234, R236). -/
def endBurst (m : Nat) (s : State) : State :=
  let s1 := releaseMover m s
  decideMover m { s1 with move := { s1.move with bursts := sat64 s1.move.bursts } }

/-- BURST_END: the grant has issued 2^BURST_LOG2 bytes (08 R234). -/
def burstEnd (m : Nat) (s : State) : State :=
  let x := getMover s m
  if x.state == .granted && decide (2 ^ x.burst ≤ x.grantBytes) then endBurst m s else s

/-- The owning class of a group with the lowest credit, the highest number on a tie (08 R235). -/
def poorest (s : State) (g : Nat) : Option Nat :=
  ((List.range 64).filter (fun c => decide (0 < heldIn s c g))).foldl (fun b c => match b with
    | none => some c
    | some d => if creditOf (getClass s d) g < creditOf (getClass s c) g then some d else some c) none

/-- The mover of class `o` in the group whose grant began first. -/
def oldestGrant (s : State) (o g : Nat) : Option Nat :=
  ((groupMovers g).filter (fun m => (getMover s m).state == .granted && (getMover s m).owner == o)).foldl
    (fun b m => match b with
      | none => some m
      | some d => if (getMover s m).grantAt < (getMover s d).grantAt then some m else some d) none

/-- The preemption check of a group (08 R235). -/
def preempt (g : Nat) (s : State) : State :=
  if (groupMovers g).any (fun m => (getMover s m).state == .idle) then s
  else
    match richest s g ((List.range 64).filter (fun c => eligible s c g && heldIn s c g == 0)), poorest s g with
    | some c, some o =>
      if 2 ^ (getClass s c).marginLog2 ≤ creditOf (getClass s c) g - creditOf (getClass s o) g then
        match oldestGrant s o g with
        | some m =>
          let s1 := adoptAll (releaseMover m s)
          settleCredits (grantMover c m { s1 with move := { s1.move with preempts := sat64 s1.move.preempts } })
        | none => s
      else s
    | _, _ => s

/-- A tick of a group (08 R233, R235). -/
def arbiterTick (g : Nat) (s : State) : State := preempt g (tickCredit g s)

def preemptGroups : List Nat → State → State
  | [], s => s
  | g :: gs, s => preemptGroups gs (preempt g s)

/-- The groups that may serve a class in which it does not request yet: those in which it starts requesting when its work
grows (08 R235). -/
def newGroups (s : State) (c : Nat) : List Nat :=
  (List.range 8).filter (fun g => (getClass s c).groups.getLsbD g && !(requesting s c g))

def execArbiterTick (g : Nat) (s : State) : Out := inUnit "mover group" g 8 (.next (arbiterTick g s))

def execBurstEnd (m : Nat) (s : State) : Out := inUnit "mover" m 64 (.next (burstEnd m s))

end Sys2Proof.Machine
end

