-- ==== Sys2Proof/Machine/Windows.lean ====
section
/-! DEFINITION. Window tables, page maps, the map cache and the commands on them (05 R137-R160, 12 R340). -/

namespace Sys2Proof.Machine

/-! ## Committed tables -/

/-- The committed window table of a host. -/
def winNow (s : State) (h : Nat) : WinTable := genCurrent ⟨0, 0, []⟩ (getHost s h).win

/-- The committed map of a host. -/
def mapNow (s : State) (h : Nat) : Tbl Region := genCurrent [] (getHost s h).map

/-- The window table of a protection epoch (05 R152). -/
def winAt (s : State) (h epoch : Nat) : WinTable := (genContent (getHost s h).win epoch).getD (winNow s h)

/-- The map of a map generation (05 R152). -/
def mapAt (s : State) (h gen : Nat) : Tbl Region := (genContent (getHost s h).map gen).getD (mapNow s h)

/-- A window entry of a table. -/
def winEntry (t : WinTable) (i : Nat) : WinEntry := tget WinEntry.reset t.entries i

/-- The aperture's first page and its page count (05 R138). -/
def aperPage (t : WinTable) : Nat := t.aperBase * 512
def aperPages (t : WinTable) : Nat := t.aper2m * 512

/-- A page lies inside the aperture. -/
def inAperture (t : WinTable) (page : Nat) : Bool :=
  decide (aperPage t ≤ page) && decide (page < aperPage t + aperPages t)

/-! ## Window checks (05 R139, R141) -/

/-- The rights that an access needs (05 R141). -/
inductive Need where
  | none | r | w | rw | x
deriving DecidableEq, Repr

/-- The valid window that holds a page. -/
def winFind (t : WinTable) (page : Nat) : Option WinEntry :=
  (t.entries.find? (fun e => e.2.valid && decide (e.2.base ≤ page) && decide (page ≤ e.2.limit))).map (·.2)

/-- The R, W and X rights that a window grants at a level, to a VF at level 2 (05 R141). -/
def winRights (w : WinEntry) (level : Nat) (vf : Option Nat) : Nat :=
  if level = 2 && !(w.vfValid && vf == some w.vf) then 0 else w.perm.toNat / 2 ^ (3 * level) % 8

/-- The window entries grant the access (05 R141). -/
def winGrants (t : WinTable) (page level : Nat) (vf : Option Nat) (n : Need) : Bool :=
  match n with
  | .none => true
  | _ =>
    match winFind t page with
    | none => false
    | some w =>
      let g := winRights w level vf
      match n with
      | .none => true
      | .r => testb g 0
      | .w => testb g 1
      | .rw => testb g 0 && testb g 1
      | .x => testb g 2

/-! ## Maps (05 R144, R145) -/

/-- A map entry as the 8 bytes of R144. -/
def mapEntOf (w : Word) : MapEnt := ⟨bit w 0, bit w 1, bit w 2, fld w 15 4, fld w 63 20⟩

def mapEntWord (e : MapEnt) : Word :=
  pack [(b2n e.valid, 0), (b2n e.huge, 1), (b2n e.migrating, 2), (e.did, 4), (e.pfn, 20)]

/-- The entry that maps page `off` of the aperture. -/
def mapLookup (m : Tbl Region) (off : Nat) : MapEnt :=
  match tget Region.invalid m (off / 512) with
  | .invalid => MapEnt.none
  | .huge e => e
  | .leaf t => tget MapEnt.none t (off % 512)

/-- The device address of byte `low` of a 2 MiB region under its entry (05 R144). -/
def devAddr (e : MapEnt) (addr : Nat) : Nat := e.pfn * 4096 + addr % (if e.huge then 2097152 else 4096)

/-- The leaf that stands for a HUGE entry: the same device addresses with the same DID (05 R145). -/
def splitLeaf (e : MapEnt) : Tbl MapEnt :=
  tputs MapEnt.none [] 0 ((List.range 512).map (fun k => { e with huge := false, pfn := e.pfn + k }))

/-- The leaf of a region: its own, or one made for it (05 R145). -/
def leafOf : Region → Tbl MapEnt
  | .invalid => []
  | .huge e => splitLeaf e
  | .leaf t => t

/-- Write one entry at page `off` of the aperture (05 R145). -/
def mapPut (off : Nat) (e : MapEnt) (m : Tbl Region) : Tbl Region :=
  tput Region.invalid m (off / 512)
    (if e.huge then .huge e
     else .leaf (tput MapEnt.none (leafOf (tget Region.invalid m (off / 512))) (off % 512) e))

def isLeaf : Region → Bool
  | .leaf _ => true
  | _ => false

/-- Leaves that the resident generations of one host's map hold: one for each run of consecutive generations
with a leaf in the same region (05 R145). -/
def leafRuns (l : List (Tbl Region)) : Nat :=
  match l with
  | [] => 0
  | [m] => (m.filter (fun e => isLeaf e.2)).length
  | m :: n :: rest =>
    (m.filter (fun e => isLeaf e.2 && !(isLeaf (tget Region.invalid n e.1)))).length + leafRuns (n :: rest)

/-- Leaves held by a host: committed ones and those its staging sets have taken. -/
def hostLeaves (h : HostSpace) : Nat :=
  leafRuns (h.map.slots.map (fun e => e.2.content))
    + ((h.stageMgr.map (fun x => x.leaves)).getD 0) + h.stageVf.foldl (fun a e => a + e.2.leaves) 0

/-- A region entry's word: the map entry itself, or the pointer to leaf `leaf`, VALID 1 and HUGE 0 (05 R144, R145). -/
def regionWord (leaf : Nat) (r : Region) : Word :=
  match r with
  | .invalid => 0
  | .huge e => mapEntWord e
  | .leaf _ => pack [(1, 0), (leaf % 2 ^ 22, 32)]

/-- Where the map store's region starts in on-package memory (05 R157). -/
def storeBase (s : State) : Nat := if s.glb.variant == .c24 then 2 ^ 34 else 2 ^ 35

/-- The place of region entry `r` of host `h`, of the staging area, of entry `e` of leaf `leaf`, and of the heat tables
(05 R157). -/
def regionAt (s : State) (h r : Nat) : Nat := storeBase s + h * 2 ^ 24 + r * 8
def stagingAt (s : State) : Nat := storeBase s + 2 ^ 30
def leafAt (s : State) (leaf e : Nat) : Nat := storeBase s + 2 ^ 30 + 2 ^ 26 + leaf * 4096 + e * 8
def heatAt (s : State) : Nat := storeBase s + (if s.glb.variant == .c24 then 6 else 12) * 2 ^ 30

/-- The leaves of the pool (05 R157). -/
def leafPool (s : State) : Nat := if s.glb.variant == .c24 then 1294336 else 2867200

/-- WIN_LEAF_FREE. -/
def leafFree (s : State) : Nat := leafPool s - s.win.hosts.foldl (fun a e => a + hostLeaves e.2) 0

/-- Staging entries that VFs have reserved (12 R334). -/
def vfStaged (s : State) : Nat := s.vf.vfs.foldl (fun a e => a + (if vfExists e.2 then e.2.mapStage else 0)) 0

/-- Staging entries of the manager's sets. -/
def mgrStaged (s : State) : Nat :=
  s.win.hosts.foldl (fun a e => a + ((e.2.stageMgr.map (fun x => x.ents.length)).getD 0)) 0

/-- WIN_STAGE_FREE: neither filled by the manager nor reserved by a VF (05 R147, 12 R334; log entry 26). -/
def stageFree (s : State) : Nat := Config.stageSpace - mgrStaged s - vfStaged s

/-! ## WIN_WRITE and WIN_LOCK (05 R142, R155) -/

/-- The contents of an entry without the flags that WIN_WRITE cannot change. -/
def entryBody (e : WinEntry) : WinEntry := { e with locked := false, shared := false, mapLocked := false }

/-- The entry that WIN_WRITE's words spell, with the flags of the committed one (05 R141, R142). -/
def winEntryOf (old : WinEntry) (w0 w1 w2 : Word) : WinEntry :=
  { old with valid := bit w0 0, base := fld w0 63 12, limit := max (fld w1 63 12) (fld w0 63 12),
             perm := BitVec.ofNat 12 (fld w2 11 0), vf := fld w2 26 16, vfValid := bit w2 31 }

/-- The staging copy of a window table, taken from the committed one at the first write (05 R143). -/
def winStaging (s : State) (h : Nat) : WinTable := (getHost s h).winStage.getD (winNow s h)

/-- The aperture size used: at most 2,097,152, and ending at or below 2^52 (05 R138, R142). -/
def aperUsed (base n : Nat) : Nat := min (min n 2097152) (2 ^ 31 - base)

/-- WIN_WRITE (05 R142). -/
def winBody (c : SeqCmd) (s : State) : CmdOut :=
  let d := c.desc
  let h := objIndex d.objectId
  let t := winStaging s h
  let host := getHost s h
  if bit d.arg0 16 then
    let b := fld d.arg1 51 21
    let n := aperUsed b (fld d.arg2 21 0)
    .done 0 (if n = fld d.arg2 21 0 then [] else [⟨48, false, 0, 21, 0, fld d.arg2 21 0, n⟩])
      (setHost h { host with winStage := some { t with aperBase := b, aper2m := n } } s)
  else
    let i := fld d.arg0 9 0
    let old := winEntry (winNow s h) i
    if old.locked then .fail LOCKED s
    else
      .done 0 (if fld d.arg2 63 12 < fld d.arg1 63 12
               then [⟨48, false, 0, 63, 12, fld d.arg2 63 12, fld d.arg1 63 12⟩] else [])
        (setHost h { host with winStage := some { t with
          entries := tput WinEntry.reset t.entries i (winEntryOf old d.arg1 d.arg2 d.arg3) } } s)

def execWinWrite (seq : Nat) (s : State) : Out := .next (runOp 0x2001 anyDesc false winBody seq s)

/-- Change an entry's flags in the committed table and in the staging copy, outside any commit. -/
def winFlags (h i : Nat) (f : WinEntry → WinEntry) (s : State) : State :=
  let put := fun (t : WinTable) => { t with entries := tput WinEntry.reset t.entries i (f (winEntry t i)) }
  let host := getHost s h
  setHost h { host with win := genEdit put host.win, winStage := host.winStage.map put } s

/-- The staging copy would change entry `i`. -/
def winStageChanges (s : State) (h i : Nat) : Bool :=
  match (getHost s h).winStage with
  | none => false
  | some t => entryBody (winEntry t i) != entryBody (winEntry (winNow s h) i)

/-- WIN_LOCK (05 R155). -/
def winLockBody (c : SeqCmd) (s : State) : CmdOut :=
  let h := objIndex c.desc.objectId
  let i := fld c.desc.arg0 9 0
  if !(winEntry (winNow s h) i).valid || winStageChanges s h i then .fail PRECONDITION s
  else .done 0 [] (winFlags h i
    (fun e => { e with locked := true, mapLocked := e.mapLocked || bit c.desc.arg0 16 }) s)

def execWinLock (seq : Nat) (s : State) : Out := .next (runOp 0x2002 anyDesc true winLockBody seq s)

/-! ## Waiting commands of the tables: TBL_DRAIN (04 R123) and WIN_EPOCH_FENCE (05 R154) -/

/-- The generation table that a command's object names, as drained up to `g` and its oldest generation. -/
def drainState (s : State) (c : SeqCmd) (g : Nat) : Bool × Nat :=
  let h := objIndex c.desc.objectId
  match objClass c.desc.objectId with
  | 1 => (genDrained g s.gh.route, genOldest s.gh.route)
  | 2 => (genDrained g (getHost s h).win, genOldest (getHost s h).win)
  | _ => (genDrained g (getHost s h).map, genOldest (getHost s h).map)

/-- The current generation of a versioned table. -/
def tableCurrent (s : State) (cls idx : Nat) : Nat :=
  match cls with
  | 1 => s.gh.route.current
  | 2 => (getHost s idx).win.current
  | _ => (getHost s idx).map.current

/-- Complete a waiting drain or fence whose condition holds. -/
def wakeOne (c : SeqCmd) (s : State) : State :=
  if c.desc.opcode = 0x0006#16 then
    let r := drainState s c (fld c.desc.arg0 31 0)
    if r.1 then endWait c false (w64 r.2) s else s
  else if genFenced c.aux (getHost s (objIndex c.desc.objectId)).win then endWait c false (w64 c.aux) s else s

def wakeList : List SeqCmd → State → State
  | [], s => s
  | c :: cs, s => wakeList cs (wakeOne c s)

/-- Complete every drain and fence whose condition holds now. -/
def wakeTables (s : State) : State :=
  wakeList (waitingCmds s (fun c => c.desc.opcode == 0x0006#16 || c.desc.opcode == 0x2003#16)) s

/-- TBL_DRAIN's check (02 R71, 04 R123). -/
def drainBody (c : SeqCmd) (s : State) : CmdOut :=
  if older (tableCurrent s (objClass c.desc.objectId) (objIndex c.desc.objectId)) (fld c.desc.arg0 31 0)
  then .wait [] s else .fail PRECONDITION s

def execTblDrain (seq : Nat) (s : State) : Out := .next (wakeTables (runOp 6 anyDesc false drainBody seq s))

/-- WIN_EPOCH_FENCE remembers the epoch current at its check (05 R154). -/
def fenceBody (c : SeqCmd) (s : State) : CmdOut :=
  .wait [] (setAux c.seq (getHost s (objIndex c.desc.objectId)).win.current s)

def execWinEpochFence (seq : Nat) (s : State) : Out := .next (wakeTables (runOp 0x2003 anyDesc false fenceBody seq s))

/-! ## In-flight counts of host accesses (05 R153) -/

/-- An access to host `h` with these stamps is in flight. -/
def hostInc (h mapGen epoch : Nat) (s : State) : State :=
  let x := getHost s h
  setHost h { x with map := genInc mapGen x.map, win := genInc epoch x.win } s

/-- An access to host `h` ends (05 R153). -/
def hostDec (h : Option Nat) (mapGen epoch : Nat) (s : State) : State :=
  match h with
  | none => s
  | some k =>
    let x := getHost s k
    wakeTables (setHost k { x with map := genDec mapGen x.map, win := genDec epoch x.win } s)

/-- A transaction is stamped with routing generation `g` (04 R121). -/
def routeInc (g : Nat) (s : State) : State := { s with gh := { s.gh with route := genInc g s.gh.route } }

/-- A transaction is dequeued or ended: it leaves its routing generation's count (04 R121). -/
def routeDec (g : Nat) (s : State) : State := wakeTables { s with gh := { s.gh with route := genDec g s.gh.route } }

/-! ## MAP_WRITE (05 R146, R147; 12 R340) -/

/-- The VF that issued a command on a tenant ring. -/
def issuerVf (c : SeqCmd) : Option Nat :=
  match c.origin with
  | .ring (.tenant v) => some v
  | .silent v => some v
  | _ => none

/-- The issuer's staging set (12 R340). -/
def stageSet (s : State) (h : Nat) (vf : Option Nat) : StageSet :=
  match vf with
  | none => (getHost s h).stageMgr.getD ⟨[], 0⟩
  | some v => tget ⟨[], 0⟩ (getHost s h).stageVf v

/-- Replace the issuer's staging set; an empty one is none. -/
def putStage (h : Nat) (vf : Option Nat) (x : StageSet) (s : State) : State :=
  let host := getHost s h
  match vf with
  | none => setHost h { host with stageMgr := if x.ents.isEmpty then none else some x } s
  | some v => setHost h { host with stageVf := tput ⟨[], 0⟩ host.stageVf v (if x.ents.isEmpty then ⟨[], 0⟩ else x) } s

/-- Pages that an entry covers. -/
def entPages (e : MapEnt) : Nat := if e.huge then 512 else 1

/-- The whole range of `n` pages lies inside one window granted to the VF (12 R340). -/
def vfWindow (t : WinTable) (v page n : Nat) : Bool :=
  t.entries.any (fun e => e.2.valid && e.2.vfValid && e.2.vf == v && decide (e.2.base ≤ page)
    && decide (page + n ≤ e.2.limit + 1))

/-- The DID lies inside a valid TARGET range of the VF (12 R340). -/
def vfTarget (x : Vf) (did : Nat) : Bool := x.targets.any (fun r => decide (r.1 ≤ did) && decide (did ≤ r.2))

/-- The tenant may map this entry at this page (12 R340). -/
def tenantMaps (s : State) (h : Nat) (vf : Option Nat) (page : Nat) (e : MapEnt) : Bool :=
  match vf with
  | none => true
  | some v => vfWindow (winNow s h) v page (entPages e) && vfTarget (getVf s v) e.did

/-- Some page of the range lies in a window whose MAP_LOCKED is 1 (05 R155). -/
def mapLockedAt (t : WinTable) (page n : Nat) : Bool :=
  t.entries.any (fun e => e.2.valid && e.2.mapLocked && decide (page ≤ e.2.limit) && decide (e.2.base < page + n))

/-- A page of the range is migrating now. -/
def migratingAt (s : State) (h page n : Nat) : Bool :=
  s.move.migs.any (fun e => match e.2 with
    | some m => m.host == h && decide (m.page < page + n) && decide (page < m.page + (if m.huge then 512 else 1))
    | none => false)

/-- The region that holds a leaf in a staging set's view of the map. -/
def viewLeaf (m : Tbl Region) (first : Nat) (l : List Staged) (region : Nat) : Bool :=
  match (l.filter (fun x => (x.page - first) / 512 == region)).getLast? with
  | some x => !x.ent.huge
  | none => isLeaf (tget Region.invalid m region)

/-- Stage entries in order, each replacing one of the same page and size, and take the leaves they need (05 R145,
R147). -/
def stageAll (m : Tbl Region) (first : Nat) : List (Nat × MapEnt) → StageSet → StageSet
  | [], x => x
  | (page, e) :: rest, x =>
    let more := if !e.huge && !(viewLeaf m first x.ents ((page - first) / 512)) then 1 else 0
    stageAll m first rest
      ⟨x.ents.filter (fun y => !(y.page == page && y.ent.huge == e.huge)) ++ [⟨page, e, false⟩], x.leaves + more⟩

/-- The entry used of a word, with HUGE as the first entry of the block has it (05 R146). -/
def mapWordUsed (huge : Bool) (w : Word) : MapEnt :=
  let e := mapEntOf w
  { e with huge := huge, migrating := false, pfn := if huge then e.pfn / 512 * 512 else e.pfn }

/-- One clamp of a map word, in ARG1 or at byte `off` of the data. -/
def mapClamp (off : Option Nat) (hi lo : Nat) (w u : Nat) : List FieldClamp :=
  if w = u then []
  else match off with
    | some o => [⟨48, true, o, hi, lo, w, u⟩]
    | none => [⟨40, false, 0, hi, lo, w, u⟩]

def mapClamps (off : Option Nat) (huge : Bool) (w : Word) : List FieldClamp :=
  mapClamp off 1 1 (fld w 1 1) (b2n huge) ++ mapClamp off 2 2 (fld w 2 2) 0
    ++ (if huge then mapClamp off 28 20 (fld w 28 20) 0 else [])

/-- The clamps of every word of a block. -/
def mapBlockClamps (huge : Bool) : Nat → List Word → List FieldClamp
  | _, [] => []
  | j, w :: ws => mapClamps (some (8 * j)) huge w ++ mapBlockClamps huge (j + 1) ws

/-- Consecutive pages of the first entry's size. -/
def mapPages (huge : Bool) : Nat → List Word → List (Nat × MapEnt)
  | _, [] => []
  | page, w :: ws => (page, mapWordUsed huge w) :: mapPages huge (page + (if huge then 512 else 1)) ws

/-- How many entries of COUNT are used when the first page lies inside the aperture (05 R146). -/
def mapCount (t : WinTable) (page size count : Nat) : Nat :=
  if inAperture t page then max 1 (min (min count 16384) ((aperPage t + aperPages t - page) / size)) else min count 16384

/-- MAP_WRITE with its entries in hand (05 R146). -/
def mapWriteWith (c : SeqCmd) (ws : List Word) (data : Bool) (s : State) : CmdOut :=
  let d := c.desc
  let h := objIndex d.objectId
  let t := winNow s h
  let vf := issuerVf c
  let huge := (mapEntOf (nth ws 0)).huge
  let hpa := fld d.arg0 51 12
  let page := if huge then hpa / 512 * 512 else hpa
  let count := fld d.arg3 15 0
  let n := if data then mapCount t page (if huge then 512 else 1) count else 1
  let used := (List.range n).map (nth ws)
  let ents := mapPages huge page used
  let clamps := (if page = hpa then [] else [(⟨32, false, 0, 20, 12, hpa % 512, 0⟩ : FieldClamp)])
    ++ (if data && n != count then [(⟨56, false, 0, 15, 0, count, n⟩ : FieldClamp)] else [])
    ++ (if data then mapBlockClamps huge 0 used else mapClamps none huge (nth ws 0))
  let x := stageAll (mapNow s h) (aperPage t) ents (stageSet s h vf)
  let old := stageSet s h vf
  if ents.any (fun e => mapLockedAt t e.1 (entPages e.2)) then .fail LOCKED s
  else if ents.any (fun e => !(inAperture t e.1) || migratingAt s h e.1 (entPages e.2) || !(tenantMaps s h vf e.1 e.2))
  then .fail PRECONDITION s
  else if leafFree s < x.leaves - old.leaves
      || (match vf with
          | none => decide (stageFree s < x.ents.length - old.ents.length)
          | some v => decide ((getVf s v).mapStage < x.ents.length))
  then .fail NO_RESOURCE s
  else .done 0 clamps (putStage h vf x s)

/-- MAP_WRITE (05 R146). -/
def mapBody (data : ReadData) (c : SeqCmd) (s : State) : CmdOut :=
  if fld c.desc.arg3 15 0 = 0 then mapWriteWith c [c.desc.arg1] false s
  else withData data s (fun ws => mapWriteWith c ws true s)

/-! ## The map cache (05 R158) -/

/-- The tag that a lookup of page `page` (host page number) under generation `g` needs. -/
def cacheTag (s : State) (h g page : Nat) : CacheTag :=
  let t := winNow s h
  match tget Region.invalid (mapAt s h g) ((page - aperPage t) / 512) with
  | .leaf _ => ⟨h, page, false, g⟩
  | _ => ⟨h, page / 512 * 512, true, g⟩

/-- The lookup hits: a tag of the generation, or one of the current generation where both generations map the
page alike (05 R152, R158). -/
def cacheHit (s : State) (h g page : Nat) : Bool :=
  let t := cacheTag s h g page
  let now := (getHost s h).map.current
  let off := page - aperPage (winNow s h)
  s.win.cache.contains t
    || (s.win.cache.contains { t with gen := now } && mapLookup (mapAt s h g) off == mapLookup (mapNow s h) off)

/-- A fill: the tag is the current generation's where both map the page alike. A full cache replaces an entry of
its own choice: a free value (05 R158; log entry 18). -/
def cacheFill (h g page : Nat) (s : State) : State :=
  if cacheHit s h g page then s
  else
    let t := cacheTag s h g page
    let off := page - aperPage (winNow s h)
    let t' := if mapLookup (mapAt s h g) off == mapLookup (mapNow s h) off
              then { t with gen := (getHost s h).map.current } else t
    if s.win.cache.length < Config.mapCache then { s with win := { s.win with cache := s.win.cache ++ [t'] } }
    else
      let f := takeFree s
      let k := f.1.toNat % s.win.cache.length
      { f.2 with win := { f.2.win with cache := s.win.cache.take k ++ s.win.cache.drop (k + 1) ++ [t'] } }

/-- After a commit or a swap, entries that changed are dropped and the others serve the new generation (05 R158).
`was` is the generation before. -/
def cacheCommit (h was : Nat) (before : Tbl Region) (s : State) : State :=
  let now := (getHost s h).map.current
  let first := aperPage (winNow s h)
  let after := mapNow s h
  let same := fun (t : CacheTag) =>
    if t.huge then tget Region.invalid before ((t.page - first) / 512) == tget Region.invalid after ((t.page - first) / 512)
    else mapLookup before (t.page - first) == mapLookup after (t.page - first)
  let kept := s.win.cache.filter (fun t => !(t.host == h) || t.gen != was || same t)
  let moved := kept.map (fun t => if t.host == h && t.gen == was then { t with gen := now } else t)
  { s with win := { s.win with cache := moved } }

/-! ## Committing window tables and maps (05 R143, R147, R152) -/

/-- The staged table with the flags of the committed entries. -/
def winCommitted (s : State) (h : Nat) (t : WinTable) : WinTable :=
  let now := winNow s h
  let f := fun (i : Nat) =>
    let e := winEntry t i
    let o := winEntry now i
    { e with locked := o.locked, shared := o.shared, mapLocked := o.mapLocked }
  let keys := tkeys t.entries ++ tkeys now.entries
  { t with entries := keys.foldl (fun acc i => tput WinEntry.reset acc i (f i)) t.entries }

/-- The staged copy changes a locked entry (05 R143). -/
def winBreaksLock (s : State) (h : Nat) (t : WinTable) : Bool :=
  (winNow s h).entries.any (fun e => e.2.locked && entryBody e.2 != entryBody (winEntry t e.1))

/-- Two valid windows overlap. -/
def winOverlaps : List (Nat × WinEntry) → Bool
  | [] => false
  | e :: rest =>
    (e.2.valid && rest.any (fun x => x.2.valid && decide (e.2.base ≤ x.2.limit) && decide (x.2.base ≤ e.2.limit)))
      || winOverlaps rest

/-- A valid window is not wholly inside the staged aperture. -/
def winOutside (t : WinTable) : Bool :=
  t.entries.any (fun e => e.2.valid && !(inAperture t e.2.base && inAperture t e.2.limit))

/-- The failing code of a window commit, 0 where it may go on (05 R143, R153). -/
def winCommitCode (s : State) (h : Nat) : Nat :=
  match (getHost s h).winStage with
  | none => PRECONDITION
  | some t =>
    if winBreaksLock s h t then LOCKED
    else if winOverlaps t.entries || winOutside t then PRECONDITION
    else if genFull (getHost s h).win then NO_RESOURCE
    else 0

/-- Publish the staged window table (05 R152). -/
def winCommit (seq h : Nat) (s : State) : State :=
  let x := getHost s h
  match x.winStage with
  | none => s
  | some t => setHost h { x with win := genCommit (winCommitted s h t) (some seq) x.win, winStage := none } s

/-- A staged entry may not be committed now (05 R147, 12 R340). -/
def mapEntBad (s : State) (h : Nat) (vf : Option Nat) (x : Staged) : Bool :=
  x.swapped || migratingAt s h x.page (entPages x.ent) || !(tenantMaps s h vf x.page x.ent)

/-- The failing code of a map commit, 0 where it may go on (05 R147, R153). -/
def mapCommitCode (s : State) (h : Nat) (vf : Option Nat) : Nat :=
  let x := stageSet s h vf
  if x.ents.isEmpty then PRECONDITION
  else if x.ents.any (mapEntBad s h vf) then PRECONDITION
  else if genFull (getHost s h).map then NO_RESOURCE
  else 0

/-- Apply staged entries to a map; an entry whose page the aperture no longer holds has no region (05 R145;
log entry 27). -/
def mapApply (t : WinTable) : List Staged → Tbl Region → Tbl Region
  | [], m => m
  | x :: xs, m => mapApply t xs (if inAperture t x.page then mapPut (x.page - aperPage t) x.ent m else m)

/-- Publish a new map: one generation increment (05 R152). -/
def mapPublish (publishing : Option Nat) (h : Nat) (m : Tbl Region) (s : State) : State :=
  let x := getHost s h
  let before := mapNow s h
  let was := x.map.current
  cacheCommit h was before (setHost h { x with map := genCommit m publishing x.map } s)

/-- Publish the issuer's staged entries (05 R147, 12 R340). -/
def mapCommit (seq h : Nat) (vf : Option Nat) (s : State) : State :=
  let x := stageSet s h vf
  mapPublish (some seq) h (mapApply (winNow s h) x.ents (mapNow s h)) (putStage h vf ⟨[], 0⟩ s)

/-- A migration swap or split changes a page: staged entries that overlap it can no longer be committed
(05 R147). -/
def markSwapped (h page n : Nat) (s : State) : State :=
  let x := getHost s h
  let f := fun (l : StageSet) => { l with ents := l.ents.map (fun y =>
    if y.page < page + n && page < y.page + entPages y.ent then { y with swapped := true } else y) }
  setHost h { x with stageMgr := x.stageMgr.map f, stageVf := tmapAll ⟨[], 0⟩ f (tkeys x.stageVf) x.stageVf } s

/-! ## Denials (05 R151, R160; 13 R355) -/

/-- The host's denial event line (13 R351). -/
def denialLine (h : Nat) : Nat := h

/-- A request of host `h` has a denied part (05 R151). -/
def recordDenial (h addr level typ : Nat) (isPart : Bool) (source epoch : Nat) (s : State) : State :=
  let x := getHost s h
  let s1 := setHost h { x with denyCount := sat64 x.denyCount } s
  if x.denyValid then s1
  else eventEdge (denialLine h)
    (setHost h { x with denyCount := sat64 x.denyCount, denyAddr := addr, denyValid := true, denyLevel := level,
                        denyType := typ, denyPartial := isPart, denySource := source, denyEpoch := epoch } s)

/-- A request of host `h` has a part that is granted but unmapped (05 R151). -/
def recordNomap (h : Nat) (s : State) : State :=
  setHost h { getHost s h with nomapCount := sat64 (getHost s h).nomapCount } s

/-- WIN_DENY_INFO: writing 0 to VALID re-arms the record (05 R160, 00 R10 RW0C). -/
def denyInfoWrite (h : Nat) (v : Word) (s : State) : State :=
  if bit v 0 then s else setHost h { getHost s h with denyValid := false } s

def execWinDenyInfoWrite (h : Nat) (v : Word) (s : State) : Out :=
  inUnit "host" h 64 (.next (if imageDead s then discard .pf 0 (0x600000 + 0x1030 + h * 0x40) v s else denyInfoWrite h v s))

end Sys2Proof.Machine
end

