-- ==== Sys2Proof/Machine/Capture.lean ====
section
/-! DEFINITION. Mirror capture (04 R129-R136). -/

namespace Sys2Proof.Machine

def getFilter (s : State) (f : Nat) : CapFilter := tget CapFilter.reset s.cap.filters f
def setFilter (f : Nat) (x : CapFilter) (s : State) : State :=
  { s with cap := { s.cap with filters := tput CapFilter.reset s.cap.filters f x } }

/-- INGRESS or EGRESS of a filter: 0-128, or 0xFF for any (04 R129). -/
def capPort (n : Nat) : Nat := if n = 0xFF then 0xFF else min n 128

/-- CAP_CONFIG on a filter (04 R129, R130). CAP_MATCH is zeroed when the filter is enabled (04 R136). -/
def capFilterBody (c : SeqCmd) (s : State) : CmdOut :=
  let d := c.desc
  let f := objIndex d.objectId % 8
  let old := getFilter s f
  let inW := fld d.arg0 8 1
  let egW := fld d.arg0 16 9
  let x : CapFilter :=
    { enable := bit d.arg0 0, ingress := capPort inW, egress := capPort egW, queue := fld d.arg0 20 17,
      queueAny := bit d.arg0 21, dir := used d.arg0 23 22 0 2, sampleN := used d.arg0 39 24 1 65535,
      addrLo := addr64 d.arg1, addrHi := addr64 d.arg2,
      count := if bit d.arg0 0 && !old.enable then 0 else old.count }
  .done 0 ((if capPort inW = inW then [] else [(⟨32, false, 0, 8, 1, inW, capPort inW⟩ : FieldClamp)])
      ++ (if capPort egW = egW then [] else [(⟨32, false, 0, 16, 9, egW, capPort egW⟩ : FieldClamp)])
      ++ argClamps d [(0, 23, 22, 0, 2), (0, 39, 24, 1, 65535)]) (setFilter f x s)

def capIsFilter (d : Desc) : Bool := objIndex d.objectId / 2 ^ 48 == 1
def capIsRing (d : Desc) : Bool := objIndex d.objectId / 2 ^ 48 == 2

/-- Every KIND but the ring's: one that names no object gives BAD_OBJECT here (02 R61, R71). -/
def capFilterSel (d : Desc) : Bool := !(capIsRing d)

def execCapConfigFilter (seq : Nat) (s : State) : Out := .next (runOp 0x1003 capFilterSel true capFilterBody seq s)

/-- CAP_CONFIG on the ring (04 R131). A class that stops requesting by it banks no credit (08 R233). -/
def capRingBody (c : SeqCmd) (s : State) : CmdOut :=
  let d := c.desc
  let k := s.cap
  let size := used d.arg1 4 0 10 20
  let start := bit d.arg1 5 && !k.enable
  if k.enable && (addr64 d.arg0 != k.base || size != k.sizeLog2) then .fail PRECONDITION s
  else .done 0 (argClamps d [(1, 4, 0, 10, 20), (2, 7, 0, 0, 63)])
    (settleCredits { s with cap := { k with
        enable := bit d.arg1 5, vector := fld d.arg1 18 6, vectorEn := bit d.arg1 19,
        creditClass := used d.arg2 7 0 0 63
        base := if start then addr64 d.arg0 else k.base
        sizeLog2 := if start then size else k.sizeLog2
        head := if start then 0 else k.head
        tail := if start then 0 else k.tail } })

def execCapConfigRing (seq : Nat) (s : State) : Out := .next (runOp 0x1003 capIsRing true capRingBody seq s)

/-- CAP_TAIL (04 R134). -/
def capTailWrite (v : Word) (s : State) : State :=
  let c := fld v 31 0
  if tailLegal s.cap.head s.cap.tail c then { s with cap := { s.cap with tail := c } }
  else clampAccess .pf 0 0x500010 31 0 (w64 c) (w64 s.cap.tail) s

def execCapTailWrite (v : Word) (s : State) : Out :=
  .next (if imageDead s then discard .pf 0 0x500010 v s else capTailWrite v s)

/-! ## Matching (04 R129, R130) -/

/-- A response (04 R115). -/
def isRspBody : Body → Bool
  | .rsp _ _ _ => true
  | .grant _ _ _ _ => true
  | .biRsp _ _ _ => true
  | _ => false

/-- A transaction that goes on as the message it came as carries that message's body. -/
def txnBody (t : Txn) : Body := (t.relay.map (·.body)).getD t.body

/-- The filter matches (04 R129). -/
def capMatches (f : CapFilter) (t : Txn) : Bool :=
  f.enable && (f.ingress == 0xFF || f.ingress == t.ingress) && (f.egress == 0xFF || f.egress == t.egress)
    && (f.queueAny || f.queue == t.queue) && (f.dir == 0 || (f.dir == 2) == isRspBody (txnBody t))
    && (f.addrHi == 0 || (match t.note.haddr with
        | some a => decide (f.addrLo ≤ a) && decide (a < f.addrHi)
        | none => false))

/-- Count the matches; the lowest filter that selects the transaction, if any (04 R130). Which match of every N is captured is
not stated: the first, that is matches 1, N + 1 and so on (log entry 151). -/
def capSelect (t : Txn) : List Nat → State → Option Nat × State
  | [], s => (none, s)
  | k :: ks, s =>
    let f := getFilter s k
    let r := capSelect t ks (if capMatches f t then setFilter k { f with count := sat64 f.count } s else s)
    if capMatches f t && f.count % f.sampleN == 0 then (some k, r.2) else r

/-- A record that is not made or is discarded (04 R133). -/
def capLose (s : State) : State := { s with cap := { s.cap with lost := sat64 s.cap.lost, lostBefore := true } }

/-- A body carries poisoned data. -/
def bodyPoison : Body → Bool
  | .req r _ => r.poison
  | .rsp _ k _ => k == .poison
  | .home _ r _ => r.poison
  | .grant _ _ d _ => (d.map (·.1)).getD false
  | .homeWrite _ _ _ p _ => p
  | .record _ _ p => p
  | _ => false

/-- The first 32 bytes of a header, zero-padded (04 R132). -/
def header32 (l : List Word) : List Word := (List.range 4).map (nth l)

/-- The header of a transaction as it was decoded; one that the switch makes was decoded nowhere, and its words are free
values (04 R132; log entry 28). -/
def capHeader (t : Txn) (s : State) : List Word × State :=
  if t.note.hdr.isEmpty then
    let f0 := takeFree s
    let f1 := takeFree f0.2
    let f2 := takeFree f1.2
    let f3 := takeFree f2.2
    ([f0.1, f1.1, f2.1, f3.1], f3.2)
  else (header32 t.note.hdr, s)

/-- Mirror a transaction as it is enqueued (04 R130, R132, R133). A class that starts requesting by its first record has its
preemption check (08 R235). -/
def mirror (t : Txn) (s : State) : State :=
  match capSelect t (List.range 8) s with
  | (none, s1) => s1
  | (some k, s1) =>
    if Config.captureBuffer ≤ s1.cap.buffer.length then capLose s1
    else
      let h := capHeader t s1
      let r : CapRec := ⟨h.1, s1.time.now, t.ingress, t.egress, t.queue, k, decide (2 ≤ t.cells), bodyPoison (txnBody t),
        t.note.sharedWin, t.note.mapMiss, t.gen⟩
      let c := h.2.cap.creditClass
      preemptGroups (if h.2.cap.enable && h.2.cap.buffer.isEmpty then newGroups h.2 c else [])
        { h.2 with cap := { h.2.cap with buffer := h.2.cap.buffer ++ [r] } }

/-! ## Writing the records (04 R132, R133) -/

/-- The words of record `k` of a ring of 2^z records (04 R132). -/
def capWords (r : CapRec) (k z : Nat) (lostBefore : Bool) : List Word :=
  r.header ++ [w64 r.time,
    pack [(r.ingress, 0), (r.egress, 8), (r.queue, 16), (r.filter, 20), (b2n (phase k z), 23), (b2n r.pair, 24),
      (b2n r.poison, 25), (b2n r.sharedWin, 26), (b2n r.mapMiss, 27), (b2n lostBefore, 28), (r.gen % 65536, 32),
      (k % 65536, 48)]]

/-- The capture ring is full, or its records are held (04 R133, 02 R468). -/
def capFull (s : State) : Bool :=
  decide (2 ^ s.cap.sizeLog2 ≤ (s.cap.head + 2 ^ 32 - s.cap.tail) % 2 ^ 32) || streamHeld s .capture

end Sys2Proof.Machine
end

