-- ==== Sys2Proof/Machine/Egress.lean ====
section
/-! DEFINITION. Egress scheduling: weighted fair queueing, shapers, time gates, policers and histograms
(09 R251-R272). -/

namespace Sys2Proof.Machine

/-! ## Shapers (09 R256) -/

/-- Nanoseconds of local time from `t` to `now`. -/
def sinceNs (now t : Nat) : Nat := (now + 2 ^ 64 - t) % 2 ^ 64

/-- A bucket filled up to local time `now` (09 R256). -/
def shaperFill (now : Nat) (x : Shaper) : Shaper :=
  if x.enable then
    { x with last := now
             tokens := min (x.tokens + Int.ofNat (sinceNs now x.last * x.rate)) (Int.ofNat (x.burst * 1000)) }
  else { x with last := now }

/-- Charge `bytes` cell bytes to a bucket (09 R256). -/
def shaperCharge (now bytes : Nat) (x : Shaper) : Shaper :=
  if x.enable then { shaperFill now x with tokens := (shaperFill now x).tokens - Int.ofNat (bytes * 1000) }
  else shaperFill now x

/-- The shaper holds nothing back now. -/
def shaperOpen (now : Nat) (x : Shaper) : Bool := !x.enable || decide (0 ≤ (shaperFill now x).tokens)

/-- New settings: a shaper that is enabled starts full; else the level is kept, reduced to the new capacity
(09 R256, R257). -/
def shaperSet (now : Nat) (en : Bool) (rate burst : Nat) (x : Shaper) : Shaper :=
  let f := shaperFill now x
  { enable := en, rate := rate, burst := burst, last := now,
    tokens := if en && !x.enable then Int.ofNat (burst * 1000) else min f.tokens (Int.ofNat (burst * 1000)) }

/-! ## Guard band (09 R260) -/

/-- Tenths of a GT/s of a lane rate code (03 R102, R103). -/
def rateTenths (code : Nat) : Nat :=
  match code with
  | 1 => 25
  | 2 => 50
  | 3 => 80
  | 4 => 160
  | 5 => 320
  | 6 => 640
  | 8 => 560
  | 9 => 1280
  | _ => 0

/-- G of an egress in ns: 6,144 bits over the current width and rate, rounded up; 0 while it is down
(09 R260). -/
def guardNs (s : State) (e : Nat) : Nat :=
  let w := if e < 112 then (getPort s e).width else if e < 120 then (getLink s (e - 112)).width else 0
  let r := if e < 112 then rateTenths (getPort s e).rate else if e < 120 then rateTenths (getLink s (e - 112)).rate else 0
  if w * r = 0 then 0 else ceilDiv 61440 (w * r)

/-! ## Gate control lists (09 R258-R262) -/

/-- The segments of one cycle: (gates, duration), from entry `i` with `left` ns of the cycle to go (09 R259). -/
def gclSegs (g : Gcl) : Nat → Nat → Nat → List (BitVec 16 × Nat)
  | 0, _, _ => []
  | fuel + 1, i, left =>
    if left = 0 || g.length ≤ i then []
    else
      let e := tget (0#16, 1) g.entries i
      let d := if i + 1 = g.length then left else min e.2 left
      (e.1, d) :: gclSegs g fuel (i + 1) (left - d)

/-- The segments of a whole cycle. -/
def gclCycle (g : Gcl) : List (BitVec 16 × Nat) := gclSegs g 256 0 g.cycleNs

/-- The rest of a cycle from offset `pos`. -/
def gclFrom : Nat → List (BitVec 16 × Nat) → List (BitVec 16 × Nat)
  | _, [] => []
  | pos, (b, d) :: rest => if pos < d then (b, d - pos) :: rest else gclFrom (pos - d) rest

/-- Nanoseconds until the first closed segment for queue `q`, none if all are open. -/
def closeWalk (q : Nat) : List (BitVec 16 × Nat) → Nat → Option Nat
  | [], _ => none
  | (b, d) :: rest, acc => if b.getLsbD q then closeWalk q rest (acc + d) else some acc

/-- Offset of time `now` in a cycle of the list (09 R259). -/
def gclPos (g : Gcl) (now : Int) : Nat :=
  if g.cycleNs = 0 then 0 else ((now - Int.ofNat g.baseTime) % Int.ofNat g.cycleNs).toNat

/-- The time that the cycle in progress runs by: Thyme time, without the steps that it has taken since (09 R262). -/
def cycleTime (s : State) (e : Nat) : Int := Int.ofNat s.time.now - (getEgress s e).gclShift

/-- Nanoseconds until list `g`, at offset `pos` of its cycle, next closes queue `q`. -/
def listCloses (g : Gcl) (pos q : Nat) : Option Nat :=
  if g.enable then closeWalk q (gclFrom pos (gclCycle g) ++ gclCycle g) 0 else none

/-- The earlier of two instants, either of which may be absent. -/
def earlier (a b : Option Nat) : Option Nat :=
  match a, b with
  | none, x => x
  | x, none => x
  | some x, some y => some (min x y)

/-- Nanoseconds until queue `q` of egress `e` next closes: in the running list, at a switchover, or before a
realignment (09 R260-R262). -/
def nextClose (s : State) (e q : Nat) : Option Nat :=
  let x := getEgress s e
  let here := listCloses x.gcl (gclPos x.gcl (cycleTime s e)) q
  let withNew :=
    match x.gclPending with
    | none => here
    | some (g, t) =>
      let d := t - s.time.now
      match here with
      | some b => if b < d then some b else (listCloses g 0 q).map (· + d)
      | none => (listCloses g 0 q).map (· + d)
  match x.realignAt with
  | none => withNew
  | some t => earlier withNew (some (t - guardNs s e - s.time.now))

/-- Every gate of the egress is closed by a realignment now (09 R262). -/
def realigning (s : State) (e : Nat) : Bool :=
  match (getEgress s e).realignAt with
  | some t => decide (t ≤ s.time.now + guardNs s e)
  | none => false

/-- The gates of an egress that are open now (09 R259, R262). -/
def gatesNow (s : State) (e : Nat) : BitVec 16 :=
  if realigning s e then 0 else if (getEgress s e).gcl.enable then (getEgress s e).gates else 0xFFFF

/-- A transfer may start and end before the gate next closes (09 R260). -/
def guardMet (s : State) (e q : Nat) : Bool :=
  match nextClose s e q with
  | none => true
  | some d => decide (guardNs s e ≤ d)

/-! ## Selection (09 R253, R254) -/

/-- A request of a kind that PCIe carries. -/
def isPcie (k : ReqKind) : Bool := k == .pcieRd || k == .pcieWr || k == .atomic

/-- The transaction asks for an answer, unless it is posted. -/
def bodyAsks : Body → Bool
  | .req _ _ => true
  | .home _ _ _ => true
  | .homeRead _ => true
  | .homeWrite _ _ _ _ _ => true
  | _ => false

/-- A non-posted request (04 R113). -/
def isNp (t : Txn) : Bool :=
  match t.relay with
  | some m => bodyAsks m.body && !m.posted
  | none => bodyAsks t.body && !t.posted

/-- A request of this kind carries data (10 R284). -/
def kindData : ReqKind → Bool
  | .memWr _ => true
  | .pcieWr => true
  | .atomic => true
  | _ => false

/-- The access to a home carries data. -/
def homeData : HomeKind → Bool
  | .ncWrite => true
  | .writeback _ => true
  | _ => false

/-- The bytes of data that a transaction carries over a link. -/
def bodyBytes : Body → Nat
  | .req r _ => if kindData r.kind then r.len else 0
  | .home _ r k => if homeData k then max 1 r.len else 0
  | .rsp _ k d => if k == .data || k == .poison then max 1 (8 * d.length) else 0
  | .grant _ _ d _ => if d.isSome then 64 else 0
  | .homeWrite _ _ n _ _ => max 1 n
  | .record _ ws _ => 8 * ws.length
  | _ => 0

/-- MKIND (11 R313). -/
def bodyMkind : Body → Nat
  | .req r _ => if isPcie r.kind || r.kind == .cacheReq then 1 else 2
  | .home p _ _ => if p then 1 else 2
  | .rsp p _ _ => if p then 1 else 3
  | .grant _ _ _ _ => 3
  | .snoop _ _ _ => 4
  | .biRsp _ _ _ => 4
  | .biConflict _ => 4
  | .biConflictAck _ => 4
  | .notice _ => 5
  | .homeRead _ => 2
  | .homeWrite _ _ _ _ _ => 2
  | .signal _ x => if x.signal < 8 then 6 else if x.signal < 16 then 7 else 8
  | .unlock => 1
  | .gap => 9
  | .record _ _ _ => 1

/-- The virtual channel of a message by what it carries (10 R284): 0 REQ, 1 RSP, 2 SNP, 3 DATA. -/
def bodyVc (b : Body) : Nat :=
  if 0 < bodyBytes b then 3
  else if bodyAsks b then 0
  else match b with
    | .snoop _ _ _ => 2
    | .biConflict _ => 2
    | .unlock => 0
    | _ => 1

/-- The virtual channel of a transaction on a link. -/
def txnVc (t : Txn) : Nat :=
  match t.relay with
  | some m => m.vc
  | none => bodyVc t.body

def getCredit (x : Link) (v : Nat) : Credit :=
  match v with
  | 0 => x.vc0
  | 1 => x.vc1
  | 2 => x.vc2
  | _ => x.vc3

def setCredit (v : Nat) (c : Credit) (x : Link) : Link :=
  match v with
  | 0 => { x with vc0 := c }
  | 1 => { x with vc1 := c }
  | 2 => { x with vc2 := c }
  | _ => { x with vc3 := c }

/-- R285's avail. -/
def avail (c : Credit) : Nat := (c.granted + 2 ^ 24 - c.consumed) % 2 ^ 24

/-- A non-posted request with data on the DATA channel (11 R320). -/
def isNpw (t : Txn) : Bool := isNp t && txnVc t == 3

/-- The DATA cells of non-posted requests sent on link `l` and not completed (11 R320). -/
def npwCells (s : State) (l : Nat) : Nat := s.stw.npwOut.foldl (fun a e => if e.2.1 = l then a + e.2.2 else a) 0

/-- The matching completion has returned through the Stairwell (11 R320). -/
def npwDone (tag sw : Nat) (s : State) : State :=
  { s with stw := { s.stw with npwOut := s.stw.npwOut.filter (fun e => e.1 != tag * 32 + sw) } }

/-- NPW_MAX holds the request back (11 R320). -/
def npwHeld (s : State) (l : Nat) (t : Txn) : Bool :=
  isNpw t && decide ((getStw s l).npwMax < npwCells s l + t.cells)

/-- Header units of a message (11 R313). -/
def hdrUnits (mkind : Nat) : Nat := if mkind = 5 || mkind = 9 then 1 else 2

/-- Flits of one message: 7 units each, its header units and 4 for each 64 bytes of data (10 R278). -/
def bodyFlits (b : Body) : Nat := ceilDiv (hdrUnits (bodyMkind b) + 4 * ceilDiv (bodyBytes b) 64) 7

/-- An earlier posted write of the same source to a domain line has not been acknowledged, and this PCIe
transaction may not pass it (06 R184). -/
def orderHeld (s : State) (t : Txn) : Bool :=
  match t.body with
  | .req r _ =>
    (r.kind == .pcieWr || r.kind == .pcieRd || r.kind == .atomic)
      && s.gh.waits.any (fun w => w.kind == .pcieWr && w.domain && w.ingress == t.ingress
            && (w.remote.map (fun x => (x.1, x.2.1))).getD (s.glb.switchId, w.ingress) == (t.srcSwitch, t.srcIngress)
            && decide (w.id < t.id))
  | _ => false

/-- The transaction may not leave its egress now: a locked port refuses other sources' non-posted requests
(11 R324); a port passing through Recovery sends nothing (03 R84); a link needs to be ACTIVE, with credit, room
in its replay buffer and, for a non-posted write, NPW_MAX (10 R280, R285; 11 R320), and sends nothing new once a warm reset waits
for its replay buffer (10 R311). -/
def txnBlocked (s : State) (e : Nat) (t : Txn) : Bool :=
  if orderHeld s t then true
  else if e < 112 then
    let p := getPort s e
    p.recovering || (match p.lock with
      | some o => isNp t && o != (t.srcSwitch, t.srcIngress)
      | none => false)
  else if e < 120 then
    let x := getLink s (e - 112)
    linksClose s || x.state != .active || x.draining || x.txAsleep || decide (avail (getCredit x (txnVc t)) < t.cells)
      || decide (Config.maxUnacked < x.unacked.length + bodyFlits t.body) || npwHeld s (e - 112) t
  else false

/-- A response (04 R115). -/
def isRsp (t : Txn) : Bool :=
  match t.body with
  | .rsp _ _ _ => true
  | .grant _ _ _ _ => true
  | _ => false

/-- The transaction that the ordering rules place at the head: a blocked non-posted request is passed, and a
blocked response is passed by posted writes only (04 R115; 11 R321, R324). -/
def headIn (s : State) (e : Nat) : Bool → List Txn → Option Txn
  | _, [] => none
  | cpl, t :: ts =>
    if !(txnBlocked s e t) && (!cpl || t.posted) then some t
    else if isNp t then headIn s e cpl ts
    else if isRsp t then headIn s e true ts
    else none

/-- The head of queue `q` of egress `e` as it may be sent now. -/
def headOf (s : State) (e q : Nat) : Option Txn := headIn s e false (getQueue s (qkey e q))

/-- The queue holds a transaction, its gate is open and no shaper holds it: selectable but for the guard band. -/
def offered (s : State) (e q : Nat) : Bool :=
  (headOf s e q).isSome && (gatesNow s e).getLsbD q
    && shaperOpen s.time.localNs (getSchedQ s (qkey e q)).shaper && shaperOpen s.time.localNs (getEgress s e).shaper

/-- R253's selectable. -/
def selectable (s : State) (e q : Nat) : Bool := offered s e q && guardMet s e q

/-- Signed comparison of tags (09 R254). -/
def before (a b : Word) : Bool := (a - b).msb

/-- Cost of the head of queue `k` (09 R254). -/
def headCost (s : State) (k : Nat) : Word :=
  match headOf s (k / 16) (k % 16) with
  | none => 0
  | some t => w64 (t.cells * 64 * 65536 / (getSchedQ s k).weight)

/-- R254's activate. -/
def activate (e q : Nat) (s : State) : State :=
  let k := qkey e q
  let x := getSchedQ s k
  let v := (getEgress s e).vtime
  let st := if before x.start v then v else x.start
  setSchedQ k { x with start := st, finish := st + headCost s k, active := true } s

/-- Bring the tags of the queues listed up to date: activate those that became selectable, and note those that no
longer are (09 R254). -/
def refreshQs (e : Nat) : List Nat → State → State
  | [], s => s
  | q :: qs, s =>
    let x := getSchedQ s (qkey e q)
    refreshQs e qs <|
      if selectable s e q then (if x.active then s else activate e q s)
      else if x.active then setSchedQ (qkey e q) { x with active := false } s else s

/-- Bring an egress's tags up to date. -/
def refresh (e : Nat) (s : State) : State := refreshQs e (List.range 16) s

/-- The selectable queue with the smallest head finish tag, the lowest number on a tie (09 R253, R254). -/
def best (s : State) (e : Nat) : Option Nat :=
  (List.range 16).foldl (fun b q =>
    if selectable s e q then
      match b with
      | none => some q
      | some p => if before (getSchedQ s (qkey e q)).finish (getSchedQ s (qkey e p)).finish then some q else some p
    else b) none

/-- Count the selections that the guard band refuses (09 R272). -/
def guardCount (e : Nat) : List Nat → State → State
  | [], s => s
  | q :: qs, s =>
    guardCount e qs <|
      if offered s e q && !(guardMet s e q) then
        setSchedQ (qkey e q) { getSchedQ s (qkey e q) with guardHits := sat64 (getSchedQ s (qkey e q)).guardHits } s
      else s

/-- The bin of a value with bin unit 2^u (09 R268). -/
def binOf (x u : Nat) : Nat := if x < 2 ^ u then 0 else min 15 (1 + (x / 2 ^ u).log2)

/-- The tags, counters and buckets after queue `q` has sent transaction `t` (09 R254, R256, R267; 07 R197). The
transaction has left its queue. -/
def afterSend (e q : Nat) (t : Txn) (s : State) : State :=
  let k := qkey e q
  let now := s.time.localNs
  let bytes := 64 * t.cells
  let x := getSchedQ s k
  let eg := getEgress s e
  let bin := binOf (sinceNs now t.linkedAt) eg.delayLog2
  let x1 := { x with
    start := x.finish, bytes := satAdd 64 x.bytes bytes, shaper := shaperCharge now bytes x.shaper
    delayBins := if x.sampleDue then tput 0 x.delayBins bin (satAdd 32 (tget 0 x.delayBins bin) 1) else x.delayBins
    sampleDue := false }
  let run := tget Summary.reset s.tel.running e
  let s1 := setSchedQ k x1 (setEgress e { eg with vtime := x.finish, shaper := shaperCharge now bytes eg.shaper }
    { s with tel := { s.tel with running := tput Summary.reset s.tel.running e { run with bytes := run.bytes + bytes } } })
  let s2 := if selectable s1 e q then setSchedQ k { x1 with finish := x1.start + headCost s1 k, active := true } s1
            else setSchedQ k { x1 with active := false } s1
  refresh e s2

/-! ## QUEUE_SET and SHAPER_SET (09 R255, R257) -/

/-- The scheduler object of a KIND 0 or 2 command: egress and queue, 16 for the egress itself. -/
def schedEgress (c : SeqCmd) : Nat := objIndex c.desc.objectId % 65536 / 256
def schedQueue (c : SeqCmd) : Nat := objIndex c.desc.objectId % 256

/-- Set a queue's weight; a finish tag computed earlier keeps its value (09 R255). -/
def setWeight (k w : Nat) (s : State) : State :=
  let s1 := refresh (k / 16) s
  setSchedQ k { getSchedQ s1 k with weight := w } s1

/-- QUEUE_SET (09 R255). A queue's base weight is what it sets (07 R214). -/
def queueBody (c : SeqCmd) (s : State) : CmdOut :=
  let e := schedEgress c
  let q := schedQueue c
  let d := c.desc
  if q = 16 then
    .done 0 (argClamps d [(0, 15, 0, 1, 65535), (0, 20, 16, 0, 16), (0, 28, 24, 0, 20)])
      (setEgress e { getEgress s e with sampleUs := used d.arg0 15 0 1 65535, depthLog2 := used d.arg0 20 16 0 16,
                                        delayLog2 := used d.arg0 28 24 0 20 } s)
  else
    let w := used d.arg0 11 0 1 4095
    let s1 := setWeight (qkey e q) w s
    .done 0 (argClamps d [(0, 11, 0, 1, 4095)])
      { s1 with sage := { s1.sage with baseWeight := tput 64 s1.sage.baseWeight (qkey e q) w } }

def execQueueSet (seq : Nat) (s : State) : Out := .next (runOp 0x6001 anyDesc true queueBody seq s)

/-- SHAPER_SET (09 R257). -/
def shaperBody (c : SeqCmd) (s : State) : CmdOut :=
  let e := schedEgress c
  let q := schedQueue c
  let d := c.desc
  let f := shaperSet s.time.localNs (bit d.arg0 0) (used d.arg0 25 8 1 128000) (used d.arg1 24 0 128 16777216)
  .done 0 (argClamps d [(0, 25, 8, 1, 128000), (1, 24, 0, 128, 16777216)])
    (refresh e (if q = 16 then setEgress e { getEgress s e with shaper := f (getEgress s e).shaper } s
      else setSchedQ (qkey e q) { getSchedQ s (qkey e q) with shaper := f (getSchedQ s (qkey e q)).shaper } s))

def execShaperSet (seq : Nat) (s : State) : Out := .next (runOp 0x6003 anyDesc true shaperBody seq s)

/-! ## Policers (09 R263-R266) -/

inductive Colour where
  | green | yellow | red
deriving DecidableEq, Repr

/-- The buckets of a policer filled up to local time `now` (09 R264). -/
def policerFill (now : Nat) (p : PolicerReg) : PolicerReg :=
  let dt := sinceNs now p.last
  { p with last := now, tc := min (p.tc + dt * p.cir) (p.cbs * 1000), tp := min (p.tp + dt * p.pir) (p.pbs * 1000) }

/-- Meter a request of `b` bytes (09 R264). -/
def policerMeter (now b : Nat) (p : PolicerReg) : Colour × PolicerReg :=
  let f := policerFill now p
  if f.tp < b * 1000 then (.red, f)
  else if f.tc < b * 1000 then (.yellow, { f with tp := f.tp - b * 1000 })
  else (.green, { f with tp := f.tp - b * 1000, tc := f.tc - b * 1000 })

/-- Count the colour of a metered request (09 R272). -/
def policerCount (col : Colour) (p : PolicerReg) : PolicerReg :=
  match col with
  | .green => { p with green := sat64 p.green }
  | .yellow => { p with yellow := sat64 p.yellow }
  | .red => { p with red := sat64 p.red }

/-- Policer `p` belongs to VF `v` (12 R334, R342). -/
def vfPolicer (s : State) (v p : Nat) : Bool :=
  let x := getVf s v
  vfExists x && decide (x.polBase ≤ p) && decide (p < x.polBase + x.polCount)

/-- Some VF reserves the policer. -/
def policerOwned (s : State) (p : Nat) : Bool :=
  s.vf.vfs.any (fun e => vfExists e.2 && decide (e.2.polBase ≤ p) && decide (p < e.2.polBase + e.2.polCount))

/-- The policer that meters a request: the lowest-numbered enabled one that matches (09 R263, R252; 12 R342). -/
def policerFor (s : State) (ingress tc : Nat) (vf : Option Nat) : Option Nat :=
  (s.sched.policers.find? (fun e => e.2.enable && e.2.tcMask.getLsbD tc &&
    ((e.2.ingress == ingress && egressExists s ingress && !(policerOwned s e.1))
      || (match vf with
          | some v => vfPolicer s v e.1
          | none => false)))).map (·.1)

/-- Set the rates of a policer; below CIR, PIR is CIR (09 R266). -/
def policerRates (cir pir : Nat) (p : PolicerReg) : PolicerReg := { p with cir := cir, pir := max cir pir }

/-- POLICER_SET (09 R266). The base rates are what it sets (07 R214). -/
def policerBody (c : SeqCmd) (s : State) : CmdOut :=
  let d := c.desc
  let n := objIndex d.objectId % 4096
  let cir := used d.arg1 16 0 1 128000
  let pir := used d.arg1 48 32 cir 128000
  let cbs := used d.arg2 24 0 128 16777216
  let pbs := used d.arg2 56 32 128 16777216
  let en := bit d.arg0 0
  let old := policerFill s.time.localNs (getPolicer s n)
  let start := en && !old.enable
  let p : PolicerReg := { old with
    enable := en, ingress := used d.arg0 8 1 0 128, tcMask := BitVec.ofNat 16 (fld d.arg0 31 16)
    cir := cir, pir := pir, cbs := cbs, pbs := pbs
    tc := if start then cbs * 1000 else min old.tc (cbs * 1000)
    tp := if start then pbs * 1000 else min old.tp (pbs * 1000) }
  .done 0 (argClamps d [(0, 8, 1, 0, 128), (1, 16, 0, 1, 128000), (1, 48, 32, cir, 128000), (2, 24, 0, 128, 16777216),
      (2, 56, 32, 128, 16777216)])
    (setPolicer n p { s with sage := { s.sage with baseRates := tput (128000, 128000) s.sage.baseRates n (cir, pir) } })

def execPolicerSet (seq : Nat) (s : State) : Out := .next (runOp 0x6002 anyDesc true policerBody seq s)

/-! ## GCL_WRITE and the lists' progress (09 R258-R262) -/

/-- The staging copy of a list, taken from the committed one: the pending list if there is one (02 R69). -/
def gclStaging (x : Egress) : Gcl :=
  match x.gclStage, x.gclPending with
  | some g, _ => g
  | none, some (g, _) => g
  | none, none => x.gcl

/-- The entry of a word: GATES, and DURATION_NS from 1 to 1,000,000,000 (09 R258). -/
def gclEntryOf (w : Word) : BitVec 16 × Nat := (BitVec.ofNat 16 (fld w 15 0), used w 45 16 1 1000000000)

/-- Write entries from index `i` on. -/
def gclPut : Nat → List Word → Gcl → Gcl
  | _, [], g => g
  | i, w :: ws, g => gclPut (i + 1) ws { g with entries := tput (0#16, 1) g.entries i (gclEntryOf w) }

/-- The clamps of entries read from memory. -/
def gclClamps (ws : List Word) : Nat → List FieldClamp
  | 0 => []
  | n + 1 => gclClamps ws n ++ dataClamps 2 ws [(n, 45, 16, 1, 1000000000)]

/-- GCL_WRITE (09 R258). -/
def gclBody (data : ReadData) (c : SeqCmd) (s : State) : CmdOut :=
  let d := c.desc
  let e := objIndex d.objectId % 2 ^ 48
  let x := getEgress s e
  let g := gclStaging x
  let put := fun (g' : Gcl) => setEgress e { x with gclStage := some g' } s
  if bit d.arg0 16 then
    .done 0 (argClamps d [(2, 29, 0, 1000, 1000000000), (2, 40, 32, 1, 256)])
      (put { g with baseTime := d.arg1.toNat, cycleNs := used d.arg2 29 0 1000 1000000000,
                    length := used d.arg2 40 32 1 256, enable := bit d.arg2 48 })
  else
    let first := fld d.arg0 7 0
    let count := fld d.arg0 40 32
    let n := min count (256 - first)
    if count = 0 then .done 0 (argClamps d [(1, 45, 16, 1, 1000000000)]) (put (gclPut first [d.arg1] g))
    else withData data s fun ws =>
      .done 0 ((if n = count then [] else [(⟨32, false, 0, 40, 32, count, n⟩ : FieldClamp)]) ++ gclClamps ws n)
        (put (gclPut first ((List.range n).map (nth ws)) g))

/-- The first cycle start of a list at or after Thyme time `t` (09 R259, R261). -/
def cycleStart (g : Gcl) (t : Nat) : Nat :=
  if g.cycleNs = 0 then t
  else
    let r := ((Int.ofNat t - Int.ofNat g.baseTime) % Int.ofNat g.cycleNs).toNat
    if r = 0 then t else t + g.cycleNs - r

/-- OBJ_COMMIT of a list: it takes effect at its first cycle start at least 10 µs later (09 R261). -/
def gclCommit (e : Nat) (s : State) : State :=
  let x := getEgress s e
  match x.gclStage with
  | none => s
  | some g => setEgress e { x with gclStage := none, gclPending := some (g, cycleStart g (s.time.now + 10000)) } s

/-- The gates that entry `i` of a list opens. -/
def entryGates (g : Gcl) (i : Nat) : BitVec 16 := (tget (0#16, 1) g.entries i).1

/-- The duration of the entries before entry `i`. -/
def entriesBefore (g : Gcl) (i : Nat) : Nat := (List.range i).foldl (fun a j => a + (tget (0#16, 1) g.entries j).2) 0

/-- The entry that follows entry `i`: entry 0 at the end of the list or of the cycle (09 R259). -/
def nextEntry (g : Gcl) (i : Nat) : Nat :=
  if g.length ≤ i + 1 || g.cycleNs ≤ entriesBefore g (i + 1) then 0 else i + 1

/-- An entry's duration ends and the next entry opens its gates; after a step of Thyme the first start of the
stepped time begins at entry 0 (09 R259, R262). The queues that the gates held closed until now are activated if they become
selectable (09 R254). -/
def gateEntry (e : Nat) (s : State) : State :=
  let x := getEgress s e
  if !x.gcl.enable then s
  else
    let due := match x.realignAt with
      | some t => decide (t ≤ s.time.now)
      | none => false
    let i := if due then 0 else nextEntry x.gcl x.gclEntry
    let s1 := refresh e s
    refresh e (setEgress e { getEgress s1 e with gclEntry := i, gates := entryGates x.gcl i
                                                 realignAt := if due then none else x.realignAt
                                                 gclShift := if due then 0 else x.gclShift } s1)

def execGateEntryChange (e : Nat) (s : State) : Out := inUnit "egress" e Config.egresses (.next (gateEntry e s))

/-- A pending list takes effect at its cycle start (09 R261). -/
def gclSwitch (e : Nat) (s : State) : State :=
  let x := getEgress s e
  match x.gclPending with
  | none => s
  | some (g, _) =>
    refresh e (setEgress e { x with gcl := g, gclPending := none, gclEntry := 0, realignAt := none, gclShift := 0
                                    gates := if g.enable then entryGates g 0 else 0xFFFF } s)

def execGclSwitchover (e : Nat) (s : State) : Out := inUnit "egress" e Config.egresses (.next (gclSwitch e s))

/-! ## Histograms (09 R267-R269) -/

/-- One sample of one queue (09 R267, R268). -/
def histQueue (e q : Nat) (s : State) : State :=
  let k := qkey e q
  let x := getSchedQ s k
  let depth := tget 0 s.gh.sharedOcc k + tget 0 s.gh.reserveOcc k
  let b := binOf depth (getEgress s e).depthLog2
  setSchedQ k { x with depthBins := tput 0 x.depthBins b (satAdd 32 (tget 0 x.depthBins b) 1)
                       sampleDue := x.sampleDue || !(getQueue s k).isEmpty } s

def histQueues (e : Nat) : List Nat → State → State
  | [], s => s
  | q :: qs, s => histQueues e qs (histQueue e q s)

/-- A sample instant of an egress (09 R267). -/
def histSample (e : Nat) (s : State) : State :=
  histQueues e (List.range 16) (setEgress e { getEgress s e with samples := satAdd 32 (getEgress s e).samples 1 } s)

def execHistSample (e : Nat) (s : State) : Out := inUnit "egress" e Config.egresses (.next (histSample e s))

def histZero (e : Nat) : List Nat → State → State
  | [], s => s
  | q :: qs, s => histZero e qs (setSchedQ (qkey e q) { getSchedQ s (qkey e q) with depthBins := [], delayBins := [] } s)

/-- SCHED_Ee_HIST_CLEAR (09 R269, R272). -/
def histClear (e : Nat) (v : Word) (s : State) : State :=
  if bit v 0 then histZero e (List.range 16) (setEgress e { getEgress s e with samples := 0 } s) else s

def execHistClear (e : Nat) (v : Word) (s : State) : Out :=
  inUnit "egress" e Config.egresses (.next (if imageDead s then discard .pf 0 (0xA10038 + e * 0x400) v s else histClear e v s))

end Sys2Proof.Machine
end

