-- ==== Sys2Proof/Machine/Flow.lean ====
section
/-! DEFINITION. Transactions on their way: stamping, admission, responses and the results that the switch itself
gives (01 R29; 03 R79; 04 R110-R121; 05 R149-R153). -/

namespace Sys2Proof.Machine

/-! ## Flow-control classes (04 R113) -/

/-- The class of a request at its ingress: class j of a mover group is that of its mover j, whose number a mover's tags end
in. -/
def reqFcc (i tag : Nat) (k : ReqKind) : Nat :=
  if 112 ≤ i ∧ i < 120 then (if kindData k then 3 else 0)
  else if 120 ≤ i ∧ i < 128 then tag % 8
  else if i = 128 then (if k == .pcieWr then 0 else 1)
  else match k with
    | .pcieWr => 0
    | .pcieRd => 1
    | .atomic => 1
    | .memWr _ => 4
    | .cacheReq => 6
    | _ => 3

/-- Where an answer goes: the ingress of its request, the queue that it takes there, the request's tag and protocol, and the
source of a request that came over a link. -/
structure Back where
  ingress : Nat
  queue : Nat
  tag : Nat
  kind : ReqKind
  remote : Option (Nat × Nat × Nat)

/-- Where the answer of a waiting request goes. -/
def waitBack (w : Wait) : Back := ⟨w.ingress, w.queue, w.rtag, w.kind, w.remote⟩

/-- The class of an answer at the ingress it enters by: a completion of CXL.io, as of PCIe, in the completion share; one of
CXL.mem as NDR or DRS; one of CXL.cache as Rsp or Data. -/
def rspFcc (s : State) (i : Nat) (req : ReqKind) (k : RspKind) : Nat :=
  if 112 ≤ i ∧ i < 120 then (if k == .data || k == .poison then 3 else 1)
  else if 120 ≤ i ∧ i < 128 then 0
  else if i = 128 then 2
  else if (getPort s i).proto = 0 || isPcie req then 2
  else if req == .cacheReq then (if k == .data || k == .poison then 8 else 7)
  else if k == .data || k == .poison then 4 else 3

/-! ## Admission (04 R111, R115) -/

/-- Link a transaction at the end of its queue, its cells written and charged as `shared` says; the egress's tags, peak and
backlog follow, and mirror capture sees it (04 R105-R107, R111, R115, R130; 07 R197; 09 R254). -/
def link (shared : Bool) (t : Txn) (s : State) : State :=
  let k := qkey t.egress t.queue
  let r := storeTxn { t with shared := shared, linkedAt := s.time.localNs } s
  mirror r.1 (refresh t.egress (noteOcc t.egress (setQueue k (getQueue r.2 k ++ [r.1])
    (charge shared k t.ingress t.fcc t.cells r.2))))

/-- Some transaction of the same ingress and class waits for cells. -/
def deferring (s : State) (t : Txn) : Bool := s.gh.deferred.any (fun x => x.ingress == t.ingress && x.fcc == t.fcc)

/-- A transaction waits for cells, in order among those of its ingress and class (log entry 134). -/
def defer (t : Txn) (s : State) : State := { s with gh := { s.gh with deferred := s.gh.deferred ++ [t] } }

/-- Admit a transaction to its queue: charged to the shared pool, or to its ingress's reserve. One for which no sender
holds credit, because the switch made it, waits where neither has room (04 R110-R112). -/
def takeIn (yellow : Bool) (t : Txn) (s : State) : State :=
  if deferring s t then defer t s
  else if sharedFits s (qkey t.egress t.queue) t.cells yellow then link true t s
  else if reserveFits s t.ingress t.fcc t.cells then link false t s
  else defer t s

/-- Transactions that wait for cells try again. -/
def takeAll : List Txn → State → State
  | [], s => s
  | t :: ts, s => takeAll ts (takeIn false t s)

def retryDeferred (s : State) : State := takeAll s.gh.deferred { s with gh := { s.gh with deferred := [] } }

/-- Take a transaction out of its queue; the cells that it frees go to those that wait (04 R112). -/
def unlink (t : Txn) (s : State) : State :=
  if s.gh.deferred.any (fun x => x.id == t.id) then
    { s with gh := { s.gh with deferred := s.gh.deferred.filter (fun x => x.id != t.id) } }
  else
    let k := qkey t.egress t.queue
    retryDeferred (noteOcc t.egress (discharge t (setQueue k ((getQueue s k).filter (fun x => x.id != t.id)) s)))

/-! ## New transactions -/

/-- A transaction of this switch from ingress `i` to queue `q` of egress `e`, stamped with routing generation
`g`. -/
def newTxn (s : State) (i e q bytes f g : Nat) (posted : Bool) (b : Body) : Txn :=
  { id := s.gh.nextTxn, ingress := i, egress := e, queue := q, cells := cellsOf bytes, fcc := f, shared := true,
    gen := g, host := none, mapGen := 0, epoch := 0, posted := posted, linkedAt := 0,
    srcSwitch := s.glb.switchId, srcIngress := i, dest := none, relay := none, tag := s.gh.nextTxn, addrs := [],
    note := CapNote.none, body := b }

/-- Count a new transaction in its generations and take it in (04 R121, 05 R153). -/
def launch (yellow : Bool) (t : Txn) (s : State) : State :=
  let s1 := routeInc t.gen (nextId s).2
  takeIn yellow t (match t.host with
    | some h => hostInc h t.mapGen t.epoch s1
    | none => s1)

/-! ## Responses (01 R29, 05 R149) -/

/-- Send a response that entered by ingress `i`, with the header decoded there, to the ingress of its request, in the queue of
that number (04 R115); a port that is down takes none. That of a request that came over a link goes back to its source switch
with its tag, by the link in use toward it, or nowhere without one (10 R300-R302); its DEST_PID is one that the spec does not
state (log entry 7). -/
def forwardRsp (i : Nat) (b : Back) (k : RspKind) (data hdr : List Word) (s : State) : State :=
  let t := { newTxn s i b.ingress b.queue (8 * data.length) (rspFcc s i b.kind k) s.gh.route.stamping false
      (.rsp (isPcie b.kind) k data) with
    tag := b.tag, note := { CapNote.none with hdr := hdr } }
  match b.remote with
  | none => if b.ingress < 112 && !(getPort s b.ingress).linkUp then s else launch false t s
  | some (sw, _, tag) =>
    match linkToward s sw with
    | some l => launch false { t with egress := 112 + l, dest := some (sw, (takeFree s).1.toNat % 4096), tag := tag } (takeFree s).2
    | none => s

/-- Whether a response kind is an error status. -/
def rspError : RspKind → Bool
  | .unsupported => true
  | .abort => true
  | .denied => true
  | .unmapped => true
  | _ => false

/-- Take `n` cells of a share (`give` false) or return them. -/
def shareCells (give : Bool) (i f n : Nat) (s : State) : State :=
  let u := reserveUsed s i f
  { s with gh := { s.gh with reserveUsed := tput 0 s.gh.reserveUsed (i * 16 + f) (if give then u - n else u + n) } }

/-- The account of a request that waits at a home is charged, as at R111's admission: the shared pool for its queue toward
the home, or the reserve (04 R111, 06 R179). -/
def homeQ (q : Nat) : Nat := qkey 128 q

/-- Return the cells that a request kept while it waited at a home. -/
def freeWait (w : Wait) (s : State) : State :=
  if w.cells = 0 then s
  else
    let f := reqFcc w.ingress w.rtag w.kind
    let k := homeQ w.queue
    retryDeferred (if w.shared then
        { s with gh := { s.gh with free := s.gh.free + Int.ofNat w.cells
                                   sharedOcc := tput 0 s.gh.sharedOcc k (tget 0 s.gh.sharedOcc k - w.cells) } }
      else
        creditBack w.ingress f w.cells (shareCells true w.ingress f w.cells { s with gh := { s.gh with
          reserveOcc := tput 0 s.gh.reserveOcc k (tget 0 s.gh.reserveOcc k - w.cells) } }))

/-- Charge the cells of a request that goes to a home of this switch. -/
def chargeWait (shared : Bool) (i f q n : Nat) (s : State) : State := charge shared (homeQ q) i f n s

/-- Remove a wait; the cells it kept return to their account (04 R112, 06 R179). -/
def dropWait (id : Nat) (s : State) : State :=
  let s1 := { s with gh := { s.gh with waits := s.gh.waits.filter (fun w => w.id != id) } }
  match s.gh.waits.find? (fun w => w.id == id) with
  | some w => freeWait w s1
  | none => s1

/-- An answer of another home's line passes to its requester here: the requester's acknowledgement will be a delivery notice
in the queue of the request (06 R175; 04 R115). -/
def oweNotice (w : Wait) (s : State) : State :=
  match w.dla with
  | some dla => { s with dir := { s.dir with notices := s.dir.notices ++ [(dla, w.queue)] } }
  | none => s

/-- Forward the parts of a request that were ready and only waited for an earlier part (05 R150), or for the write
to a second location (08 R242). -/
def releaseParts (i parent : Nat) : Nat → State → State
  | 0, s => s
  | n + 1, s =>
    if s.gh.waits.any (fun w => w.parent == parent && w.shadow) then s
    else match s.gh.waits.find? (fun w => w.parent == parent) with
    | some w =>
      match w.done with
      | some (k, data) => releaseParts i parent n (forwardRsp i (waitBack w) k data [] (dropWait w.id s))
      | none => s
    | none => s

/-- End every other part of a request that has failed: none of them is answered any more (05 R150). -/
def endParts (parent : Nat) : List Wait → State → State
  | [], s => s
  | w :: ws, s =>
    endParts parent ws <|
      if w.parent = parent && !w.shadow then
        (if w.done.isSome then dropWait w.id s else hostDec w.host w.mapGen w.epoch (dropWait w.id s))
      else s

/-- The answer to one waiting request or part arrives from ingress `i`, with the header `hdr`, or is made by the switch
(05 R149, R150, R153). A write of a migrating page is acknowledged when both its locations have completed (08 R242). A posted
write is answered by nothing, and stopped counting in flight when it left its queue. -/
def answer (i : Nat) (w : Wait) (k : RspKind) (data hdr : List Word) (s : State) : State :=
  let s0 := if w.kind == .pcieWr then dropWait w.id s else hostDec w.host w.mapGen w.epoch (dropWait w.id s)
  let s1 := oweNotice w s0
  if w.shadow then releaseParts i w.parent s1.gh.waits.length s1
  else if w.kind == .pcieWr then s1
  else if rspError k then forwardRsp i (waitBack w) k [] hdr (endParts w.parent s1.gh.waits s1)
  else if s1.gh.waits.any (fun x => x.parent == w.parent && (x.shadow || decide (x.id < w.id))) then
    let marked := s.gh.waits.map (fun x => if x.id == w.id then { x with done := some (k, data) } else x)
    { s1 with gh := { s1.gh with waits := marked } }
  else releaseParts i w.parent s1.gh.waits.length (forwardRsp i (waitBack w) k data hdr s1)

/-- Answer the waiting request of transaction `id`, if there is one. -/
def answerId (i id : Nat) (k : RspKind) (data : List Word) (s : State) : State :=
  match s.gh.waits.find? (fun w => w.id == id && w.done.isNone) with
  | some w => answer i w k data [] s
  | none => s

/-- How a request ends toward a port that has gone down (03 R79). What the spec does not name ends as the nearest
kind it names (log entry 30). -/
def downKind : ReqKind → RspKind
  | .memRd _ => .poison
  | .memInv => .cmp
  | .memClnEvict => .cmp
  | .memWr _ => .cmp
  | .pcieRd => .abort
  | .pcieWr => .abort
  | .atomic => .abort
  | .cacheReq => .abort

/-- How a request ends that finds no valid bus or DID entry (04 R119). -/
def lostKind : ReqKind → RspKind
  | .pcieRd => .unsupported
  | .pcieWr => .unsupported
  | .atomic => .unsupported
  | .cacheReq => .unsupported
  | k => downKind k

/-- A unit of the switch that issued an access is told of every error (05 R150; 08 R228). -/
def ownUnit (i : Nat) : Bool := decide (120 ≤ i)

def downFor (i : Nat) (k : ReqKind) : RspKind := if ownUnit i then .abort else downKind k
def lostFor (i : Nat) (k : ReqKind) : RspKind := if ownUnit i then .unmapped else lostKind k

/-- Requests waiting on a target that has gone down (03 R79). -/
def endWaitsOf : List Wait → State → State
  | [], s => s
  | w :: ws, s => endWaitsOf ws (answerId 128 w.id (downFor w.ingress w.kind) [] s)

end Sys2Proof.Machine
end

