-- ==== Sys2Proof/Machine/Sage.lean ====
section
/-! DEFINITION. Sprig slots and the Sage instructions (07 R199-R209): each instruction row is enabled when its
slot runs and the word at the slot's PC is that instruction. -/

namespace Sys2Proof.Machine

/-! ## Slots: start, stop, faults -/

/-- A result enters the slot's result queue, 64 deep, and triggers RESULT (07 R205, R216). -/
def slotResult (tag status : Nat) (done : Bool) (seq : Nat) (x : SageSlot) : SageSlot :=
  if x.results.length < 64 then
    triggerSlot CAUSE_RESULT { x with
      results := x.results ++ [pack [(tag, 0), (status, 16), (b2n done, 32), (seq % 2 ^ 31, 33)]] }
  else { x with resLost := satAdd 16 x.resLost 1 }

/-- The result of a proposal of a slot of this switch (07 R216, R217). -/
def propResult (p : PropRef) (status : Nat) (done : Bool) (result : Word) (s : State) : State :=
  let s1 := setSlot p.slot (slotResult (propTag p.prop) status done p.seq (getSlot s p.slot)) s
  plogWrite p.prop status p.slot s.glb.switchId p.seq p.epoch done false result (if done then s1 else countProp status s1)

def SLOT_STOPPED : Nat := 0x23

/-- Queued proposals are discarded with status SLOT_STOPPED (07 R202). They never received an arrival number,
so SEQ is a free value (log entry 7). -/
def discardProps (slot : Nat) : List Proposal → State → State
  | [], s => s
  | p :: ps, s =>
    discardProps slot ps (propResult ⟨slot, (takeFree s).1.toNat, p, s.tel.epoch⟩ SLOT_STOPPED false 0 (takeFree s).2)

/-- Stop a slot as SPRIG_STOP does: it keeps its committed code and TRIG_EN (07 R202). -/
def stopSlot (slot : Nat) (s : State) : State :=
  let x := getSlot s slot
  let s1 := setSlot slot { x with
    state := if slotLive x then .stopped else x.state, props := [], causes := 0, timer := none } s
  discardProps slot x.props s1

/-- A legal instruction word: a listed OP, zero [31:23], and in BR a condition up to 8 (07 R206, R207). -/
def legalOps : List Nat :=
  [0x01, 0x02, 0x03, 0x04, 0x05, 0x06, 0x07, 0x08, 0x09, 0x0A, 0x0B, 0x0C, 0x0D, 0x0E, 0x0F, 0x10, 0x11, 0x12, 0x21,
   0x23, 0x24, 0x25, 0x26, 0x27, 0x28, 0x2D, 0x2E, 0x30, 0x40, 0x41, 0x50, 0x56, 0x57, 0x60, 0x61, 0x62, 0x63, 0x64,
   0x70, 0x71, 0x72, 0x73, 0x74, 0x75, 0x78, 0x79, 0x7A, 0x7B, 0x7C, 0x7D]

def legalWord (w : Word) : Bool :=
  legalOps.contains (fld w 7 0) && fld w 31 23 == 0 && !(fld w 7 0 == 0x50 && decide (8 < fld w 12 8))

/-- Why the core cannot go on at its PC: 2 beyond the loaded code, 1 an illegal instruction, 0 neither
(07 R208, R219). -/
def pcFault (x : SageSlot) : Nat :=
  match x.code[x.pc / 8]? with
  | none => 2
  | some w => if legalWord w then 0 else 1

/-- The slot after a start without KEEP: data memory from the committed image, queues and timer cleared, PC 0,
START pending (07 R201). `keepProps`: a restart after a fault keeps the posted proposals (07 R208). -/
def startSlot (keepProps : Bool) (x : SageSlot) : SageSlot :=
  { x with state := .running, mem := tputs 0 [] 0 x.dataImage, pc := 0, causes := 1#6, timer := none, results := [],
           props := if keepProps then x.props else [] }

/-- A sprig fault: cause and PC recorded, SAGE_RESTART raised, and the slot restarts or, at the ninth fault
within 1 s, is FAULTED (07 R208). -/
def sageFault (cause slot : Nat) (s : State) : State :=
  let x := getSlot s slot
  let times := (x.faultTimes.filter (fun t => decide (s.time.localNs < t + 1000000000))) ++ [s.time.localNs]
  let x1 := { x with faultPc := x.pc % 2 ^ 14, faultCause := cause, restarts := satAdd 16 x.restarts 1, faultTimes := times }
  let x2 := if 9 ≤ times.length then { x1 with state := .faulted, causes := 0, timer := none } else startSlot true x1
  pulse 21 (unitCode 5 slot) none (some (w64 cause)) (setSlot slot x2 s)

/-- Fault as long as the word at the PC cannot run: a slot whose first word is bad faults until it is FAULTED. -/
def checkPc : Nat → Nat → State → State
  | 0, _, s => s
  | n + 1, slot, s =>
    let x := getSlot s slot
    if x.state == .running && pcFault x ≠ 0 then checkPc n slot (sageFault (pcFault x) slot s) else s

/-- Start a slot and look at its first instruction. -/
def startAndCheck (slot : Nat) (s : State) : State := checkPc 10 slot (setSlot slot (startSlot false (getSlot s slot)) s)

/-! ## Running one instruction -/

/-- The word at the slot's PC is this instruction: OP and the fields that the instruction uses. -/
def wordIs (w : Word) (op : Nat) (rd ra rb : Option Nat) (imm : Option (BitVec 32)) : Bool :=
  legalWord w && fld w 7 0 == op
    && (match rd with | some r => fld w 12 8 == r | none => true)
    && (match ra with | some r => fld w 17 13 == r | none => true)
    && (match rb with | some r => fld w 22 18 == r | none => true)
    && (match imm with | some i => fld w 63 32 == i.toNat | none => true)

/-- The slot runs this instruction now. -/
def slotRuns (s : State) (slot op : Nat) (rd ra rb : Option Nat) (imm : Option (BitVec 32)) : Bool :=
  (getSlot s slot).state == .running &&
    (match (getSlot s slot).code[(getSlot s slot).pc / 8]? with
     | some w => wordIs w op rd ra rb imm
     | none => false)

/-- Register g; g0 reads as zero (07 R204). -/
def greg (x : SageSlot) (g : Nat) : Word := if g = 0 then 0 else tget 0 x.regs g

/-- Write register g; a write to g0 has no effect (07 R204). -/
def setGreg (g : Nat) (v : Word) (x : SageSlot) : SageSlot := if g = 0 then x else { x with regs := tput 0 x.regs g v }

/-- Go on at `pc`: a PC beyond the code or an illegal word faults (07 R208). -/
def goTo (slot pc : Nat) (s : State) : State := checkPc 10 slot (setSlot slot { getSlot s slot with pc := pc } s)

/-- Write the result of an instruction and go on at the next word. -/
def retireInstr (slot rd : Nat) (v : Word) (s : State) : State :=
  goTo slot ((getSlot s slot).pc + 8) (setSlot slot (setGreg rd v (getSlot s slot)) s)

/-- The immediate sign-extended (07 R206). -/
def immS (imm : BitVec 32) : Word := imm.signExtend 64
/-- The immediate as an unsigned value (07 R206). -/
def immU (imm : BitVec 32) : Word := imm.setWidth 64

/-- A register-register instruction rd = f ra rb (07 R207). -/
def rrr (op slot rd ra rb : Nat) (f : Word → Word → Word) (s : State) : Out :=
  inUnit "Sage slot" slot 32 (.next (
    if slotRuns s slot op (some rd) (some ra) (some rb) none
    then retireInstr slot rd (f (greg (getSlot s slot) ra) (greg (getSlot s slot) rb)) s else s))

/-- A one-operand instruction rd = f ra. -/
def rr (op slot rd ra : Nat) (f : Word → Word) (s : State) : Out :=
  inUnit "Sage slot" slot 32 (.next (
    if slotRuns s slot op (some rd) (some ra) none none then retireInstr slot rd (f (greg (getSlot s slot) ra)) s else s))

/-- A register-immediate instruction rd = f ra. -/
def rri (op slot rd ra : Nat) (imm : BitVec 32) (f : Word → Word) (s : State) : Out :=
  inUnit "Sage slot" slot 32 (.next (
    if slotRuns s slot op (some rd) (some ra) none (some imm) then retireInstr slot rd (f (greg (getSlot s slot) ra)) s else s))

def ofBool (b : Bool) : Word := if b then 1 else 0

/-- How many ones a word has. -/
def popcount (w : Word) : Nat := ones w.toNat 64

/-- Leading zeros of a word, 64 for zero. -/
def leadingZeros (w : Word) : Nat := if w = 0 then 64 else 63 - w.toNat.log2

/-! ## Arithmetic and logic (07 R207) -/

def execAdd (slot rd ra rb : Nat) (s : State) : Out :=
  rrr 0x01 slot rd ra rb (fun a b => a + b) s

def execSub (slot rd ra rb : Nat) (s : State) : Out :=
  rrr 0x02 slot rd ra rb (fun a b => a - b) s

def execAnd (slot rd ra rb : Nat) (s : State) : Out :=
  rrr 0x03 slot rd ra rb (fun a b => a &&& b) s

def execOr (slot rd ra rb : Nat) (s : State) : Out :=
  rrr 0x04 slot rd ra rb (fun a b => a ||| b) s

def execXor (slot rd ra rb : Nat) (s : State) : Out :=
  rrr 0x05 slot rd ra rb (fun a b => a ^^^ b) s

def execShl (slot rd ra rb : Nat) (s : State) : Out :=
  rrr 0x06 slot rd ra rb (fun a b => a <<< (b.toNat % 64)) s

def execShr (slot rd ra rb : Nat) (s : State) : Out :=
  rrr 0x07 slot rd ra rb (fun a b => a >>> (b.toNat % 64)) s

def execSar (slot rd ra rb : Nat) (s : State) : Out :=
  rrr 0x08 slot rd ra rb (fun a b => a.sshiftRight (b.toNat % 64)) s

def execMul (slot rd ra rb : Nat) (s : State) : Out :=
  rrr 0x09 slot rd ra rb (fun a b => a * b) s

def execMulhu (slot rd ra rb : Nat) (s : State) : Out :=
  rrr 0x0A slot rd ra rb (fun a b => w64 (a.toNat * b.toNat / 2 ^ 64)) s

def execDivu (slot rd ra rb : Nat) (s : State) : Out :=
  rrr 0x0B slot rd ra rb (fun a b => w64 (a.toNat / b.toNat)) s

def execRemu (slot rd ra rb : Nat) (s : State) : Out :=
  rrr 0x0C slot rd ra rb (fun a b => if b = 0 then 0 else w64 (a.toNat % b.toNat)) s

def execLtu (slot rd ra rb : Nat) (s : State) : Out :=
  rrr 0x0D slot rd ra rb (fun a b => ofBool (a.ult b)) s

def execLt (slot rd ra rb : Nat) (s : State) : Out :=
  rrr 0x0E slot rd ra rb (fun a b => ofBool (a.slt b)) s

def execMinu (slot rd ra rb : Nat) (s : State) : Out :=
  rrr 0x0F slot rd ra rb (fun a b => if a.ult b then a else b) s

def execMaxu (slot rd ra rb : Nat) (s : State) : Out :=
  rrr 0x10 slot rd ra rb (fun a b => if a.ult b then b else a) s

def execPopc (slot rd ra : Nat) (s : State) : Out := rr 0x11 slot rd ra (fun a => w64 (popcount a)) s

def execClz (slot rd ra : Nat) (s : State) : Out := rr 0x12 slot rd ra (fun a => w64 (leadingZeros a)) s

def execAddi (slot rd ra : Nat) (imm : BitVec 32) (s : State) : Out :=
  rri 0x21 slot rd ra imm (fun a => a + immS imm) s

def execAndi (slot rd ra : Nat) (imm : BitVec 32) (s : State) : Out :=
  rri 0x23 slot rd ra imm (fun a => a &&& immU imm) s

def execOri (slot rd ra : Nat) (imm : BitVec 32) (s : State) : Out :=
  rri 0x24 slot rd ra imm (fun a => a ||| immU imm) s

def execXori (slot rd ra : Nat) (imm : BitVec 32) (s : State) : Out :=
  rri 0x25 slot rd ra imm (fun a => a ^^^ immU imm) s

def execShli (slot rd ra : Nat) (imm : BitVec 32) (s : State) : Out :=
  rri 0x26 slot rd ra imm (fun a => a <<< (imm.toNat % 64)) s

def execShri (slot rd ra : Nat) (imm : BitVec 32) (s : State) : Out :=
  rri 0x27 slot rd ra imm (fun a => a >>> (imm.toNat % 64)) s

def execSari (slot rd ra : Nat) (imm : BitVec 32) (s : State) : Out :=
  rri 0x28 slot rd ra imm (fun a => a.sshiftRight (imm.toNat % 64)) s

def execLtui (slot rd ra : Nat) (imm : BitVec 32) (s : State) : Out :=
  rri 0x2D slot rd ra imm (fun a => ofBool (a.ult (immS imm))) s

def execLti (slot rd ra : Nat) (imm : BitVec 32) (s : State) : Out :=
  rri 0x2E slot rd ra imm (fun a => ofBool (a.slt (immS imm))) s

def execImmhi (slot rd ra : Nat) (imm : BitVec 32) (s : State) : Out :=
  rri 0x30 slot rd ra imm (fun a => (a &&& 0xFFFFFFFF#64) + (immU imm <<< 32)) s

/-! ## Loads, stores and control -/

/-- The word index that a data address selects: (base + IMM) mod 65,536 with bits [2:0] ignored (07 R204). -/
def dataIndex (base : Word) (imm : BitVec 32) : Nat := (base + immS imm).toNat % 65536 / 8

/-- LD: a corrected word is counted, an uncorrectable one faults the sprig (07 R207, R208). -/
def execLd (slot rd ra : Nat) (imm : BitVec 32) (ecc : Ecc) (s : State) : Out :=
  inUnit "Sage slot" slot 32 (.next (
    if slotRuns s slot 0x40 (some rd) (some ra) none (some imm) then
      let x := getSlot s slot
      let v := tget 0 x.mem (dataIndex (greg x ra) imm)
      match ecc with
      | .ok => retireInstr slot rd v s
      | .corrected => retireInstr slot rd v (setSlot slot { x with eccCorr := satAdd 16 x.eccCorr 1 } s)
      | .uncorrectable => checkPc 10 slot (sageFault 4 slot s)
    else s))

/-- ST (07 R207). -/
def execSt (slot ra rb : Nat) (imm : BitVec 32) (s : State) : Out :=
  inUnit "Sage slot" slot 32 (.next (
    if slotRuns s slot 0x41 none (some ra) (some rb) (some imm) then
      let x := getSlot s slot
      goTo slot (x.pc + 8) (setSlot slot { x with mem := tput 0 x.mem (dataIndex (greg x ra) imm) (greg x rb) } s)
    else s))

/-- The condition of BR (07 R206). -/
def brTaken (cond : Nat) (a b : Word) : Bool :=
  match cond with
  | 0 => true
  | 1 => a == b
  | 2 => a != b
  | 3 => a.ult b
  | 4 => !(a.ult b)
  | 5 => a.slt b
  | 6 => !(a.slt b)
  | 7 => (a &&& b) != 0
  | 8 => (a &&& b) == 0
  | _ => false

/-- The branch target PC + IMM × 8 (07 R206). -/
def branchTarget (pc : Nat) (imm : BitVec 32) : Nat := (w64 pc + immS imm * 8).toNat

/-- BR (07 R206). `cond` is the RD field. -/
def execBr (slot cond ra rb : Nat) (imm : BitVec 32) (s : State) : Out :=
  inUnit "Sage slot" slot 32 (.next (
    if slotRuns s slot 0x50 (some cond) (some ra) (some rb) (some imm) then
      let x := getSlot s slot
      goTo slot (if brTaken cond (greg x ra) (greg x rb) then branchTarget x.pc imm else x.pc + 8) s
    else s))

def execCall (slot rd : Nat) (imm : BitVec 32) (s : State) : Out :=
  inUnit "Sage slot" slot 32 (.next (
    if slotRuns s slot 0x56 (some rd) none none (some imm) then
      let x := getSlot s slot
      goTo slot (branchTarget x.pc imm) (setSlot slot (setGreg rd (w64 (x.pc + 8)) x) s)
    else s))

/-- JUMPR: the target is taken from ra before rd is written (07 R207). -/
def execJumpr (slot rd ra : Nat) (imm : BitVec 32) (s : State) : Out :=
  inUnit "Sage slot" slot 32 (.next (
    if slotRuns s slot 0x57 (some rd) (some ra) none (some imm) then
      let x := getSlot s slot
      goTo slot ((greg x ra + immS imm).toNat / 8 * 8) (setSlot slot (setGreg rd (w64 (x.pc + 8)) x) s)
    else s))

/-- The hot ring holds entries beyond the slot's cursor (07 R196, R205). -/
def hotBeyond (s : State) (x : SageSlot) : Bool := decide (x.hotCursor < s.tel.hotPushed)

/-- The slot with HOT pending if the hot ring holds entries beyond its cursor (07 R205). -/
def withHot (s : State) (x : SageSlot) : SageSlot :=
  if hotBeyond s x && causeOn x CAUSE_HOT then { x with causes := x.causes ||| (1#6 <<< CAUSE_HOT) } else x

/-- WAIT: return the pending causes and clear them, or suspend the core until one is set (07 R205). -/
def execWait (slot rd : Nat) (s : State) : Out :=
  inUnit "Sage slot" slot 32 (.next (
    if slotRuns s slot 0x60 (some rd) none none none then
      let x := withHot s (getSlot s slot)
      if x.causes = 0 then setSlot slot { x with state := .waiting, waitRd := rd } s
      else retireInstr slot rd (x.causes.setWidth 64) (setSlot slot { x with causes := 0 } s)
    else s))

/-- A pending cause is set and the suspended core resumes: WAIT returns it (07 R205). -/
def execSprigWake (slot : Nat) (s : State) : Out :=
  inUnit "Sage slot" slot 32 (.next (
    let x := withHot s (getSlot s slot)
    if x.state == .waiting && x.causes != 0 then
      retireInstr slot x.waitRd (x.causes.setWidth 64) (setSlot slot { x with causes := 0, state := .running } s)
    else s))

/-- HALT: the slot stops as for SPRIG_STOP (07 R207). -/
def execHalt (slot : Nat) (s : State) : Out :=
  inUnit "Sage slot" slot 32 (.next (if slotRuns s slot 0x61 none none none none then stopSlot slot s else s))

/-- TIMER: armed for ra + IMM µs from now, 0 cancels. R206 does not list TIMER among the instructions that
sign-extend, so IMM is unsigned (log entry 22). -/
def execTimer (slot ra : Nat) (imm : BitVec 32) (s : State) : Out :=
  inUnit "Sage slot" slot 32 (.next (
    if slotRuns s slot 0x62 none (some ra) none (some imm) then
      let x := getSlot s slot
      let us := (greg x ra + immU imm).toNat
      goTo slot (x.pc + 8) (setSlot slot { x with timer := if us = 0 then none else some (s.time.localNs + us * 1000) } s)
    else s))

/-- The armed timer expires: cause TIMER (07 R205). -/
def execSprigTimerExpiry (slot : Nat) (s : State) : Out :=
  inUnit "Sage slot" slot 32 (.next (
    let x := getSlot s slot
    if x.timer.isSome then setSlot slot (triggerSlot CAUSE_TIMER { x with timer := none }) s else s))

/-- A run longer than BUDGET_US from a WAIT return to the next WAIT faults (07 R208). -/
def execSprigBudgetExpiry (slot : Nat) (s : State) : Out :=
  inUnit "Sage slot" slot 32 (.next (
    if (getSlot s slot).state == .running then checkPc 10 slot (sageFault 3 slot s) else s))

/-! ## Reading the switch -/

def execTime (slot rd : Nat) (s : State) : Out :=
  inUnit "Sage slot" slot 32 (.next (
    if slotRuns s slot 0x63 (some rd) none none none then retireInstr slot rd (w64 s.time.now) s else s))

def execEpochn (slot rd : Nat) (s : State) : Out :=
  inUnit "Sage slot" slot 32 (.next (
    if slotRuns s slot 0x64 (some rd) none none none then retireInstr slot rd (w64 s.tel.epoch) s else s))

/-- HOTPOP: the slot's next hot ring entry, 0 if none; a cursor that has fallen behind skips to the oldest entry
held and counts the missed ones (07 R196). `bad`: the entry read has an uncorrectable word (15 R394). -/
def execHotpop (slot rd : Nat) (bad : Bool) (s : State) : Out :=
  inUnit "Sage slot" slot 32 (.next (
    if slotRuns s slot 0x70 (some rd) none none none then
      let x := getSlot s slot
      let oldest := s.tel.hotPushed - s.tel.hot.length
      let skip := oldest - x.hotCursor
      let cur := x.hotCursor + skip
      let x1 := { x with hotLost := satAdd 16 x.hotLost skip, hotCursor := if cur < s.tel.hotPushed then cur + 1 else cur }
      let s1 := setSlot slot x1 s
      if cur < s.tel.hotPushed then
        if bad then pulse 20 (unitCode 0 0) none none (retireInstr slot rd 0 s1)
        else retireInstr slot rd (nth s.tel.hot (cur - oldest)) s1
      else retireInstr slot rd 0 s1
    else s))

/-- Word 1 of the heat entry of a page, decayed; 0 if absent (07 R207). -/
def heatRead (s : State) (host : Nat) (a : Word) (huge : Bool) : Word :=
  let page := fld a 51 12
  match heatFind s (heatSet s host page huge) host page huge with
  | none => 0
  | some w => match heatWay s (heatSet s host page huge) w with | some e => heatWord1 s e | none => 0

/-- HEATRD: word 1 of the entry of a page (07 R207). `bad`: a word of it is uncorrectable (15 R394). -/
def execHeatrd (slot rd ra rb : Nat) (imm : BitVec 32) (bad : Bool) (s : State) : Out :=
  inUnit "Sage slot" slot 32 (.next (
    if slotRuns s slot 0x71 (some rd) (some ra) (some rb) (some imm) then
      let x := getSlot s slot
      let h := fld (greg x ra) 5 0
      let s1 := if bad then heatPageLost h (fld (greg x rb) 51 12) (imm.getLsbD 0) s else s
      retireInstr slot rd (heatRead s1 h (greg x rb) (imm.getLsbD 0)) s1
    else s))

/-- HEATIDX: word 0 of heat slot ra mod 2^(H+3), 0 where the slot is invalid (07 R207). `bad`: a word of it is
uncorrectable (15 R394). -/
def execHeatidx (slot rd ra : Nat) (bad : Bool) (s : State) : Out :=
  inUnit "Sage slot" slot 32 (.next (
    if slotRuns s slot 0x72 (some rd) (some ra) none none then
      let n := (greg (getSlot s slot) ra).toNat % 2 ^ (heatBits s + 3)
      if bad && (tget none s.tel.heat n).isSome then retireInstr slot rd 0 (heatLost n s)
      else retireInstr slot rd (match tget none s.tel.heat n with | some e => heatWord0 e | none => 0) s
    else s))

/-- Word `w` of an egress summary (07 R197). -/
def summaryWord (x : Summary) (w : Nat) : Nat :=
  match w with | 0 => x.bytes | 1 => x.backlogUs | 2 => x.peak | _ => x.epoch

/-- The summary of an egress has an uncorrectable word: it reads as zero (15 R394). -/
def summaryLost (e : Nat) (s : State) : State :=
  pulse 20 (unitCode 0 0) none none { s with tel := { s.tel with summary := tput Summary.reset s.tel.summary e Summary.reset } }

/-- EGRD (07 R207). `bad`: a word of the summary is uncorrectable. -/
def execEgrd (slot rd ra : Nat) (imm : BitVec 32) (bad : Bool) (s : State) : Out :=
  inUnit "Sage slot" slot 32 (.next (
    if slotRuns s slot 0x73 (some rd) (some ra) none (some imm) then
      let e := (greg (getSlot s slot) ra).toNat
      if bad && decide (e ≤ 128) then retireInstr slot rd 0 (summaryLost e s)
      else retireInstr slot rd (if 128 < e then 0 else w64 (summaryWord (tget Summary.reset s.tel.summary e) (imm.toNat % 4))) s
    else s))

/-! ## Proposals and mailboxes -/

/-- PROP: post the 32-byte proposal at data address ra, bits [4:0] ignored; rd = 1 if the queue of 64 is full
(07 R207, R211). Of what the reads of its four words met, each corrected one is counted, and an uncorrectable one
faults the sprig and nothing is posted (07 R208). -/
def execProp (slot rd : Nat) (src : MemBlock) (s : State) : Out :=
  inUnit "Sage slot" slot 32 (.next (
    if slotRuns s slot 0x78 (some rd) (some src.ra) none none then
      let y := getSlot s slot
      let n := ((src.ecc.take 4).filter (· == .corrected)).length
      let x := if n = 0 then y else { y with eccCorr := satAdd 16 y.eccCorr n }
      let i := (greg x src.ra).toNat % 65536 / 32 * 4
      let p : Proposal := ⟨tget 0 x.mem i, tget 0 x.mem (i + 1), tget 0 x.mem (i + 2), tget 0 x.mem (i + 3)⟩
      if (src.ecc.take 4).any (· == .uncorrectable) then checkPc 10 slot (sageFault 4 slot (setSlot slot x s))
      else if x.props.length < 64
      then retireInstr slot rd 0 (setSlot slot { x with props := x.props ++ [p], posted := sat64 x.posted } s)
      else retireInstr slot rd 1 (setSlot slot x s)
    else s))

/-- RES: the next result, 0 if none (07 R216). -/
def execRes (slot rd : Nat) (s : State) : Out :=
  inUnit "Sage slot" slot 32 (.next (
    if slotRuns s slot 0x79 (some rd) none none none then
      let x := getSlot s slot
      retireInstr slot rd (x.results.headD 0) (setSlot slot { x with results := x.results.tail } s)
    else s))

def execMbrd (slot rd : Nat) (imm : BitVec 32) (s : State) : Out :=
  inUnit "Sage slot" slot 32 (.next (
    if slotRuns s slot 0x7A (some rd) none none (some imm)
    then retireInstr slot rd (tget 0 (getSlot s slot).mbIn (imm.toNat % 8)) s else s))

def execMbwr (slot ra : Nat) (imm : BitVec 32) (s : State) : Out :=
  inUnit "Sage slot" slot 32 (.next (
    if slotRuns s slot 0x7B none (some ra) none (some imm) then
      let x := getSlot s slot
      goTo slot (x.pc + 8) (setSlot slot { x with mbOut := tput 0 x.mbOut (imm.toNat % 8) (greg x ra) } s)
    else s))

/-- MBSEND: rd = 0, OUT_FULL set and the slot's mailbox line rises; rd = 1 and no effect if it is full already
(07 R207, R209; 13 R351). -/
def execMbsend (slot rd : Nat) (s : State) : Out :=
  inUnit "Sage slot" slot 32 (.next (
    if slotRuns s slot 0x7C (some rd) none none none then
      let x := getSlot s slot
      if x.outFull then retireInstr slot rd 1 s
      else retireInstr slot rd 0 (eventEdge (64 + slot) (setSlot slot { x with outFull := true } s))
    else s))

/-- MBDONE: the inbound mailbox is released (07 R209). -/
def execMbdone (slot : Nat) (s : State) : Out :=
  inUnit "Sage slot" slot 32 (.next (
    if slotRuns s slot 0x7D none none none none then
      let x := getSlot s slot
      goTo slot (x.pc + 8) (setSlot slot { x with inFull := false } s)
    else s))

/-! ## Slot registers (07 R209, R219) -/

/-- The BAR0 offset of a slot's registers. -/
def slotRegs (slot : Nat) : Nat := 0x801000 + slot * 0x100

/-- A write to MBCTRL.IN_DOORBELL (07 R209). -/
def slotDoorbell (slot : Nat) (v : Word) (s : State) : State :=
  let x := getSlot s slot
  if !bit v 0 then s
  else if x.inFull then clampAccess .pf 0 (slotRegs slot + 0xC0) 0 0 1 0 s
  else setSlot slot (triggerSlot CAUSE_MBOX { x with inFull := true }) s

/-- A write of 0 to MBCTRL.OUT_FULL releases the outbound mailbox (07 R209). -/
def slotOutClear (slot : Nat) (v : Word) (s : State) : State :=
  if bit v 2 then s else setSlot slot { getSlot s slot with outFull := false } s

/-- A write to MBCTRL acts on both fields. -/
def mbctrlWrite (slot : Nat) (v : Word) (s : State) : State :=
  if imageDead s then discard .pf 0 (slotRegs slot + 0xC0) v s else slotOutClear slot v (slotDoorbell slot v s)

def execSageInDoorbell (slot : Nat) (v : Word) (s : State) : Out :=
  inUnit "Sage slot" slot 32 (.next (mbctrlWrite slot v s))

def execSageOutFullClear (slot : Nat) (v : Word) (s : State) : Out :=
  inUnit "Sage slot" slot 32 (.next (mbctrlWrite slot v s))

/-- A write to SAGE_PLOG_CTRL (07 R217, 02 R48). -/
def plogCtrlWrite (v : Word) (s : State) : State :=
  let g := s.sage.plog
  let s1 := { s with sage := { s.sage with plog := recCtrl g v } }
  if recCtrlClamped g v then clampAccess .pf 0 0x800010 5 1 (w64 (fld v 5 1)) (w64 (recCtrl g v).sizeLog2) s1 else s1

def execSagePlogCtrlWrite (v : Word) (s : State) : Out :=
  .next (if imageDead s then discard .pf 0 0x800010 v s else plogCtrlWrite v s)

/-- A write to SAGE_PLOG_TAIL (07 R217, 02 R74). -/
def plogTailWrite (v : Word) (s : State) : State :=
  let c := fld v 31 0
  if tailLegal s.sage.plog.produced s.sage.plog.consumed c
  then { s with sage := { s.sage with plog := { s.sage.plog with consumed := c } } }
  else clampAccess .pf 0 0x800020 31 0 (w64 c) (w64 s.sage.plog.consumed) s

def execSagePlogTailWrite (v : Word) (s : State) : Out :=
  .next (if imageDead s then discard .pf 0 0x800020 v s else plogTailWrite v s)

/-! ## SPRIG_LOAD, SPRIG_START, SPRIG_STOP, COMMIT_LIMITS_SET (07 R200-R202, R215) -/

/-- CODE_BYTES used: up to the next multiple of 8, then to 16,384 (07 R200). -/
def codeBytes (d : Desc) : Nat := clampNat (ceilDiv (fld d.arg1 14 0) 8 * 8) 8 16384

/-- DATA_BYTES used (07 R200). -/
def dataBytes (d : Desc) : Nat := clampNat (ceilDiv (fld d.arg3 16 0) 8 * 8) 0 65536

def loadClamps (d : Desc) : List FieldClamp :=
  (if codeBytes d = fld d.arg1 14 0 then [] else [⟨40, false, 0, 14, 0, fld d.arg1 14 0, codeBytes d⟩]) ++
  (if dataBytes d = fld d.arg3 16 0 then [] else [⟨56, false, 0, 16, 0, fld d.arg3 16 0, dataBytes d⟩])

/-- `n` words of what the read returned. -/
def takeWords (ws : List Word) (n : Nat) : List Word := (List.range n).map (nth ws)

def loadBody (code data : ReadData) (c : SeqCmd) (s : State) : CmdOut :=
  let k := objIndex c.desc.objectId
  withData code s fun cw =>
    withData (if dataBytes c.desc = 0 then some [] else data) s fun dw =>
      if slotLive (getSlot s k) then .fail PRECONDITION s
      else .done 0 (loadClamps c.desc) (setSlot k { getSlot s k with
        stage := some (takeWords cw (codeBytes c.desc / 8), takeWords dw (dataBytes c.desc / 8)) } s)

/-- The epoch that a start adopts: the one the command carries; the image's script carries none (17 R471). -/
def carriedEpoch (c : SeqCmd) (s : State) : Nat := if c.origin == .script then s.cmd.ownEpoch else c.desc.ownEpoch.toNat

/-- SPRIG_START (07 R201). On a retired core the slot starts when the core joins (15 R403; log entry 23). -/
def startBody (c : SeqCmd) (s : State) : CmdOut :=
  let k := objIndex c.desc.objectId
  let x := getSlot s k
  if x.code.isEmpty then .fail PRECONDITION s
  else
    let x1 := { x with trigEn := fld c.desc.arg0 5 0, budgetUs := used c.desc.arg1 19 0 10 1000000, epoch := carriedEpoch c s }
    .done 0 (argClamps c.desc [(1, 19, 0, 10, 1000000)]) (
      if bit c.desc.arg0 8 && slotLive x then setSlot k x1 s
      else if x.retired then setSlot k { x1 with wasRunning := true } s
      else startAndCheck k (setSlot k x1 s))

def execSprigStart (seq : Nat) (s : State) : Out := .next (runOp 0x4002 anyDesc true startBody seq s)

def execSprigStop (seq : Nat) (s : State) : Out :=
  .next (runOp 0x4003 anyDesc true (fun c s =>
    .done 0 [] (stopSlot (objIndex c.desc.objectId) s)) seq s)

/-- The legal ranges of COMMIT_LIMITS_SET (07 R215). -/
def limitFields : List FieldSpec := [(0, 22, 16, 1, 64), (0, 38, 36, 0, 4), (1, 15, 0, 1, 65535), (1, 23, 16, 0, 63)]

def limitsBody (c : SeqCmd) (s : State) : CmdOut :=
  let a := c.desc.arg0
  let b := c.desc.arg1
  .done 0 (argClamps c.desc limitFields) { s with sage := { s.sage with limits :=
    ⟨fld a 15 0, used a 22 16 1 64, fld a 31 24, fld a 35 32, used a 38 36 0 4, BitVec.ofNat 5 (fld a 44 40),
     used b 15 0 1 65535, used b 23 16 0 63⟩ } }

def execCommitLimitsSet (seq : Nat) (s : State) : Out := .next (runOp 0x4004 anyDesc true limitsBody seq s)

/-- OBJ_COMMIT of a slot: the staged code and data become the committed ones (07 R199). -/
def commitSprig (k : Nat) (s : State) : State :=
  let x := getSlot s k
  match x.stage with
  | none => s
  | some (cw, dw) =>
    checkPc 10 k (setSlot k { x with code := cw, dataImage := dw, stage := none,
                                     state := if x.state == .empty then .stopped else x.state } s)

end Sys2Proof.Machine
end

