-- ==== Sys2Proof/Machine/Movers.lean ====
section
/-! DEFINITION. The mover pool: migration pools, jobs, credit classes, the arbiter and the states of live
migrations (08 R221-R250). -/

namespace Sys2Proof.Machine

/-! ## Migration pools (08 R230, R231, R245) -/

def getChunk (s : State) (n : Nat) : Option Chunk := tget none s.move.chunks n
def setChunk (n : Nat) (x : Option Chunk) (s : State) : State :=
  { s with move := { s.move with chunks := tput none s.move.chunks n x } }

/-- The chunk table is full. -/
def chunksFull (s : State) : Bool := decide (Config.chunks ≤ s.move.chunks.length)

/-- Free 4 KiB pages of a chunk; a whole chunk counts as 512 (08 R230). -/
def chunkFree (c : Chunk) : Nat := if c.split then 512 - c.used.length else 512

/-- Chunks and free pages of a DID (08 R230, R250). -/
def poolChunks (s : State) (did : Nat) : Nat :=
  (s.move.chunks.filter (fun e => match e.2 with | some c => c.did == did | none => false)).length

def poolPages (s : State) (did : Nat) : Nat :=
  s.move.chunks.foldl (fun a e => match e.2 with | some c => if c.did = did then a + chunkFree c else a | none => a) 0

/-- The lowest page 0-511 that a split chunk has free. -/
def chunkPage (c : Chunk) : Option Nat := (List.range 512).find? (fun p => !(c.used.contains p))

/-- The lowest whole chunk of a DID. -/
def poolWhole (s : State) (did : Nat) : Option Nat :=
  (s.move.chunks.find? (fun e => match e.2 with | some c => c.did == did && !c.split | none => false)).map (·.1)

/-- The lowest-addressed split chunk of a DID with a free page. -/
def poolSplit (s : State) (did : Nat) : Option Nat :=
  (s.move.chunks.find? (fun e => match e.2 with
    | some c => c.did == did && c.split && decide (c.used.length < 512)
    | none => false)).map (·.1)

/-- The device page number (address / 4 KiB) that an allocation would take (08 R230). -/
def poolPick (s : State) (did : Nat) (huge : Bool) : Option Nat :=
  if huge then (poolWhole s did).map (· * 512)
  else match poolSplit s did with
    | some n => (getChunk s n).bind (fun c => (chunkPage c).map (fun p => n * 512 + p))
    | none => (poolWhole s did).map (· * 512)

/-- Take a page out of its pool: a whole chunk leaves the pool, a 4 KiB page becomes used (08 R230). -/
def poolTakePage (huge : Bool) (page : Nat) (s : State) : State :=
  let n := page / 512
  if huge then setChunk n none s
  else match getChunk s n with
    | some c => setChunk n (some { c with split := true, used := insNat c.used (page % 512) }) s
    | none => s

/-- A chunk after a page becomes free: with all pages free it is whole again (08 R230). -/
def chunkGive (p : Nat) (c : Chunk) : Chunk :=
  let u := c.used.filter (fun x => x != p)
  if u.isEmpty then { c with split := false, used := [] } else { c with used := u }

def countOverflow (s : State) : State := { s with move := { s.move with overflow := sat64 s.move.overflow } }

/-- A page returns to its DID's pool (08 R245). A chunk pooled under another DID takes no page (log entry 35). -/
def poolGive (did : Nat) (huge : Bool) (page : Nat) (s : State) : State :=
  let n := page / 512
  match getChunk s n with
  | some c =>
    if c.did ≠ did || huge then countOverflow s
    else if c.split then setChunk n (some (chunkGive (page % 512) c)) s else s
  | none =>
    if chunksFull s then countOverflow s
    else if huge then setChunk n (some ⟨did, false, []⟩) s
    else setChunk n (some ⟨did, true, (List.range 512).filter (fun p => p != page % 512)⟩) s

/-- POOL_ADD: chunks added in ascending order until one overlaps or finds the table full; the number added
(08 R231). -/
def poolAdd (did : Nat) : Nat → Nat → State → Nat × State
  | _, 0, s => (0, s)
  | n, k + 1, s =>
    if (getChunk s n).isSome || chunksFull s then (0, s)
    else
      let r := poolAdd did (n + 1) k (setChunk n (some ⟨did, false, []⟩) s)
      (r.1 + 1, r.2)

/-- POOL_TAKE removes the whole chunks of a DID in `k` chunks from chunk `n` on; the number removed (08 R231). -/
def poolRemove (did n k : Nat) (s : State) : Nat × State :=
  let hit := fun (e : Nat × Option Chunk) => decide (n ≤ e.1) && decide (e.1 < n + k) && (match e.2 with
    | some c => c.did == did && !c.split
    | none => false)
  ((s.move.chunks.filter hit).length,
   { s with move := { s.move with chunks := s.move.chunks.filter (fun e => !(hit e)) } })

/-! ## Job status (08 R228) -/

def J_DENIED : Nat := 0x30
def J_UNMAPPED : Nat := 0x31
def J_TARGET : Nat := 0x32
def J_STALLED : Nat := 0x33
def J_CANCELLED : Nat := 0x34
def J_POOL : Nat := 0x35
def J_DEST : Nat := 0x36
def J_SOURCE : Nat := 0x37
def J_DOMAIN : Nat := 0x38

/-- Write a status record, if an address is given (08 R228). FLAGS: bit 15 VALID, bit 1 MIGRATION, bit 0
POISON_SEEN. -/
def statusRecord (f : Fn) (addr tag status : Nat) (mig : Bool) (done firstBad poison : Nat) (s : State) : State :=
  if addr = 0 then s
  else hostWrite ⟨f, .status, addr,
    [pack [(tag % 2 ^ 32, 0), (status, 32), (b2n (decide (0 < poison)) + 2 * b2n mig + 0x8000, 48)], w64 done,
     w64 (if poison = 0 then 0 else firstBad), w64 poison]⟩ s

/-- The job-done event: the class's line for a manager's job, a JOB_DONE entry for a tenant's (08 R228, 12 R346,
13 R351). -/
def jobEvent (f : Fn) (cls tag status : Nat) (s : State) : State :=
  match f with
  | .pf => eventEdge (96 + cls) s
  | .vf v => vfEvent v 1 tag (w64 status) s

/-- A function whose memory the switch does not write: a VF in a Function Level Reset (12 R338). -/
def fnSilent (s : State) : Fn → Bool
  | .pf => false
  | .vf v => (getVf s v).flr

/-- Report a job's end: its record, then its event (08 R228). -/
def reportJob (f : Fn) (cls : Nat) (ev : Bool) (addr tag status done firstBad poison : Nat) (s : State) : State :=
  if fnSilent s f then s else
  let s1 := statusRecord f addr tag status false done firstBad poison s
  if ev then jobEvent f cls tag status s1 else s1

/-! ## Jobs that end (08 R227-R229) -/

/-- Lines of a job in flight on any mover. -/
def jobLines (s : State) (id : Nat) : List MoverLine :=
  (s.move.movers.map (fun e => e.2.lines.filter (fun l => l.job == id))).flatten

/-- Where a job is held now: by a mover, or in a class's queue. -/
def jobMover (s : State) (id : Nat) : Option Nat :=
  (s.move.movers.find? (fun e => match e.2.job with | some j => j.id == id | none => false)).map (·.1)

def jobClass (s : State) (id : Nat) : Option Nat :=
  match jobMover s id with
  | some m => some (getMover s m).owner
  | none => (s.move.classes.find? (fun e => e.2.queue.any (fun j => j.id == id))).map (·.1)

/-- The job itself. -/
def findJob (s : State) (id : Nat) : Option Job :=
  match jobMover s id with
  | some m => (getMover s m).job
  | none => s.move.classes.findSome? (fun e => e.2.queue.find? (fun j => j.id == id))

/-- Change a job where it is held. -/
def updJob (id : Nat) (f : Job → Job) (s : State) : State :=
  match jobMover s id with
  | some m => setMover m { getMover s m with job := (getMover s m).job.map f } s
  | none =>
    match jobClass s id with
    | some c => setClass c { getClass s c with queue := (getClass s c).queue.map (fun j => if j.id = id then f j else j) } s
    | none => s

/-- The mover goes on with its class's next job under the same grant, or is free (08 R234). -/
def nextOnMover (m : Nat) (s : State) : State :=
  let x := getMover s m
  let s1 := setMover m { x with job := none } s
  if decide (x.grantBytes < 2 ^ x.burst) && classWork s1 x.owner && !(getClass s1 x.owner).stuck
      && (getClass s1 x.owner).groups.getLsbD (m / 8)
  then takeJob x.owner m s1
  else setMover m { x with job := none, state := .idle, grantBytes := 0 } s1

/-- Take a job out of wherever it is held; its mover goes on. -/
def dropJob (id : Nat) (s : State) : State :=
  match jobMover s id with
  | some m => settleCredits (nextOnMover m s)
  | none =>
    match jobClass s id with
    | some c => settleCredits (setClass c { getClass s c with queue := (getClass s c).queue.filter (fun j => j.id != id) } s)
    | none => s

/-- A job ends with a status: its class counts it, its mover goes on, its record and event are written (08 R228,
R250). -/
def endJob (j : Job) (c status done : Nat) (s : State) : State :=
  let x := getClass s c
  let s1 := dropJob j.id (setClass c { x with jobsDone := sat64 x.jobsDone } s)
  reportJob j.submitter c j.event j.statusAddr j.tag.toNat status done j.firstBad j.poisonLines s1

/-- End a job once no line of it is in flight and it has failed or issued every line (08 R229). -/
def tryEndJob (id : Nat) (s : State) : State :=
  match findJob s id, jobClass s id with
  | some j, some c =>
    if !(jobLines s id).isEmpty then s
    else match j.kind, j.failed with
      | .copyPage _, _ => s
      | .capture, _ => s
      | _, some (off, st) => endJob j c st off s
      | _, none => if j.length ≤ j.next then endJob j c 0 j.length s else s
  | _, _ => s

/-- A job is stopped: it issues nothing more and ends with CANCELLED once its lines have completed (08 R248, 12
R337). -/
def cancelJob (id : Nat) (s : State) : State :=
  tryEndJob id (updJob id (fun j => { j with failed := some (j.failed.getD (j.next, J_CANCELLED)) }) s)

/-! ## Migration states (08 R242-R247) -/

/-- Lines of a page: 64 or 32,768. -/
def pageLines (huge : Bool) : Nat := if huge then 32768 else 64

/-- The copy job of migration slot `k`, if it is queued or held. -/
def copyJobId (s : State) (k : Nat) : Option Nat :=
  match s.move.movers.findSome? (fun e => e.2.job.bind (fun j => if j.kind == .copyPage k then some j.id else none)) with
  | some id => some id
  | none => s.move.classes.findSome? (fun e => (e.2.queue.find? (fun j => j.kind == .copyPage k)).map (·.id))

/-- The line's write has been sent (08 R237, R246). -/
def lineSent (l : MoverLine) : Bool :=
  match l.stage with
  | .writing _ => true
  | .ended wrote _ => wrote
  | _ => false

/-- Abandon the lines of a list that `p` picks, but for those whose write has been sent: these complete by themselves
(08 R237, R246). -/
def abandon (p : MoverLine → Bool) (l : List MoverLine) : List MoverLine :=
  l.filterMap (fun x => if p x then (if lineSent x then some { x with left := true } else none) else some x)

/-- Abandon the lines of a job. -/
def dropLines (id : Nat) (s : State) : State :=
  let f := fun (x : Mover) => { x with lines := abandon (fun l => l.job == id) x.lines }
  { s with move := { s.move with movers := tmapAll Mover.reset f (tkeys s.move.movers) s.move.movers } }

/-- The copy of a migration stops: its job ends, and its lines whose write has not been sent are abandoned. -/
def stopCopy (k : Nat) (s : State) : State :=
  match copyJobId s k with
  | some id => dropJob id (dropLines id s)
  | none => s

/-- A migration goes to UNDO with a status (08 R243). -/
def undoMig (k status : Nat) (s : State) : State :=
  match getMig s k with
  | none => s
  | some m =>
    if m.state == .settle || m.state == .undo then s
    else setMig k (some { m with state := .undo, undoStatus := status, gen := none }) (stopCopy k s)

def undoMigs (status : Nat) : List Nat → State → State
  | [], s => s
  | k :: ks, s => undoMigs status ks (undoMig k status s)

/-- The migrations that satisfy `p`. -/
def migsOf (s : State) (p : Migration → Bool) : List Nat :=
  (s.move.migs.filter (fun e => match e.2 with | some m => p m | none => false)).map (·.1)

/-- A migration ends: the record with MIGRATION set, the event of its class, and the second result of a proposal
(07 R213; 08 R228, R239, R240). -/
def endMig (k status : Nat) (s : State) : State :=
  match getMig s k with
  | none => s
  | some m =>
    let s1 := setMig k none s
    let s2 := statusRecord .pf m.statusAddr m.tag.toNat status true (64 * m.copied.length) m.firstBad m.poisonLines s1
    let s3 := if m.event then eventEdge (96 + m.cls) s2 else s2
    match m.proposal with
    | some p => propResult p status true (w64 (m.destPfn * 4096)) s3
    | none => s3

/-- A generation for migrations: stamped at once by every ingress (05 R152, 08 R244; log entry 24). -/
def mapSwap (h : Nat) (m : Tbl Region) (s : State) : State :=
  let s1 := mapPublish none h m s
  let x := getHost s1 h
  setHost h { x with map := genPurge { x.map with stamping := x.map.current } } s1

/-- The entry that the map carries for the migration's page in its present state (08 R243). -/
def migEntry (m : Migration) : MapEnt :=
  match m.state with
  | .mark => { m.oldEnt with migrating := true }
  | .swap => { m.oldEnt with migrating := false, did := m.destDid, pfn := m.destPfn }
  | _ => { m.oldEnt with migrating := false }

/-- The migration waits for a generation of its host's map. -/
def wantsGen (h : Nat) (m : Migration) : Bool :=
  m.host == h && (m.state == .mark || m.state == .swap || (m.state == .undo && m.gen.isNone))

/-- Write the entries of the migrations listed into a map. -/
def migPuts (s : State) (t : WinTable) : List Nat → Tbl Region → Tbl Region
  | [], r => r
  | k :: ks, r =>
    migPuts s t ks (match getMig s k with
      | some m => if inAperture t m.page then mapPut (m.page - aperPage t) (migEntry m) r else r
      | none => r)

/-- The states after the generation `g` is committed (08 R243). -/
def migNext (g : Nat) : List Nat → State → State
  | [], s => s
  | k :: ks, s =>
    migNext g ks (match getMig s k with
      | some m =>
        match m.state with
        | .mark => setMig k (some { m with state := .fence, gen := some g }) s
        | .swap => markSwapped m.host m.page (if m.huge then 512 else 1)
            (setMig k (some { m with state := .settle, gen := some g }) s)
        | _ => setMig k (some { m with gen := some g }) s
      | none => s)

/-- All generation changes that migrations need on one host's map, as one increment; a fifth resident generation is
waited for (08 R243, R244). -/
def commitMigs (h : Nat) (s : State) : State :=
  let ks := migsOf s (wantsGen h)
  if ks.isEmpty || genFull (getHost s h).map then s
  else
    let s1 := mapSwap h (migPuts s (winNow s h) ks (mapNow s h)) s
    migNext (getHost s1 h).map.current ks s1

/-- The copy job of a migration, queued ahead of its class's unstarted jobs (08 R243). -/
def queueCopy (k : Nat) (m : Migration) (s : State) : State :=
  let j : Job := { captureJob s.move.nextJob with kind := .copyPage k, length := 64 * pageLines m.huge, started := false }
  let x := getClass s m.cls
  let gs := newGroups s m.cls
  preemptGroups gs (setClass m.cls { x with
      queue := x.queue.filter (fun q => q.started) ++ j :: x.queue.filter (fun q => !q.started) }
    { s with move := { s.move with nextJob := s.move.nextJob + 1 } })

/-- The lines of a page that its copy has in flight, those of a stopped or revoked copy among them (08 R242, R246). -/
def copyingLines (s : State) (k : Nat) : List Nat :=
  (s.move.movers.flatMap (fun e => e.2.lines.filter (fun l => l.mig == some k))).map (fun l => l.off / 64)

/-- A request holds the block of this line of a migrating page (08 R242). -/
def lineHeld (s : State) (k line : Nat) : Bool := s.gh.waits.any (fun w => w.line == some (k, line))

/-- The lowest line of the page that is neither copied nor being copied. -/
def nextCopyLine (s : State) (k : Nat) (m : Migration) : Option Nat :=
  let busy := copyingLines s k
  (List.range (pageLines m.huge)).find? (fun l => !(m.copied.contains l) && !(busy.contains l))

/-- A copied line: the page goes to SWAP after its last one (08 R242, R243, R246). -/
def lineCopied (k line : Nat) (poison : Bool) (s : State) : State :=
  match getMig s k with
  | none => s
  | some m =>
    if m.state != .copy then s
    else
      let first := if m.poisonLines = 0 then m.oldEnt.pfn * 4096 + 64 * line else min m.firstBad (m.oldEnt.pfn * 4096 + 64 * line)
      let m1 := { m with
        copied := insNat m.copied line,
        poisonLines := if poison then satAdd 32 m.poisonLines 1 else m.poisonLines,
        firstBad := if poison then first else m.firstBad }
      if m1.copied.length = pageLines m.huge
      then setMig k (some { m1 with state := .swap }) (stopCopy k s)
      else setMig k (some m1) s

/-! ## A decision (08 R234; 15 R394) -/

/-- The job slot of job `j` is uncorrectable: the job ends with TARGET_ERROR; a page copy fails its migration. -/
def loseJob (j : Job) (s : State) : State :=
  match j.kind with
  | .copyPage k => undoMig k J_TARGET s
  | _ => tryEndJob j.id (updJob j.id (fun x => { x with failed := some (x.failed.getD (x.next, J_TARGET)) }) s)

/-- A decision point of an idle mover; `ecc` is what reading the job slot of the winner's next job meets. -/
def decideRead (m : Nat) (ecc : Ecc) (s : State) : State :=
  if (getMover s m).state != .idle then s
  else
    let s1 := adoptAll s
    match winner s1 (m / 8) with
    | none => decideMover m s1
    | some c =>
      match if captureWork s1 c then none else nextJob s1 c, ecc with
      | some _, .corrected => decideMover m (pulse 12 (unitCode 4 m) none none s1)
      | some j, .uncorrectable => loseJob j (pulse 14 (unitCode 4 m) none none s1)
      | _, _ => decideMover m s1

def execMoverDecision (m : Nat) (ecc : Ecc) (s : State) : Out := inUnit "mover" m 64 (.next (decideRead m ecc s))

/-! ## The watchdog (08 R237, R238, R247) -/

/-- The lowest offset of a job that is not complete: of its lines in flight, its failing line and its next line (08 R229). -/
def lowestLine (s : State) (j : Job) : Nat :=
  (jobLines s j.id).foldl (fun a l => min a l.off) (min j.next ((j.failed.map (·.1)).getD j.next))

/-- What happens to the job whose grant is revoked. -/
def revokeJob (c : Nat) (j : Job) (s : State) : State :=
  match j.kind with
  | .capture =>
    { s with cap := { s.cap with lost := satAdd 64 s.cap.lost s.cap.buffer.length, buffer := [],
                                 lostBefore := s.cap.lostBefore || !s.cap.buffer.isEmpty } }
  | .copyPage k =>
    match getMig s k with
    | none => s
    | some mg =>
      let s1 := requeue c j (setMig k (some { mg with revoked := mg.revoked + 1 }) s)
      if 3 ≤ mg.revoked + 1 then undoMig k J_STALLED s1 else s1
  | _ =>
    let s1 := requeue c j s
    endJob j c J_STALLED (lowestLine s j) (setClass c { getClass s1 c with stuck := true } s1)

/-- The watchdog revokes a grant: reads in flight are abandoned, writes sent complete by themselves, and the mover
restarts (08 R237). -/
def revoke (m : Nat) (s : State) : State :=
  let x := getMover s m
  if x.state != .granted then s
  else
    let s1 := setMover m { x with state := .restarting, job := none, grantBytes := 0, restarts := satAdd 32 x.restarts 1 } s
    let s2 := match x.job with
      | some j => revokeJob x.owner j s1
      | none => s1
    let y := getMover s2 m
    settleCredits (assertLine 22 (unitCode 4 m) none none
      (setMover m { y with lines := abandon (fun _ => true) y.lines }
        { s2 with move := { s2.move with stalls := sat64 s2.move.stalls } }))

/-- A mover's restart ends: it is free again and the line drops (08 R237). -/
def restartDone (m : Nat) (s : State) : State :=
  let x := getMover s m
  if x.state == .restarting then dropLine 22 (unitCode 4 m) (setMover m { x with state := .idle } s) else s

def execMoverRestartDone (m : Nat) (s : State) : Out := inUnit "mover" m 64 (.next (restartDone m s))

/-! ## MOVE_SUBMIT (08 R224-R226, 12 R341) -/

/-- The words of descriptor `i`. -/
def moveWords (ws : List Word) (i : Nat) : List Word := (List.range 8).map (fun j => nth ws (8 * i + j))

/-- The used values of a descriptor: kind, spaces, selectors, addresses, length, status address (08 R224). -/
structure MoveUse where
  kind : Nat
  srcSpace : Nat
  dstSpace : Nat
  srcSel : Nat
  dstSel : Nat
  src : Nat
  dst : Nat
  length : Nat
  statusAddr : Nat

def moveKind (w : List Word) : Nat := clampNat (fld (nth w 0) 7 0) 1 5
def usesSrc (k : Nat) : Bool := k == 1 || k == 3
def usesDst (k : Nat) : Bool := k == 1 || k == 2
def isPool (k : Nat) : Bool := k == 4 || k == 5

/-- The largest legal selector of a space (08 R224). -/
def selMax (space : Nat) : Nat := if space = 1 then 63 else if space = 2 then 4095 else 0

/-- LENGTH used: down to the multiple, then into the range (08 R224). -/
def moveLength (k : Nat) (n : Nat) : Nat :=
  let unit := if isPool k then 2097152 else 64
  clampNat (n / unit * unit) unit (2 ^ 40)

def moveUse (w : List Word) : MoveUse :=
  let k := moveKind w
  let ss := if k = 3 then 2 else min 2 (fld (nth w 0) 17 16)
  let ds := min 2 (fld (nth w 0) 25 24)
  { kind := k, srcSpace := ss, dstSpace := ds,
    srcSel := min (fld (nth w 0) 47 32) (selMax ss),
    dstSel := min (fld (nth w 0) 63 48) (if isPool k then 4095 else selMax ds),
    src := (nth w 1).toNat / 64 * 64,
    dst := if isPool k then (nth w 2).toNat / 2097152 * 2097152 else (nth w 2).toNat / 64 * 64,
    length := moveLength k (nth w 3).toNat,
    statusAddr := (nth w 5).toNat / 32 * 32 }

/-- One clamp in descriptor `i`, word `n`. -/
def moveClamp (i n hi lo w u : Nat) (on : Bool) : List FieldClamp :=
  if w = u || !on then [] else [⟨32, true, 64 * i + 8 * n, hi, lo, w, u⟩]

/-- The clamps of descriptor `i`, for the fields that its kind uses (08 R224). -/
def moveClamps (i : Nat) (w : List Word) : List FieldClamp :=
  let u := moveUse w
  let k := u.kind
  moveClamp i 0 7 0 (fld (nth w 0) 7 0) k true
    ++ moveClamp i 0 17 16 (fld (nth w 0) 17 16) u.srcSpace (usesSrc k)
    ++ moveClamp i 0 25 24 (fld (nth w 0) 25 24) u.dstSpace (usesDst k)
    ++ moveClamp i 0 47 32 (fld (nth w 0) 47 32) u.srcSel (usesSrc k)
    ++ moveClamp i 0 63 48 (fld (nth w 0) 63 48) u.dstSel (usesDst k || isPool k)
    ++ moveClamp i 1 5 0 (fld (nth w 1) 5 0) 0 (usesSrc k)
    ++ moveClamp i 2 5 0 (fld (nth w 2) 5 0) 0 (usesDst k)
    ++ moveClamp i 2 20 0 (fld (nth w 2) 20 0) 0 (isPool k)
    ++ moveClamp i 3 63 0 (nth w 3).toNat u.length true
    ++ moveClamp i 5 4 0 (fld (nth w 5) 4 0) 0 true

/-- The job that a descriptor spells. -/
def jobOf (f : Fn) (id : Nat) (w : List Word) : Job :=
  let u := moveUse w
  { id := id, kind := if u.kind = 1 then .copy else if u.kind = 2 then .fill else .scrub, submitter := f,
    fence := bit (nth w 0) 8, event := bit (nth w 0) 9, srcSpace := u.srcSpace, dstSpace := u.dstSpace,
    srcSel := u.srcSel, dstSel := u.dstSel, src := u.src, dst := u.dst, length := u.length, pattern := nth w 4,
    statusAddr := u.statusAddr, tag := BitVec.ofNat 32 (fld (nth w 6) 31 0), next := 0, poisonLines := 0, firstBad := 0,
    started := false, failed := none }

/-- A tenant may not submit this descriptor (08 R226, 12 R341). -/
def moveDenied (host : Nat) (w : List Word) : Bool :=
  let u := moveUse w
  decide (3 ≤ u.kind)
    || (usesSrc u.kind && (u.srcSpace == 2 || (u.srcSpace == 1 && u.srcSel != host)))
    || (usesDst u.kind && (u.dstSpace == 2 || (u.dstSpace == 1 && u.dstSel != host)))

/-- A job of a descriptor: not a page copy or a capture. -/
def isJob (j : Job) : Bool := j.kind == .copy || j.kind == .fill || j.kind == .scrub

/-- Jobs queued in a class (08 R250). -/
def queuedJobs (x : MoveClass) : Nat := (x.queue.filter isJob).length

/-- Job slots in use: queued and running jobs of the switch (08 R226). -/
def jobSlotsUsed (s : State) : Nat :=
  s.move.classes.foldl (fun a e => a + queuedJobs e.2) 0
    + (s.move.movers.filter (fun e => match e.2.job with | some j => isJob j | none => false)).length

/-- Queued jobs of a VF (12 R334). -/
def vfJobs (s : State) (v : Nat) : Nat :=
  s.move.classes.foldl (fun a e => a + (e.2.queue.filter (fun j => j.submitter == .vf v && isJob j)).length) 0

/-- Apply one pool descriptor (08 R231). -/
def applyPool (cls : Nat) (f : Fn) (w : List Word) (s : State) : State :=
  let u := moveUse w
  let n := u.dst / 2097152
  let k := u.length / 2097152
  let r := if u.kind = 4 then poolAdd u.dstSel n k s else poolRemove u.dstSel n k s
  let st := if u.kind = 4 && decide (r.1 < k) then J_POOL else 0
  reportJob f cls (bit (nth w 0) 9) u.statusAddr (fld (nth w 6) 31 0) st (r.1 * 2097152) 0 0 r.2

def applyPools (cls : Nat) (f : Fn) : List (List Word) → State → State
  | [], s => s
  | w :: ws, s => applyPools cls f ws (if isPool (moveKind w) then applyPool cls f w s else s)

/-- Queue the other descriptors as jobs, in array order. -/
def queueJobs (cls : Nat) (f : Fn) : List (List Word) → State → State
  | [], s => s
  | w :: ws, s =>
    queueJobs cls f ws (if isPool (moveKind w) then s
      else
        let x := getClass s cls
        let s1 := { s with move := { s.move with nextJob := s.move.nextJob + 1 } }
        setClass cls { x with queue := x.queue ++ [jobOf f s.move.nextJob w] } s1)

/-- The clamps of every descriptor. -/
def moveAllClamps : Nat → List (List Word) → List FieldClamp
  | _, [] => []
  | i, w :: ws => moveClamps i w ++ moveAllClamps (i + 1) ws

/-- The function whose host memory a command's records go to. -/
def issuerFn (c : SeqCmd) : Fn :=
  match issuerVf c with
  | some v => .vf v
  | none => .pf

/-- A tenant's descriptor is refused, or its jobs exceed JOBS_MAX. -/
def tenantMoveBad (s : State) (c : SeqCmd) (ds : List (List Word)) : Bool :=
  match issuerVf c with
  | some v => ds.any (moveDenied (getVf s v).host)
  | none => false

def tenantJobsOver (s : State) (c : SeqCmd) (n : Nat) : Bool :=
  match issuerVf c with
  | some v => decide ((getVf s v).jobsMax < vfJobs s v + n)
  | none => false

/-- MOVE_SUBMIT (08 R226). -/
def submitBody (data : ReadData) (c : SeqCmd) (s : State) : CmdOut :=
  let cls := objIndex c.desc.objectId % 64
  let count := used c.desc.arg1 6 0 1 64
  withData data s fun ws =>
    let ds := (List.range count).map (moveWords ws)
    let n := (ds.filter (fun w => !(isPool (moveKind w)))).length
    let x := getClass s cls
    if tenantMoveBad s c ds then .fail NOT_PERMITTED s
    else if x.stuck then .fail PRECONDITION s
    else if x.queueMax < queuedJobs x + n || Config.jobSlots < jobSlotsUsed s + n || tenantJobsOver s c n
    then .fail NO_RESOURCE s
    else
      let f := issuerFn c
      let s1 := applyPools cls f ds s
      let gs := newGroups s1 cls
      .done (w64 n) (argClamps c.desc [(1, 6, 0, 1, 64)] ++ moveAllClamps 0 ds)
        (preemptGroups gs (queueJobs cls f ds s1))

/-- ARB_CLASS_SET (08 R232, R238): the settings wait for the next decision point, which is now where a mover is free. -/
def classFields : List FieldSpec :=
  [(0, 7, 0, 1, 255), (0, 12, 8, 12, 24), (0, 20, 16, 12, 24), (0, 27, 24, 1, 8), (0, 39, 32, 1, 255), (1, 13, 0, 1, 4096),
   (1, 31, 20, 10, 4000)]

/-- Some mover is free: a decision point (08 R234). -/
def someFree (s : State) : Bool := (List.range 64).any (fun m => (getMover s m).state == .idle)

/-- The groups in which class `k` requests in `t` and did not in `s`. -/
def startsIn (s t : State) (k : Nat) : List Nat := (List.range 8).filter (fun g => requesting t k g && !(requesting s k g))

def classBody (c : SeqCmd) (s : State) : CmdOut :=
  let k := objIndex c.desc.objectId % 64
  let a := c.desc.arg0
  let b := c.desc.arg1
  let x := getClass s k
  let cfg : ClassCfg := ⟨used a 7 0 1 255, used a 12 8 12 24, used a 20 16 12 24, used a 27 24 1 8,
    BitVec.ofNat 8 (used a 39 32 1 255), used b 13 0 1 4096, used b 31 20 10 4000⟩
  let s1 := setClass k { x with next := some cfg, stuck := x.stuck && !(bit b 16) } s
  let s2 := if someFree s1 then adoptAll s1 else s1
  .done 0 (argClamps c.desc classFields) (settleCredits (preemptGroups (startsIn s s2 k) s2))

def execArbClassSet (seq : Nat) (s : State) : Out := .next (runOp 0x5003 anyDesc true classBody seq s)

/-! ## Reading the pools and maps from a sprig (07 R207) -/

/-- MAPRD: the committed current map entry of host ra[5:0] at address rb. -/
def mapRead (s : State) (h : Nat) (addr : Nat) : Word :=
  let t := winNow s h
  let page := addr / 4096
  if inAperture t page then
    let e := mapLookup (mapNow s h) (page - aperPage t)
    if e.valid then mapEntWord e else 0
  else 0

def execMaprd (slot rd ra rb : Nat) (s : State) : Out :=
  inUnit "Sage slot" slot 32 (.next (
    if slotRuns s slot 0x74 (some rd) (some ra) (some rb) none then
      retireInstr slot rd
        (mapRead s (fld (greg (getSlot s slot) ra) 5 0) (greg (getSlot s slot) rb).toNat) s
    else s))

def execPoolrd (slot rd ra : Nat) (s : State) : Out :=
  inUnit "Sage slot" slot 32 (.next (
    if slotRuns s slot 0x75 (some rd) (some ra) none none
    then retireInstr slot rd (w64 (poolPages s (fld (greg (getSlot s slot) ra) 11 0))) s else s))

end Sys2Proof.Machine
end

