-- ==== Sys2Proof/Machine/Home.lean ====
section
/-! DEFINITION. The fabric home: the directory, its transactions, ageing and eviction (06 R161-R188). -/

namespace Sys2Proof.Machine

/-! ## Domains (06 R161-R171) -/

/-- Bytes of a 2 MiB unit. -/
def twoMiB : Nat := 2097152

/-- The smallest g of 1-4 with n ≤ 64 × 2^g; 0 in exact mode (06 R165). -/
def groupLog2 (d : Domain) : Nat :=
  let n := d.participants.length
  if n ≤ 64 then 0 else if n ≤ 128 then 1 else if n ≤ 256 then 2 else if n ≤ 512 then 3 else 4

/-- The sharer-vector bit of a participant (06 R165). -/
def vecBit (d : Domain) (p : Nat) : Nat := p / 2 ^ groupLog2 d

/-- The participant index of a host (06 R163). -/
def participantOf (d : Domain) (sw host : Nat) : Option Nat := d.participants.findIdx? (fun x => x == (sw, host))

/-- The domain offset of a device address at a switch's DID, if a range of `l` covers it (06 R163, R169). -/
def rangeOffset : List DomRange → Nat → Nat → Nat → Nat → Option Nat
  | [], _, _, _, _ => none
  | r :: rs, sw, did, addr, base =>
    if r.switch == sw && r.did == did && decide (r.base ≤ addr) && decide (addr < r.base + r.size)
    then some (base + addr - r.base) else rangeOffset rs sw did addr (base + r.size)

/-- The domain and offset that an access falls into (06 R169). -/
def domainOf (s : State) (sw did addr : Nat) : Option (Nat × Nat) :=
  s.dir.domains.findSome? (fun e =>
    if e.2.defined then (rangeOffset e.2.ranges sw did addr 0).map (fun o => (e.1, o)) else none)

/-- The expander's switch, DID and device address of a domain offset (06 R163). -/
def rangeTarget : List DomRange → Nat → Option (Nat × Nat × Nat)
  | [], _ => none
  | r :: rs, o => if o < r.size then some (r.switch, r.did, r.base + o) else rangeTarget rs (o - r.size)

/-- DLA (06 R172). -/
def dlaOf (d off : Nat) : Nat := d * 2 ^ 40 + off / 64

def dlaDomain (dla : Nat) : Nat := dla / 2 ^ 40
def dlaOffset (dla : Nat) : Nat := dla % 2 ^ 40 * 64

/-- The home switch of a domain offset (06 R171). -/
def homeOf (d : Domain) (off : Nat) : Nat := d.homes.getD (off / 2 ^ d.granLog2 % d.homes.length) 0

/-- S of R173. -/
def dirBits (s : State) : Nat := if s.glb.variant == .c24 then 26 else 27

/-- The set of a line (06 R173). -/
def dirSet (s : State) (dla : Nat) : Nat :=
  (dla % 2 ^ dirBits s) ^^^ (dlaDomain dla * 2 ^ (dirBits s - 6) % 2 ^ dirBits s)

/-- The lines with an entry in a set. -/
def setLines (s : State) (set : Nat) : List (Nat × DirLine) :=
  s.dir.lines.filter (fun e => e.2.hasWay && dirSet s e.1 == set)

/-- Participants that a vector names, cut-off ones left out (06 R165, R178, R185). -/
def vectorParts (d : Domain) (v : Word) : List Nat :=
  (List.range d.participants.length).filter (fun p => v.getLsbD (vecBit d p) && !(d.cut.contains p))

/-- The holders of a line (06 R178). -/
def holders (d : Domain) (x : DirLine) : List Nat :=
  match x.state with
  | .I => []
  | .S => vectorParts d x.vector
  | .EM => if d.cut.contains x.owner then [] else [x.owner]

/-- Every participant that is not cut off. -/
def allParts (d : Domain) : List Nat := (List.range d.participants.length).filter (fun p => !(d.cut.contains p))

def withDir (f : Directory → Directory) (s : State) : State := { s with dir := f s.dir }

/-- The unit that reports a directory fault: the line's lookup slice (15 R401). -/
def dirUnit (dla : Nat) : Nat := unitCode 12 (Config.sliceHash (dlaDomain dla) dla % 16)

/-! ## Messages of the home -/

/-- The egress toward a host: its port here, or the link toward its switch (06 R177, R178; log entry 7). -/
def hostEgress (s : State) (sw host : Nat) : Option Nat :=
  if sw = s.glb.switchId then some (Config.hostPort host) else (linkToward s sw).map (· + 112)

/-- The queue of the request that a home transaction serves, 0 for one that no request causes (04 R115). -/
def homeQueue (s : State) (r : HomeReq) : Nat :=
  match s.gh.waits.find? (fun w => w.id == r.tag && w.ingress == r.source) with
  | some w => w.queue
  | none => 0

/-- An account that a transaction is charged to: an ingress and a flow-control class (04 R111, R113). -/
abbrev Acct := Nat × Nat

/-- The account of the messages that the switch itself makes: the internal endpoint's completion share (log entry 100). -/
def selfAcct : Acct := (128, 2)

/-- The account of a request that waits here: what the home forwards for it is charged as the request was (04 R111). -/
def reqAcct (s : State) (r : HomeReq) : Acct :=
  match s.gh.waits.find? (fun w => w.id == r.tag && w.ingress == r.source) with
  | some w => (w.ingress, reqFcc w.ingress w.rtag w.kind)
  | none => selfAcct

/-- Send a message of the home, charged to account `a`. -/
def homeMsg (a : Acct) (e q bytes : Nat) (dst : Option (Nat × Nat)) (b : Body) (s : State) : State :=
  launch false { newTxn s a.1 e q bytes a.2 s.gh.route.stamping false b with dest := dst, srcIngress := 128 } s

/-- Send one snoop (06 R178); a switch without a working link is not reached and does not answer. -/
def sendSnoop (k : Snoop) (dla q p : Nat) (s : State) : State :=
  let h := (getDomain s (dlaDomain dla)).participants.getD p (0, 0)
  let s1 := withDir (fun d => { d with bisnp := sat64 d.bisnp }) s
  match hostEgress s h.1 h.2 with
  | some e => homeMsg selfAcct e q 0 (if h.1 = s.glb.switchId then none else some (h.1, h.2)) (.snoop k dla p) s1
  | none => s1

def sendSnoops (k : Snoop) (dla q : Nat) : List Nat → State → State
  | [], s => s
  | p :: ps, s => sendSnoops k dla q ps (sendSnoop k dla q p s)

/-- Where an access to the expander leaves: its egress and, over a link, its destination; none where it ends as
toward a port that is down (06 R164, R170; 03 R79). -/
def expanderEgress (s : State) (dla : Nat) : Option (Nat × Option (Nat × Nat)) :=
  match rangeTarget (getDomain s (dlaDomain dla)).ranges (dlaOffset dla) with
  | none => none
  | some (sw, did, _) =>
    if sw = s.glb.switchId then
      let e := didEntry s s.gh.route.stamping did
      let p := fld e 9 2
      if bit e 0 && (decide (112 ≤ p) || ((getPort s p).linkUp && (getPort s p).device == .hdmH)) then some (p, none) else none
    else (linkToward s sw).map (fun l => (l + 112, some (sw, did)))

/-- Send the home's grant of a request that waits: to its ingress, or back to its source switch with its tag. -/
def homeAnswer (a : Acct) (w : Wait) (bytes : Nat) (b : Body) (s : State) : State :=
  match w.remote with
  | none => homeMsg a w.ingress w.queue bytes none b s
  | some (sw, _, tag) =>
    match linkToward s sw with
    | some l =>
      launch false { newTxn s a.1 (112 + l) w.queue bytes a.2 s.gh.route.stamping false b with
        dest := some (sw, (takeFree s).1.toNat % 4096), tag := tag, srcIngress := 128 } (takeFree s).2
    | none => s

/-- Answer a request of the home, charged to account `a`: its wait ends, and the response goes to its source (06 R178, 04
R115). A posted write has no response; one from another switch is acknowledged to that switch, which keeps R184's order
there. -/
def homeReply (a : Acct) (r : HomeReq) (b : Body) (bytes : Nat) (s : State) : State :=
  match s.gh.waits.find? (fun w => w.id == r.tag && w.ingress == r.source) with
  | some w =>
    if r.posted then
      let s1 := hostDec w.host w.mapGen w.epoch (dropWait w.id s)
      if w.remote.isSome then forwardRsp 128 (waitBack w) .cmp [] [] s1 else s1
    else match b with
      | .rsp _ k data => answer a.1 w k data [] s
      | _ => homeAnswer a w bytes b (hostDec w.host w.mapGen w.epoch (dropWait w.id s))
  | none => if r.posted then s else homeMsg a r.source 0 bytes none b s

/-- How a request that waits at the home ends (03 R79; 06 R164). -/
def waitEnd (s : State) (r : HomeReq) : RspKind :=
  match s.gh.waits.find? (fun w => w.id == r.tag && w.ingress == r.source) with
  | some w => downFor w.ingress w.kind
  | none => .poison

/-- A request that is served keeps its cells no longer (06 R179). -/
def serveCells (r : HomeReq) (s : State) : State :=
  match s.gh.waits.find? (fun w => w.id == r.tag && w.ingress == r.source) with
  | some w =>
    freeWait w { s with gh := { s.gh with waits := s.gh.waits.map (fun x => if x.id == w.id then { x with cells := 0 } else x) } }
  | none => s

/-! ## Steps of a transaction (06 R175, R178) -/

def setTxn (dla : Nat) (t : HomeTxn) (s : State) : State := setLine dla { getLine s dla with txn := some t } s

/-- Send an access to the expander, charged as the request that it serves. -/
def expanderMsg (r : HomeReq) (e : Nat) (dst : Option (Nat × Nat)) (bytes : Nat) (b : Body) (s : State) : State :=
  homeMsg (reqAcct s r) e (homeQueue s r) bytes dst b s

/-- The write that a request brings, as it goes to the expander. -/
def writeBody (r : HomeReq) : Body := .homeWrite r.dla r.off r.len r.poison r.data

/-- The kinds whose acknowledgement is the requester's own (06 R175). -/
def ackedKind : HomeKind → Bool
  | .readS => true
  | .readOwn => true
  | .readI => true
  | .memInv => true
  | _ => false

/-- The expander of the line is not there: the request ends as toward a port that has gone down, and grants nothing (06
R164; 03 R79). -/
def homeFail (dla : Nat) (t : HomeTxn) (s : State) : State :=
  homeReply selfAcct t.req (.rsp false (waitEnd s t.req) []) 0
    (setTxn dla { t with phase := if ackedKind t.kind then .ack else .done, failed := true } s)

/-- What a transaction does once its snoops are answered and their writebacks complete (06 R178). -/
def homeProceed (dla : Nat) (t : HomeTxn) (s : State) : State :=
  match t.kind with
  | .evict => setTxn dla { t with phase := .done } s
  | _ =>
    match expanderEgress s dla with
    | none => homeFail dla t s
    | some (e, dst) =>
      match t.kind with
      | .memInv => homeReply selfAcct t.req (.grant true false none dla) 0 (setTxn dla { t with phase := .ack } s)
      | .ncWrite => expanderMsg t.req e dst (max 1 t.req.len) (writeBody t.req) (setTxn dla { t with phase := .expander } s)
      | _ => expanderMsg t.req e dst 0 (.homeRead dla) (setTxn dla { t with phase := .expander } s)

/-- Go on if nothing is waited for any more. -/
def homeAdvance (dla : Nat) (s : State) : State :=
  match (getLine s dla).txn with
  | some t => if t.phase == .snooping && t.waitSnoops.isEmpty && t.inner.isEmpty then homeProceed dla t s else s
  | none => s

/-- The snoops that a transaction begins with (06 R178, R186). `miss`: the lookup missed in a suspect set, and every
participant is asked. -/
def firstSnoops (d : Domain) (x : DirLine) (kind : HomeKind) (p : Option Nat) (miss : Bool) : Snoop × List Nat :=
  let others := fun (l : List Nat) => l.filter (fun h => p != some h)
  if miss then (.inv, allParts d)
  else
    match kind with
    | .readS => (.data, if x.state == .EM then others (holders d x) else [])
    | .readOwn => (.inv, others (holders d x))
    | .memInv => (.inv, others (holders d x))
    | .readI => (.cur, if x.state == .EM then others (holders d x) else [])
    | .ncRead => (.cur, if x.state == .EM then holders d x else [])
    | .ncWrite => (.inv, holders d x)
    | .evict => (.inv, holders d x)
    | _ => (.inv, [])

/-- The transaction of a line begins its snoops, or goes on at once. -/
def homeSnoop (dla : Nat) (t : HomeTxn) (s : State) : State :=
  let d := getDomain s (dlaDomain dla)
  let x := getLine s dla
  let miss := x.state == .I && s.dir.suspect.contains (dirSet s dla) && t.kind != .evict
  let f := firstSnoops d x t.kind t.req.participant miss
  homeAdvance dla (sendSnoops f.1 dla (homeQueue s t.req) f.2
    (setTxn dla { t with phase := .snooping, waitSnoops := f.2, snooped := f.2 } s))

/-- REPL_AGE at the events of R172: the line's becomes 0, every other way of its set not in state I gains 1. -/
def touch (dla : Nat) (s : State) : State :=
  let set := dirSet s dla
  let f := fun (e : Nat × DirLine) =>
    if e.1 = dla then (e.1, { e.2 with replAge := 0 })
    else if e.2.hasWay && e.2.state != .I && dirSet s e.1 == set then (e.1, { e.2 with replAge := min 7 (e.2.replAge + 1) })
    else e
  let lines := s.dir.lines.map f
  withDir (fun d => { d with lines := lines }) s

/-- The kinds that leave state I and so need a way (06 R174). -/
def needsWay : HomeKind → Bool
  | .readS => true
  | .readOwn => true
  | .memInv => true
  | _ => false

/-- Allocate a way to a line (06 R172, R174). -/
def giveWay (dla way : Nat) (s : State) : State :=
  touch dla (setLine dla { getLine s dla with hasWay := true, way := way } s)

/-- The entry with the highest REPL_AGE among those neither blocked nor reserved, the lowest way on a tie
(06 R183). -/
def oldest (l : List (Nat × DirLine)) : Option (Nat × DirLine) :=
  (l.filter (fun e => e.2.txn.isNone && !e.2.rsv)).foldl (fun b e =>
    match b with
    | none => some e
    | some x => if x.2.replAge < e.2.replAge || (x.2.replAge == e.2.replAge && decide (e.2.way < x.2.way)) then some e else b) none

/-- How a line gets a way (06 R183): a free way, a victim to evict, or neither now. -/
inductive WayChoice where
  | free (w : Nat)
  | victim (dla : Nat)
  | none

def chooseWay (s : State) (dla : Nat) : WayChoice :=
  let l := setLines s (dirSet s dla)
  let mine := l.filter (fun e => dlaDomain e.1 == dlaDomain dla)
  let pick := fun (c : List (Nat × DirLine)) => match oldest c with
    | some e => WayChoice.victim e.1
    | none => WayChoice.none
  if (getDomain s (dlaDomain dla)).ways ≤ mine.length then pick mine
  else match (List.range 16).find? (fun w => !(l.any (fun e => e.2.way == w))) with
    | some w => .free w
    | none => pick l

/-- A request that no one sent: for the home's own transactions. -/
def noReq (dla : Nat) : HomeReq :=
  { dla := dla, domain := dlaDomain dla, participant := none, md := .I, posted := false, source := 128, remote := false,
    ecc0 := .ok, ecc1 := .ok, tag := 2 ^ 64, off := 0, len := 0, poison := false, data := [] }

def newHomeTxn (r : HomeReq) (k : HomeKind) (forLine : Option Nat) : HomeTxn := ⟨r, k, .snooping, [], [], [], [], forLine, false⟩

/-- The requests that hold or may come to hold a wait slot: those that wait, those whose set is being fetched, and those that
wait for a line of a migrating page, posted writes or others (06 R179; 08 R242). -/
def slotUsers (s : State) (posted : Bool) : Nat :=
  (s.dir.waiters.filter (fun w => w.req.posted == posted)).length
    + (s.dir.fills.filter (fun f => f.1.posted == posted)).length
    + (s.move.migs.flatMap (fun e => ((e.2.map (·.waiting)).getD []).filter (fun w => (w.req.req.kind == .pcieWr) == posted))).length

/-- A wait slot is left that a request may take: a posted write takes one of the general slots only when all of its own are
taken (06 R179). -/
def slotFree (s : State) (posted : Bool) : Bool :=
  let p := slotUsers s true
  let g := slotUsers s false + (p - Config.postedSlots)
  (posted && decide (p < Config.postedSlots)) || decide (g < Config.waitSlots - Config.postedSlots)

/-- The wait slot that a request takes: slots 0-2,047 are those kept for posted writes (06 R179). -/
def slotFor (s : State) (posted : Bool) : Nat :=
  let free := fun (n : Nat) => !(s.dir.waiters.any (fun w => w.slot == n))
  let p := (List.range Config.postedSlots).find? free
  let lo := if posted then p else none
  lo.getD (((List.range' Config.postedSlots (s.dir.waiters.length + 1)).find? free).getD 0)

/-- The wait slots that are held: by requests for lines of domains, and for lines of migrating pages (06 R179; 08 R242). -/
def slotsHeld (s : State) : Nat :=
  s.dir.waiters.length + s.move.migs.foldl (fun a e => a + ((e.2.map (fun m => m.waiting.length)).getD 0)) 0

/-- A request takes a wait slot (06 R179). -/
def homeWait (r : HomeReq) (k : HomeKind) (s : State) : State :=
  withDir (fun d => { d with
    waiters := d.waiters ++ [⟨slotFor s r.posted, r, k, 0, s.time.localNs⟩]
    high := max d.high (slotsHeld s + 1) }) s

/-- A request takes its line's block and begins, its cells freed; one that needs a way and finds none waits (06 R175, R178,
R179, R183). -/
def homeStart (r : HomeReq) (k : HomeKind) (s0 : State) : State :=
  let s := serveCells r s0
  let x := getLine s r.dla
  let t := newHomeTxn r k none
  if needsWay k && !x.hasWay then
    match chooseWay s r.dla with
    | .none => homeWait r k s0
    | .free w => homeSnoop r.dla t (giveWay r.dla w (touch r.dla (setTxn r.dla t s)))
    | .victim v =>
      let s1 := touch r.dla (setTxn r.dla { t with phase := .way } s)
      let s2 := withDir (fun d => { d with evict := sat64 d.evict }) (touch v (setTxn v (newHomeTxn (noReq v) .evict (some r.dla)) s1))
      homeSnoop v (newHomeTxn (noReq v) .evict (some r.dla)) s2
  else
    match k with
    | .writeback _ =>
      let s1 := touch r.dla (setTxn r.dla { t with phase := .expander } s)
      (match expanderEgress s r.dla with
       | some (e, dst) => expanderMsg r e dst (max 1 r.len) (writeBody r) s1
       | none => homeReply selfAcct r (.rsp false .cmp []) 0 (setTxn r.dla { t with phase := .done } s1))
    | _ => homeSnoop r.dla t (touch r.dla (setTxn r.dla t s))

/-! ## The end of a transaction, and the next one (06 R175, R178, R180) -/

def vecWith (d : Domain) (l : List Nat) (v : Word) : Word := l.foldl (fun a p => a ||| (1#64 <<< vecBit d p)) v

/-- The line's entry after a transaction that granted nothing: what its snoops left (06 R164, R178). -/
def afterFail (d : Domain) (t : HomeTxn) (x : DirLine) : DirLine :=
  let keeps := (holders d x).filter (fun h => !(t.snooped.contains h) || t.kept.contains h)
  if t.snooped.isEmpty || t.kind == .readI || t.kind == .ncRead then x
  else if keeps.isEmpty then { x with state := .I, vector := 0, owner := 0 }
  else if x.state == .EM && !(t.snooped.contains x.owner) then x
  else { x with state := .S, vector := vecWith d keeps 0, owner := 0 }

/-- The line's entry after a transaction (06 R178). The table gives the owner's writeback the MetaValues I and S; one with A
leaves the line with its owner (log entry 135). -/
def afterTxn (d : Domain) (t : HomeTxn) (x : DirLine) : DirLine :=
  let p := t.req.participant.getD 0
  let em := { x with state := .EM, vector := vecWith d [p] 0, owner := p }
  let out := { x with state := .I, vector := 0, owner := 0 }
  if t.failed then afterFail d t x else
  match t.kind with
  | .readS =>
    if x.state == .EM && x.owner == p then em
    else { x with state := .S, owner := 0
                  vector := vecWith d (p :: (if t.snooped.isEmpty then [] else t.kept))
                    (if x.state == .S && t.snooped.isEmpty then x.vector else 0) }
  | .readOwn => em
  | .memInv => em
  | .ncWrite => out
  | .evict => out
  | .writeback keep =>
    if x.state == .EM && x.owner == p then
      (if keep then { x with state := .S, vector := vecWith d [p] 0, owner := 0 }
       else if t.req.md == .A then x else out)
    else x
  | _ => x

/-- Put back a line; one in state I frees its way, and holds only what waiting requests need (06 R174). -/
def putLine (dla : Nat) (x : DirLine) (s : State) : State :=
  setLine dla (if x.state == .I then { DirLine.reset with rsv := x.rsv, rsvSlot := x.rsvSlot } else x) s

/-- The waiting requests of a line. -/
def lineWaiters (s : State) (dla : Nat) : List Waiter := s.dir.waiters.filter (fun w => w.req.dla == dla)

/-- The requests that reach the home in the same instant as the line unblocks, if the earliest waiting request came before
(06 R180). -/
def sameInstant (s : State) (l : List Waiter) : List Waiter :=
  match l with
  | [] => []
  | w :: ws => if w.time = s.time.localNs then [] else ws.filter (fun y => decide (y.time = s.time.localNs))

/-- The earliest waiting request, which contends with those of the same instant through a mutual-exclusion element: which of
them it lets through is a free value (06 R180; 01 R25; log entry 136). -/
def contend (s : State) (l : List Waiter) : Option Waiter :=
  match sameInstant s l with
  | [] => l.head?
  | ys => (l.take 1 ++ ys)[(takeFree s).1.toNat % (ys.length + 1)]?

/-- The next request of a line (06 R180). -/
def nextWaiter (s : State) (dla : Nat) : Option Waiter :=
  let l := lineWaiters s dla
  let x := getLine s dla
  match l.find? (fun w => w.req.posted) with
  | some w => some w
  | none =>
    match (if x.rsv then l.find? (fun w => w.slot == x.rsvSlot) else none) with
    | some w => some w
    | none =>
      let aged := l.filter (fun w => decide (s.dir.agePriority < w.age))
      match aged with
      | [] => contend s l
      | a :: rest => some (rest.foldl (fun b w => if b.age < w.age then w else b) a)

/-- Every waiting request of the line that is not served gains one age step, and one that reaches AGE_RESERVE
reserves the line (06 R180). -/
def ageWaiters (dla : Nat) (s : State) : State :=
  let f := fun (w : Waiter) => if w.req.dla == dla then { w with age := min 31 (w.age + 1) } else w
  let s1 := withDir (fun d => { d with waiters := d.waiters.map f }) s
  let x := getLine s1 dla
  match (if x.rsv then none else
      (lineWaiters s1 dla).find? (fun w => !w.req.posted && decide (s.dir.ageReserve ≤ w.age))) with
  | some w =>
    withDir (fun d => { d with reserved := sat64 d.reserved }) (setLine dla { x with rsv := true, rsvSlot := w.slot } s1)
  | none => s1

/-- A waiting request could begin now: it needs no way, or one is to be had (06 R183). -/
def mayServe (s : State) (w : Waiter) : Bool :=
  !(needsWay w.kind) || (getLine s w.req.dla).hasWay || (match chooseWay s w.req.dla with | .none => false | _ => true)

/-- Serve the next waiting request of a line: the others age where it is the line's own block that has ended (`own`), not
where a way of its set has become free (06 R180, R183). -/
def serveNext (own : Bool) (dla : Nat) (s : State) : State :=
  let age := fun (s : State) => if own then ageWaiters dla s else s
  match nextWaiter s dla with
  | none => s
  | some w =>
    let x := getLine s dla
    let s0 := if (sameInstant s (lineWaiters s dla)).isEmpty then s else (takeFree s).2
    if !(mayServe s w) then age s0
    else
      let s1 := withDir (fun d => { d with waiters := d.waiters.filter (fun y => y.slot != w.slot) }) s0
      let s2 := if x.rsv && x.rsvSlot == w.slot then setLine dla { x with rsv := false, rsvSlot := 0 } s1 else s1
      homeStart w.req w.kind (age s2)

/-- The recovery of a line whose word 0 is uncorrectable: every participant is snooped, the writebacks are applied and the
entry is freed (06 R186). -/
def recoverLine (dla : Nat) (s : State) : State :=
  let d := getDomain s (dlaDomain dla)
  let t := { newHomeTxn (noReq dla) .evict none with waitSnoops := allParts d, snooped := allParts d }
  homeAdvance dla (sendSnoops .inv dla 0 (allParts d)
    (touch dla (setLine dla { getLine s dla with txn := some t, lost := false } s)))

/-- The line holds no completion that host `p` has not acknowledged, and no snoop of another transaction to it is out, so a
walk may snoop it (06 R184). -/
def walkMay (x : DirLine) (p : Nat) : Bool :=
  match x.txn with
  | some t => !(t.phase == .ack && t.req.participant == some p)
  | none => true

/-- Send the snoops of walks on a line that may go (06 R167, R184): in queue 0 (04 R115). -/
def walkLine (dla : Nat) : List Walk → State → State
  | [], s => s
  | w :: ws, s =>
    walkLine dla ws <|
      if w.dla = dla && !w.sent && walkMay (getLine s dla) w.part then
        sendSnoop .inv dla 0 w.part (withDir (fun d => { d with
          walks := d.walks.map (fun y => if y == w then { y with sent := true } else y) }) s)
      else s

/-- End the transaction of a line whose phase is done, hand an eviction's way on, and serve what waits: the line's
own requests, then those of the set that wait for a way (06 R175, R180, R183). -/
def homeEnd (dla : Nat) (t : HomeTxn) (s : State) : State × List Nat :=
  let d := getDomain s (dlaDomain dla)
  let x := getLine s dla
  let s1 := putLine dla { afterTxn d t x with txn := none } (if t.kind == .evict then dropLine 17 (dirUnit dla) s else s)
  let s2 := match t.forLine with
    | none => s1
    | some other =>
      match (getLine s1 other).txn with
      | some u => if u.phase == .way then homeSnoop other u (giveWay other x.way s1) else s1
      | none => s1
  let s3 := walkLine dla s2.dir.walks s2
  let s4 := if (getLine s3 dla).txn.isSome then s3
    else if x.lost then recoverLine dla s3 else serveNext true dla s3
  let more := (s4.dir.waiters.filter (fun w => dirSet s4 w.req.dla == dirSet s dla
    && (getLine s4 w.req.dla).txn.isNone && w.req.dla != dla)).map (fun w => w.req.dla)
  let ended := (s4.dir.lines.filter (fun e => dirSet s4 e.1 == dirSet s dla && (match e.2.txn with
    | some u => u.phase == .done
    | none => false))).map (·.1)
  (s4, ended ++ more)

/-- Carry on with the lines listed until nothing more can happen now. -/
def homeRun : Nat → List Nat → State → State
  | 0, _, s => s
  | _, [], s => s
  | n + 1, dla :: rest, s =>
    match (getLine s dla).txn with
    | some t =>
      if t.phase == .done then homeRun n (rest ++ (homeEnd dla t s).2) (homeEnd dla t s).1 else homeRun n rest s
    | none => homeRun n rest (if (lineWaiters s dla).isEmpty then s else serveNext false dla s)

/-- The lines of a set whose transaction is done. -/
def doneLines (s : State) (set : Nat) : List Nat :=
  (s.dir.lines.filter (fun e => dirSet s e.1 == set && (match e.2.txn with
    | some t => t.phase == .done
    | none => false))).map (·.1)

/-- The lines of a set on which requests wait though no transaction holds them: for a way (06 R183). -/
def wayWaiters (s : State) (set : Nat) : List Nat :=
  (s.dir.waiters.filter (fun w => dirSet s w.req.dla == set && (getLine s w.req.dla).txn.isNone)).map (fun w => w.req.dla)

/-- Carry on with one line and those of its set. -/
def homeGo (dla : Nat) (s : State) : State :=
  homeRun (4 * s.dir.waiters.length + 32) (dla :: doneLines s (dirSet s dla) ++ wayWaiters s (dirSet s dla)) s

/-! ## Arrival at the home (06 R173, R176-R179, R186) -/

/-- The participant is addressed by a snoop of the transaction that holds the line. -/
def snoopedBy (x : DirLine) (p : Option Nat) : Bool :=
  match x.txn, p with
  | some t, some h => t.snooped.contains h
  | _, _ => false

/-- The participant holds the line (06 R176). -/
def holdsLine (d : Domain) (x : DirLine) (p : Option Nat) : Bool :=
  match p with
  | some h => (holders d x).contains h
  | none => false

/-- Remove a host from a line's holders (06 R178, clean evict); cut-off hosts hold nothing (06 R185). -/
def evictHolder (d : Domain) (p : Nat) (x : DirLine) : DirLine :=
  match x.state with
  | .EM => if x.owner = p then { x with state := .I, vector := 0, owner := 0 } else x
  | .S =>
    if groupLog2 d = 0 then
      let v := x.vector &&& ~~~(1#64 <<< p)
      if (vectorParts d v).isEmpty then { x with state := .I, vector := 0, owner := 0 } else { x with vector := v }
    else x
  | .I => x

/-- A writeback or a write, as R178 tells them apart: from the owner, from a host that a snoop addressed, from
another holder, or from a host that holds nothing. The table does not say how a write of a host that holds nothing is told
from a stray writeback: one with MetaValue A is taken as a write, any other as stray (log entry 137). -/
def writeKind (d : Domain) (x : DirLine) (r : HomeReq) : Option HomeKind :=
  match r.participant with
  | none => some .ncWrite
  | some p =>
    if x.state == .EM && x.owner == p then some (.writeback (r.md == .S))
    else if snoopedBy x r.participant then some (.writeback (r.md == .S))
    else if r.md == .A || holdsLine d x r.participant then some .ncWrite
    else none

/-- A writeback applied inside the current block (06 R176): the expander is written, and the state follows. The home completes
it once the expander has. -/
def innerWriteback (r : HomeReq) (keep : Bool) (s : State) : State :=
  let x := getLine s r.dla
  let p := r.participant.getD 0
  match x.txn with
  | none => s
  | some t =>
    let d := getDomain s (dlaDomain r.dla)
    let y := if x.state == .EM && x.owner == p then
        (if keep then { x with state := .S, vector := vecWith d [p] 0, owner := 0 }
         else if r.md == .A then x else { x with state := .I, vector := 0, owner := 0 })
      else x
    match expanderEgress s r.dla with
    | some (e, dst) =>
      expanderMsg r e dst (max 1 r.len) (writeBody r)
        (setLine r.dla { y with txn := some { t with inner := t.inner ++ [(s.gh.nextTxn, some r)] } } s)
    | none => homeReply selfAcct r (.rsp false .cmp []) 0 (setLine r.dla y s)

/-- The request finds its line blocked, or others waiting for it (06 R179, R180). -/
def lineTaken (s : State) (r : HomeReq) : Bool :=
  (getLine s r.dla).txn.isSome || (!(lineWaiters s r.dla).isEmpty && !r.posted)

/-- A request begins at the home, its set being in the directory cache (06 R176-R179). -/
def homeAdmit (r : HomeReq) (k : HomeKind) (s : State) : State :=
  let d := getDomain s (dlaDomain r.dla)
  let x := getLine s r.dla
  let inside := holdsLine d x r.participant || snoopedBy x r.participant
  match k with
  | .cleanEvict =>
    let p := r.participant.getD 0
    let y := if r.participant.isSome then evictHolder d p x else x
    homeGo r.dla (homeReply selfAcct r (.rsp false .cmp []) 0
      (if x.txn.isSome then setLine r.dla y s else putLine r.dla y (touch r.dla s)))
  | .writeback _ =>
    match writeKind d x r with
    | none => homeReply selfAcct r (.rsp false .cmp []) 0 (withDir (fun z => { z with strayWb := sat64 z.strayWb }) s)
    | some (.writeback keep) =>
      if x.txn.isSome then (if inside then innerWriteback r keep s else homeWait r (.writeback keep) s)
      else homeGo r.dla (homeStart r (.writeback keep) s)
    | some k' => if x.txn.isSome || x.rsv then homeWait r k' s else homeGo r.dla (homeStart r k' s)
  | _ =>
    if lineTaken s r then homeWait r k s else homeGo r.dla (homeStart r k s)

/-- ECC of the two words of the entry looked up (06 R186): a line whose word 0 is uncorrectable is recovered, at once or when
its block ends. -/
def homeEcc (dla : Nat) (ecc0 ecc1 : Ecc) (s : State) : State :=
  let u := dirUnit dla
  let corr := fun (s : State) => pulse 16 u (some (w64 dla)) none (withDir (fun d => { d with eccCorr := sat64 d.eccCorr }) s)
  let s1 := if ecc0 == .corrected then corr s else s
  let s2 := if ecc1 == .corrected then corr s1 else s1
  let s3 := if ecc1 == .uncorrectable then
      pulse 17 u (some (w64 dla)) none (withDir (fun d => { d with
        eccUncorr := sat64 d.eccUncorr, suspect := insNat d.suspect (dirSet s dla) }) s2)
    else s2
  if ecc0 == .uncorrectable then
    let s4 := assertLine 17 u (some (w64 dla)) none (withDir (fun d => { d with eccUncorr := sat64 d.eccUncorr }) s3)
    if (getLine s4 dla).txn.isNone then recoverLine dla s4 else setLine dla { getLine s4 dla with lost := true } s4
  else s3

/-- The word-1 error frees what the entry said: the line is unknown (06 R186). -/
def homeForget (dla : Nat) (ecc1 : Ecc) (s : State) : State :=
  if ecc1 == .uncorrectable && (getLine s dla).txn.isNone then
    putLine dla { getLine s dla with state := .I, vector := 0, owner := 0 } s else s

/-- The lookup of a request whose set is in the cache. -/
def homeLookup (r : HomeReq) (k : HomeKind) (s : State) : State :=
  homeAdmit r k (homeGo r.dla (homeForget r.dla r.ecc1 (homeEcc r.dla r.ecc0 r.ecc1 s)))

/-- No wait slot is left that a request of this kind may take, so it waits upstream under credit and does not arrive; what the
home applies inside the current block, or discards, takes none (06 R176, R179). -/
def homeFull (s : State) (r : HomeReq) (k : HomeKind) : Bool :=
  let slots := !(slotFree s r.posted)
  match k with
  | .cleanEvict => false
  | .writeback _ =>
    (match writeKind (getDomain s (dlaDomain r.dla)) (getLine s r.dla) r with
     | none => false
     | some (.writeback _) => false
     | some _ => slots)
  | _ => slots

/-- A request reaches the home: the directory cache is looked up, and a miss fetches the set (06 R173). -/
def homeArrive (r : HomeReq) (k : HomeKind) (s : State) : State :=
  if s.dir.cached.contains (dirSet s r.dla) then
    homeLookup r k (withDir (fun d => { d with hit := sat64 d.hit }) s)
  else withDir (fun d => { d with miss := sat64 d.miss, fills := d.fills ++ [(r, k)] }) s

/-- A set that holds a blocked or reserved line, or is waited for, stays in the cache (06 R173). -/
def setPinned (s : State) (set : Nat) : Bool :=
  s.dir.lines.any (fun e => dirSet s e.1 == set && (e.2.txn.isSome || e.2.rsv)) || s.dir.waiters.any (fun w => dirSet s w.req.dla == set)

/-- Bring a set into the cache; a full one replaces a set of its own choice, a free value (06 R173). -/
def cacheSet (set : Nat) (s : State) : State :=
  if s.dir.cached.contains set then s
  else if s.dir.cached.length < Config.dirCacheSets then withDir (fun d => { d with cached := insNat d.cached set }) s
  else
    let can := s.dir.cached.filter (fun x => !(setPinned s x))
    let f := takeFree s
    let out := can.getD (f.1.toNat % (max 1 can.length)) 0
    let kept := s.dir.cached.filter (fun x => x != out)
    withDir (fun d => { d with cached := insNat kept set }) f.2

def homeLookups : List (HomeReq × HomeKind) → State → State
  | [], s => s
  | (r, k) :: rest, s => homeLookups rest (homeLookup r k s)

/-- A set fetch returns; the entry in `way` had these ECC results, and the lookups that waited go on (06 R173). -/
def dirFill (set : Nat) (ecc0 ecc1 : Ecc) (way : Nat) (s : State) : State :=
  let mine := s.dir.fills.filter (fun f => dirSet s f.1.dla == set)
  let s1 := cacheSet set (withDir (fun d => { d with fills := d.fills.filter (fun f => dirSet s f.1.dla != set) }) s)
  let s2 := match (setLines s1 set).find? (fun e => e.2.way == way) with
    | some e => homeGo e.1 (homeForget e.1 ecc1 (homeEcc e.1 ecc0 ecc1 s1))
    | none => s1
  homeLookups mine s2

/-- Some request waits for this set. -/
def dirFetching (s : State) (set : Nat) : Bool := s.dir.fills.any (fun f => dirSet s f.1.dla == set)

/-! ## The rows -/

/-- The kind of a caching read (06 R178). -/
def readKind : MetaVal → HomeKind
  | .S => .readS
  | .A => .readOwn
  | .I => .readI

/-- This switch is the home of a defined domain's line, and the participant exists (06 R171). -/
def homeHere (s : State) (r : HomeReq) : Bool :=
  let d := getDomain s (dlaDomain r.dla)
  d.defined && decide (r.domain = dlaDomain r.dla) && homeOf d (dlaOffset r.dla) == s.glb.switchId
    && (match r.participant with | some p => decide (p < d.participants.length) && !(d.cut.contains p) | none => true)

/-- One arrival of a request at this home. -/
def homeRow (r : HomeReq) (k : HomeKind) (s : State) : State :=
  if homeHere s r && !(homeFull s r k) then homeArrive r k s else s

def execCachingRead (r : HomeReq) (s : State) : Out :=
  inUnit "domain" r.domain 64 (.next (if r.participant.isSome then homeRow r (readKind r.md) s else s))
def execMeminv (r : HomeReq) (s : State) : Out :=
  inUnit "domain" r.domain 64 (.next (if r.participant.isSome then homeRow r .memInv s else s))
def execWriteback (r : HomeReq) (s : State) : Out :=
  inUnit "domain" r.domain 64 (.next (if r.participant.isSome then homeRow r (.writeback (r.md == .S)) s else s))
def execCleanEvict (r : HomeReq) (s : State) : Out :=
  inUnit "domain" r.domain 64 (.next (if r.participant.isSome then homeRow r .cleanEvict s else s))
def execNonCachingRead (r : HomeReq) (s : State) : Out :=
  inUnit "domain" r.domain 64 (.next (homeRow { r with participant := none } .ncRead s))
def execNonCachingWrite (r : HomeReq) (s : State) : Out :=
  inUnit "domain" r.domain 64 (.next (homeRow { r with participant := none } .ncWrite s))

/-- Send a message to the home of a line at another switch, in queue `q`, charged to account `a`; its DEST_PID is one that the
spec does not state (log entry 7). -/
def toHome (a : Acct) (dla source q : Nat) (b : Body) (s : State) : State :=
  let d := getDomain s (dlaDomain dla)
  let h := homeOf d (dlaOffset dla)
  if d.defined && h != s.glb.switchId then
    match linkToward s h with
    | some l =>
      launch false { newTxn s a.1 (112 + l) q 0 a.2 s.gh.route.stamping false b with
        dest := some (h, (takeFree s).1.toNat % 4096), srcIngress := source } (takeFree s).2
    | none => s
  else s

/-- The account of a message without data that a host at port `p` sends the home. -/
def hostAcct (p : Nat) : Acct := if p < 112 then (p, 5) else selfAcct

/-- The queue of the waiting request of a host here with this tag, 0 for none (04 R115). -/
def tagQueue (s : State) (ingress tag : Nat) : Nat :=
  match s.gh.waits.find? (fun w => w.ingress == ingress && w.id == tag) with
  | some w => w.queue
  | none => 0

/-- BIConflict is answered at once with BIConflictAck, in the queue of the host's request (06 R177; 04 R115); one from a host
here goes to the line's home. -/
def execBiconflict (r : HomeReq) (s : State) : Out :=
  inUnit "domain" r.domain 64 (.next (
    if homeHere s r then homeMsg selfAcct r.source (tagQueue s r.source r.tag) 0 none (.biConflictAck r.dla) s
    else toHome (hostAcct r.source) r.dla r.source (tagQueue s r.source r.tag) (.biConflict r) s))

/-- The answer to a walk's snoop: the host holds the line no more (06 R167). -/
def walkAnswer (dla p : Nat) (s : State) : State :=
  let x := evictHolder (getDomain s (dlaDomain dla)) p (getLine s dla)
  let s1 := withDir (fun d => { d with walks := d.walks.filter (fun w => !(w.dla == dla && w.part == p && w.sent)) }) s
  homeGo dla (if x.txn.isSome then setLine dla x s1 else putLine dla x s1)

/-- A walk has a snoop of the line out to the participant. -/
def walkWaits (s : State) (dla p : Nat) : Bool := s.dir.walks.any (fun w => w.dla == dla && w.part == p && w.sent)

/-- A snoop response arrives (06 R178): for the transaction that waits for it, or for a walk. -/
def birsp (dla p : Nat) (ans : BiRsp) (s : State) : State :=
  match (getLine s dla).txn with
  | some t =>
    if t.waitSnoops.contains p then
      homeGo dla (homeAdvance dla (setTxn dla { t with
        waitSnoops := t.waitSnoops.filter (fun x => x != p)
        kept := if ans == .I then t.kept else t.kept ++ [p] } s))
    else if walkWaits s dla p then walkAnswer dla p s else s
  | none => if walkWaits s dla p then walkAnswer dla p s else s

/-- The queue of the snoop of another home that a host here answers; it is answered once (04 R115). -/
def snoopHere (dla p : Nat) (s : State) : Nat × State :=
  match s.dir.snoopsHere.find? (fun e => e.1 == dla && e.2.1 == p) with
  | some e => (e.2.2, withDir (fun d => { d with snoopsHere := d.snoopsHere.erase e }) s)
  | none => (0, s)

/-- This switch is the home of the line. -/
def lineHere (s : State) (dla : Nat) : Bool :=
  homeOf (getDomain s (dlaDomain dla)) (dlaOffset dla) == s.glb.switchId

/-- A host answers a snoop: here, or for the line's home at another switch. -/
def execBirsp (dla participant : Nat) (ans : BiRsp) (s : State) : Out :=
  inUnit "domain" (dlaDomain dla) 64 (.next (
    if lineHere s dla then birsp dla participant ans s
    else
      let q := snoopHere dla participant s
      toHome (hostAcct (Config.hostPort ((getDomain s (dlaDomain dla)).participants.getD participant (0, 0)).2)) dla 128 q.1
        (.biRsp dla participant ans) q.2))

/-- The expander answers the transaction of a line, its answer charged to account `a`: its data or its completion reaches the
home (06 R175, R178). -/
def homeExpander (a : Acct) (dla : Nat) (kind : RspKind) (data : List Word) (s : State) : State :=
  match (getLine s dla).txn with
  | none => s
  | some t =>
    if t.phase == .expander then
      let d := { t with phase := HomePhase.done }
      let ack := { t with phase := HomePhase.ack }
      let own := (getLine s dla).state == .EM && t.req.participant == some (getLine s dla).owner
      let line := some (kind != .data, data)
      match t.kind with
      | .ncRead => homeGo dla (homeReply a t.req (.rsp false kind data) (max 64 (8 * data.length)) (setTxn dla d s))
      | .readI =>
        if own then homeReply a t.req (.grant true false line dla) 64 (setTxn dla ack s)
        else homeReply a t.req (.rsp false kind data) (max 64 (8 * data.length)) (setTxn dla ack s)
      | .readS => homeReply a t.req (.grant own (!own) line dla) 64 (setTxn dla ack s)
      | .readOwn => homeReply a t.req (.grant true false line dla) 64 (setTxn dla ack s)
      | .ncWrite => homeGo dla (homeReply a t.req (.rsp false kind []) 0 (setTxn dla d s))
      | .writeback _ => homeGo dla (homeReply a t.req (.rsp false kind []) 0 (setTxn dla d s))
      | _ => s
    else s

/-- The expander completes writeback `id`, which was applied inside the current block, and the home completes it to the host
that sent it (06 R176). -/
def homeWbDone (a : Acct) (dla id : Nat) (kind : RspKind) (s : State) : State :=
  match (getLine s dla).txn with
  | some t =>
    match t.inner.find? (fun e => e.1 == id) with
    | some e =>
      let s1 := setTxn dla { t with inner := t.inner.filter (fun x => x.1 != id) } s
      homeGo dla (homeAdvance dla (match e.2 with
        | some r => homeReply a r (.rsp false kind []) 0 s1
        | none => s1))
    | none => s
  | none => s

/-- The answer of an expander to the home's access number `e.1`, charged to account `a`. -/
def expanderAnswer (a : Acct) (e : Nat × Nat × Bool) (k : RspKind) (data : List Word) (s : State) : State :=
  let s1 := withDir (fun d => { d with expander := d.expander.filter (fun x => x.1 != e.1) }) s
  let inner := match (getLine s e.2.1).txn with | some t => t.inner.any (fun x => x.1 == e.1) | none => false
  if inner then homeWbDone a e.2.1 e.1 k s1 else homeExpander a e.2.1 k data s1

/-- The acknowledgement of an answer that another home's host here has taken: the queue that its notice takes, if one is owed
(06 R175; 04 R115). -/
def noticeHere (dla : Nat) (s : State) : Option (Nat × State) :=
  match s.dir.notices.find? (fun e => e.1 == dla) with
  | some e => some (e.2, withDir (fun d => { d with notices := d.notices.erase e }) s)
  | none => none

/-- A requester has taken its data or completion (06 R175). At the switch of a remote requester, a delivery notice
goes to the line's home. -/
def homeAcked (dla : Nat) (s : State) : State :=
  match (getLine s dla).txn with
  | some t => if t.phase == .ack then homeGo dla (setTxn dla { t with phase := .done } s) else s
  | none =>
    match noticeHere dla s with
    | some (q, s1) => toHome selfAcct dla 128 q (.notice dla) s1
    | none => s

/-- What reading the wait slot of the line's next request meets: corrected, or its request ends (15 R394). -/
def waitSlotEcc (dla : Nat) (e : Ecc) (s : State) : State :=
  match e, nextWaiter s dla with
  | .corrected, some _ => pulse 12 (dirUnit dla) (some (w64 dla)) none s
  | .uncorrectable, some w =>
    let x := getLine s dla
    let s1 := withDir (fun d => { d with waiters := d.waiters.filter (fun y => y.slot != w.slot) }) s
    let s2 := if x.rsv && x.rsvSlot == w.slot then setLine dla { x with rsv := false, rsvSlot := 0 } s1 else s1
    pulse 14 (dirUnit dla) (some (w64 dla)) none (homeReply selfAcct w.req (.rsp false (waitEnd s w.req) []) 0 s2)
  | _, _ => s

/-- An acknowledgement at the home unblocks the line; `ecc` is what reading the next wait slot meets. -/
def execCompletionAck (dla : Nat) (kind : AckKind) (ecc : Ecc) (s : State) : Out :=
  inUnit "domain" (dlaDomain dla) 64 (.next (match kind with
    | .requester => homeAcked dla (waitSlotEcc dla ecc s)
    | .writeback =>
      let id := match (getLine s dla).txn with | some t => ((t.inner.head?).map (·.1)).getD 0 | none => 0
      homeWbDone selfAcct dla id .cmp (waitSlotEcc dla ecc s)
    | .expander => homeExpander selfAcct dla .cmp [] (waitSlotEcc dla ecc s)))

/-- A delivery notice reaches the home (06 R175). -/
def noticed (dla : Nat) (s : State) : State :=
  match (getLine s dla).txn with
  | some t => if t.phase == .ack && t.req.remote then homeGo dla (setTxn dla { t with phase := .done } s) else s
  | none => s

/-- A delivery notice of a remote requester's switch (06 R175). -/
def execDeliveryNotice (dla sw : Nat) (s : State) : Out :=
  inUnit "domain" (dlaDomain dla) 64 (inUnit "switch" sw 32 (.next (noticed dla s)))

def execDirCacheMissFill (set : Nat) (ecc0 ecc1 : Ecc) (way : Nat) (retry : Option Nat) (s : State) : Out :=
  inUnit "directory set" set (2 ^ dirBits s)
    (.next (if dirFetching s set then dirFill set ecc0 ecc1 way (memRetried retry s) else s))

/-! ## Failed hosts (06 R185) -/

/-- Mark a host cut off in every domain that it takes part in (06 R185). -/
def cutHost (h : Nat × Nat) : List Nat → State → State
  | [], s => s
  | d :: ds, s =>
    cutHost h ds <|
      match (getDomain s d).participants.findIdx? (fun x => x == h) with
      | some p => setDomain d { getDomain s d with cut := insNat (getDomain s d).cut p } s
      | none => s

/-- Tell every reachable switch (06 R185). -/
def tellCut (dom p : Nat) : List Nat → State → State
  | [], s => s
  | w :: ws, s =>
    tellCut dom p ws (if w != s.glb.switchId && s.obl.reach.getLsbD w then sendBypass w (.cutOff dom p) s else s)

/-- The line of a silent owner is written to the expander with poison (06 R185): a write that no request brought. -/
def poisonLine (dla : Nat) (r : HomeReq) (s : State) : State :=
  let x := getLine s dla
  let out := { x with state := .I, vector := 0, owner := 0 }
  match expanderEgress s dla with
  | some (e, dst) =>
    expanderMsg r e dst 64 (.homeWrite dla 0 64 true [])
      (setLine dla { out with txn := x.txn.map (fun t => { t with inner := t.inner ++ [(s.gh.nextTxn, none)] }) } s)
  | none => setLine dla out s

/-- A snoop is not answered within the timeout (06 R185): that of a transaction, or of a walk. At a switch that is not the
line's home, the home tells that the participant is cut off (log entry 138). -/
def snoopTimeout (dla p : Nat) (s : State) : State :=
  let dom := dlaDomain dla
  let h := (getDomain s dom).participants.getD p (0, 0)
  if !(lineHere s dla) then (if p < (getDomain s dom).participants.length then cutHost h (List.range 64) s else s)
  else
    let x := getLine s dla
    let req := (x.txn.map (·.req)).getD (noReq dla)
    let asked := match x.txn with | some t => t.waitSnoops.contains p | none => false
    if !(asked || walkWaits s dla p) then s
    else
      let s1 := if x.state == .EM && x.owner == p then poisonLine dla req s else s
      let s2 := cutHost h (List.range 64) (tellCut dom p (List.range 32) s1)
      let s3 := pulse 18 (dirUnit dla) (some (w64 dla)) none
        (withDir (fun d => { d with snoopTimeouts := sat64 d.snoopTimeouts }) s2)
      birsp dla p .I s3

def execSnoopTimeout (dla participant : Nat) (s : State) : Out :=
  inUnit "domain" (dlaDomain dla) 64 (.next (snoopTimeout dla participant s))

/-! ## The store (06 R172, R173) -/

/-- The address of a set, and of a way of it, in on-package memory. -/
def setAddress (set : Nat) : Nat := set * 256
def wayAddress (set way : Nat) : Nat := setAddress set + way * 16

/-- TAG: DLA[45:26] (06 R172). -/
def dlaTag (dla : Nat) : Nat := dla / 2 ^ 26

def stateCode : DirState → Nat
  | .I => 0
  | .S => 1
  | .EM => 2

/-- The two words of a line's entry (06 R172). -/
def entryWords (s : State) (dla : Nat) : List Word :=
  let x := getLine s dla
  let d := getDomain s (dlaDomain dla)
  [if x.state == .I then 0 else x.vector,
   pack [(stateCode x.state, 0), (b2n x.txn.isSome, 2), (b2n (decide (groupLog2 d ≠ 0)), 3),
     (if x.state == .EM then x.owner else 0, 4), (b2n x.rsv, 14), (x.rsvSlot, 15), (x.replAge, 29), (dlaDomain dla, 32),
     (b2n (s.dir.suspect.contains (dirSet s dla)), 38), (dlaTag dla, 44)]]

end Sys2Proof.Machine
end

