-- ==== Sys2Proof/Machine/Domains.lean ====
section
/-! DEFINITION. The commands on sharing domains, partitions and quotas, and the fabric-wide commands' two phases
(06 R161-R171, R181, R182; 10 R308). -/

namespace Sys2Proof.Machine

/-! ## Fabric-wide commands (10 R308) -/

/-- The other switches that take part: those in OBL_REACH. -/
def fabricOthers (s : State) : List Nat := (List.range 32).filter (fun w => w != s.glb.switchId && s.obl.reach.getLsbD w)

/-- A switch's answer to the check, none for silence. -/
def checkOf (answers : List SwitchAnswer) (w : Nat) : Option Nat := (answers.find? (fun a => a.switch == w)).bind (·.check)

/-- Whether a switch confirmed. -/
def appliedBy (answers : List SwitchAnswer) (w : Nat) : Bool := answers.any (fun a => a.switch == w && a.applied)

/-- The check phase: a failing code comes before TIMEOUT for silence (02 R61, 10 R308); 0 where all pass. -/
def fabricCheck (s : State) (answers : List SwitchAnswer) : Nat :=
  match (fabricOthers s).find? (fun w => match checkOf answers w with | some c => c != 0 | none => false) with
  | some w => (checkOf answers w).getD PRECONDITION
  | none => if (fabricOthers s).any (fun w => (checkOf answers w).isNone) then TIMEOUT else 0

/-- Send one bypass message to each switch listed. -/
def tellSwitches (m : Bypass) : List Nat → State → State
  | [], s => s
  | w :: ws, s => tellSwitches m ws (sendBypass w m s)

/-- Run a fabric-wide command: `local` is this switch's own check and effect. A worker that the manager switch
tells to apply it applies it alone (10 R308). -/
def fabricRun (answers : List SwitchAnswer) (c : SeqCmd) (s : State) (here : CmdOut) : CmdOut :=
  match c.origin with
  | .fromManager _ => here
  | .script => here
  | _ =>
    match here with
    | .fail code s' => .fail code s'
    | .wait ks s' => .wait ks s'
    | .done r ks s' =>
      let code := fabricCheck s answers
      if code ≠ 0 then .fail code (tellSwitches (.check c.desc) (fabricOthers s) s)
      else
        let s1 := tellSwitches (.apply c.desc) (fabricOthers s) (tellSwitches (.check c.desc) (fabricOthers s) s')
        let silent := (fabricOthers s).filter (fun w => !(appliedBy answers w))
        if silent.isEmpty then .done r ks s1
        else
          let s2 := { s1 with obl := { s1.obl with resend := s1.obl.resend ++ silent.map (fun w => (w, c.desc)) } }
          .fail TIMEOUT (reportClamps c ks (if c.desc.opcode = 0x3001#16 && fld c.desc.arg0 2 0 = 3 then s2
            else bumpVer (verKey c.desc.objectId) s2))

/-- Send again the commands that a silent switch has not applied; drop them once it has or has left OBL_REACH
(10 R308). -/
def fabricResend (sw : Nat) (applied : Bool) (s : State) : State :=
  let mine := s.obl.resend.filter (fun e => e.1 == sw)
  let others := s.obl.resend.filter (fun e => e.1 != sw)
  if mine.isEmpty then s
  else if applied || !(s.obl.reach.getLsbD sw) then { s with obl := { s.obl with resend := others } }
  else mine.foldl (fun a e => sendBypass sw (.apply e.2) a) s

def execFabricApplyResend (sw : Nat) (applied : Bool) (s : State) : Out :=
  inUnit "switch" sw 32 (.next (fabricResend sw applied s))

/-! ## DEFINE (06 R163, R164) -/

/-- The ranges of a record, with SIZE in 2 MiB units (06 R163). -/
def recRanges (ws : List Word) (n : Nat) : List DomRange :=
  (List.range n).map (fun j =>
    let a := nth ws (1 + 2 * j)
    ⟨fld a 4 0, fld a 27 16, fld (nth ws (2 + 2 * j)) 55 21 * twoMiB, fld a 63 32⟩)

/-- Sizes clamped from the last range backward so that all together are at most `left` units (06 R163). -/
def clampSizes : Nat → List DomRange → List DomRange
  | _, [] => []
  | left, r :: rs => { r with size := min r.size left } :: clampSizes (left - min r.size left) rs

/-- The participants of a record (06 R163). -/
def recParts (ws : List Word) (n : Nat) : List (Nat × Nat) :=
  (List.range n).map (fun p =>
    let v := (nth ws (17 + p / 4)).toNat / 2 ^ (16 * (p % 4)) % 65536
    (v % 32, v / 256 % 64))

/-- Two ranges share a device address. -/
def rangesMeet (a b : DomRange) : Bool :=
  a.switch == b.switch && a.did == b.did && decide (0 < a.size) && decide (0 < b.size)
    && decide (a.base < b.base + b.size) && decide (b.base < a.base + a.size)

/-- Some two ranges of a list share an address. -/
def rangesClash : List DomRange → Bool
  | [] => false
  | r :: rs => rs.any (rangesMeet r) || rangesClash rs

def hasTwins : List (Nat × Nat) → Bool
  | [] => false
  | x :: xs => xs.contains x || hasTwins xs

/-- A DID of this switch resolves to a port configured in ROLE 3 whose last device, if one has enumerated, is
type-3 HDM-H memory (06 R164). -/
def didFits (s : State) (did : Nat) : Bool :=
  let e := tget 0 (genCurrent ⟨[], []⟩ s.gh.route).did did
  let p := getPort s (fld e 9 2)
  bit e 0 && !(bit e 1) && portCreated s (fld e 9 2) && p.cfg.role == 3 && (!p.enumerated || p.device == .hdmH)

/-- Some window is attached to the domain here. -/
def attachedTo (s : State) (d : Nat) : Bool := s.dir.attach.any (fun a => a.2.2 == d)

/-- This switch's check of a definition (06 R164). -/
def defineOk (s : State) (d : Nat) (rs : List DomRange) (ps : List (Nat × Nat)) : Bool :=
  !(attachedTo s d) && !(hasTwins ps) && !(rangesClash rs)
    && !(s.dir.domains.any (fun e => e.1 != d && e.2.defined && rs.any (fun r => e.2.ranges.any (rangesMeet r))))
    && rs.all (fun r => r.switch != s.glb.switchId || didFits s r.did)

def partKey (d : Nat) : Nat := objKey 4 (2 ^ 48 + d)
def quotaKey (d : Nat) : Nat := objKey 4 (2 * 2 ^ 48 + d)

/-- A device page at a DID of this switch lies in one of the ranges (04 R117). -/
def inRanges (s : State) (rs : List DomRange) (did pfn : Nat) : Bool :=
  let e := tget 0 (genCurrent ⟨[], []⟩ s.gh.route).did did
  let x := if bit e 1 then (fld e 19 15, fld e 39 28) else (s.glb.switchId, did)
  (rangeOffset rs x.1 x.2 (pfn * 4096) 0).isSome

/-- Migrations whose source or destination a definition covers are undone (08 R243). -/
def undoCovered (rs : List DomRange) (s : State) : State :=
  undoMigs J_DOMAIN (migsOf s (fun m => inRanges s rs m.oldEnt.did m.oldEnt.pfn || inRanges s rs m.destDid m.destPfn)) s

/-- DEFINE's effect (06 R164). -/
def defineLocal (ws : List Word) (c : SeqCmd) (s : State) : CmdOut :=
  let d := objIndex c.desc.objectId % 64
  let np := used (nth ws 0) 15 0 1 1024
  let nr := used (nth ws 0) 23 16 1 8
  let raw := recRanges ws nr
  let cl := clampSizes (2 ^ 25) raw
  let rs := cl.map (fun r => { r with size := r.size * twoMiB })
  let ps := recParts ws np
  let sizeClamps := (List.range nr).filterMap (fun j =>
    let a := (raw.getD j ⟨0, 0, 0, 0⟩).size
    let b := (cl.getD j ⟨0, 0, 0, 0⟩).size
    if a = b then none else some (⟨40, true, 8 + 16 * j, 63, 32, a, b⟩ : FieldClamp))
  if !(defineOk s d rs ps) then .fail PRECONDITION s
  else
    .done 0 (dataClamps 1 ws [(0, 15, 0, 1, 1024), (0, 23, 16, 1, 8)] ++ sizeClamps)
      (undoCovered rs (setVer (partKey d) 1 (setVer (quotaKey d) 1 (setDomain d
        ⟨true, rs, ps, [((rs.head?).map (·.switch)).getD 0], 30, 16, []⟩ s))))

/-- The clamps of ARG0.OP, common to the operations of DIR_SHARE_SET (06 R162). -/
def opClamps (c : SeqCmd) : List FieldClamp := argClamps c.desc [(0, 2, 0, 0, 4)]

/-- DEFINE (06 R163, R164). -/
def defineBody (data : ReadData) (answers : List SwitchAnswer) (c : SeqCmd) (s : State) : CmdOut :=
  withData data s (fun ws => fabricRun answers c s (defineLocal ws c s))

/-- ARG0.OP as used. -/
def opIs (n : Nat) (d : Desc) : Bool := used d.arg0 2 0 0 4 == n

/-! ## ATTACH and DETACH (06 R166, R167) -/

/-- A page of the window is migrating. -/
def winMigrating (s : State) (h : Nat) (w : WinEntry) : Bool := migratingAt s h w.base (w.limit + 1 - w.base)

/-- ATTACH (06 R166). -/
def attachBody (c : SeqCmd) (s : State) : CmdOut :=
  let n := objIndex c.desc.objectId % 64
  let h := fld c.desc.arg0 21 16
  let i := fld c.desc.arg0 41 32
  let d := getDomain s n
  let w := winEntry (winNow s h) i
  let p := getPort s (Config.hostPort h)
  if w.locked then .fail LOCKED s
  else if !d.defined
      || (match participantOf d s.glb.switchId h with | some k => d.cut.contains k | none => true)
      || !(p.linkUp && p.proto == 3 && p.backInval) || !w.valid || winMigrating s h w
      || s.dir.attach.contains (h, i, n)
  then .fail PRECONDITION s
  else if Config.attachPairs ≤ s.dir.attach.length then .fail NO_RESOURCE s
  else .done 0 (opClamps c) (bumpVer (objKey 2 h) (winFlags h i (fun e => { e with shared := true })
    (withDir (fun z => { z with attach := z.attach ++ [(h, i, n)] }) s)))

def execAttach (seq : Nat) (s : State) : Out := .next (runOp 0x3001 (opIs 1) true attachBody seq s)

/-- Remove a pair; SHARED is cleared when the entry has no pair left (06 R167). -/
def unattach (h i n : Nat) (s : State) : State :=
  let left := s.dir.attach.filter (fun a => a != (h, i, n))
  let s1 := withDir (fun z => { z with attach := left }) s
  if left.any (fun a => a.1 == h && a.2.1 == i) then s1 else winFlags h i (fun e => { e with shared := false }) s1

/-- The lines of domain `n` at this home that name participant `p` (06 R167). -/
def linesNaming (s : State) (n p : Nat) : List Nat :=
  let d := getDomain s n
  (s.dir.lines.filter (fun e => dlaDomain e.1 == n && (match e.2.state with
    | .I => false
    | .S => e.2.vector.getLsbD (vecBit d p)
    | .EM => e.2.owner == p))).map (·.1)

def insWalk (l : List Walk) (w : Walk) : List Walk := if l.any (fun y => y.dla == w.dla && y.part == w.part) then l else l ++ [w]

/-- Begin a walk: each line listed owes the host a snoop, which goes at once where R184's order lets it (06 R167). -/
def walkLines (p : Nat) : List Nat → State → State
  | [], s => s
  | dla :: rest, s =>
    let s1 := withDir (fun z => { z with walks := insWalk z.walks ⟨dla, p, false⟩ }) s
    walkLines p rest (walkLine dla s1.dir.walks s1)

/-- The walk of this home for participant `p` of domain `n`: every line that names it, which a host that is cut off does not
(06 R167, R185). -/
def walkDomain (n p : Nat) (s : State) : State :=
  if (getDomain s n).cut.contains p then s else walkLines p (linesNaming s n p) s

/-- The walk of this home for participant `p` of domain `n` has ended: every snoop has been answered (06 R167). -/
def walkOver (s : State) (n p : Nat) : Bool := !(s.dir.walks.any (fun w => dlaDomain w.dla == n && w.part == p))

/-- The homes of a domain at other switches. -/
def otherHomes (s : State) (n : Nat) : List Nat := (List.range 32).filter (fun w => w != s.glb.switchId && (getDomain s n).homes.contains w)

/-- The other homes of a domain are told to walk (06 R167); the message has no MTYPE in the spec (log entry 29). -/
def tellWalk (n p : Nat) (s : State) : State := tellSwitches (.walk n p) (otherHomes s n) s

/-- Free the entries of a domain that is no longer defined: it has none (06 R168). -/
def dropDomLines (n : Nat) : List Nat → State → State
  | [], s => s
  | dla :: rest, s =>
    dropDomLines n rest (if dlaDomain dla = n then
      (let x := { getLine s dla with state := .I, vector := 0, owner := 0 }
       if x.txn.isSome then setLine dla x s else putLine dla x s) else s)

/-- A domain is defined no longer: its entries and its walks go. -/
def forgetDomain (n : Nat) (s : State) : State :=
  dropDomLines n (tkeys s.dir.lines) (withDir (fun z => { z with walks := z.walks.filter (fun w => dlaDomain w.dla != n) }) s)

/-- The host has no window attached to the domain any more. -/
def lastPair (s : State) (h n : Nat) : Bool := !(s.dir.attach.any (fun a => a.1 == h && a.2.2 == n))

/-- DETACH removes the pair and begins the walk (06 R167). A pair that is not attached gives PRECONDITION (log
entry 31). -/
def detachBody (c : SeqCmd) (s : State) : CmdOut :=
  let n := objIndex c.desc.objectId % 64
  let h := fld c.desc.arg0 21 16
  let i := fld c.desc.arg0 41 32
  if !(s.dir.attach.contains (h, i, n)) then .fail PRECONDITION s
  else
    let s1 := unattach h i n s
    match participantOf (getDomain s n) s.glb.switchId h with
    | some p =>
      if lastPair s1 h n then .wait (opClamps c) (tellWalk n p (walkDomain n p s1)) else .done 0 (opClamps c) s1
    | none => .done 0 (opClamps c) s1

/-- A waiting DETACH completes once every snoop of this home's walk has been answered; the caller knows that those of the
other homes have (06 R167). -/
def detachEnd (c : SeqCmd) (s : State) : State :=
  let n := objIndex c.desc.objectId % 64
  match participantOf (getDomain s n) s.glb.switchId (fld c.desc.arg0 21 16) with
  | some p => if walkOver s n p then endWait c true 0 s else s
  | none => endWait c true 0 s

/-- The waiting command `seq` of opcode `op`, if it waits. -/
def findWaiting (s : State) (seq op : Nat) : Option SeqCmd :=
  match findCmd s seq with
  | some c => if c.stage == .waiting && c.desc.opcode.toNat == op then some c else none
  | none => none

/-- DETACH at the switch that it names: `farDone` says that the other homes have ended their walks. -/
def detachHere (seq : Nat) (farDone : Bool) (s : State) : State :=
  let s1 := runOp 0x3001 (opIs 2) true detachBody seq s
  match findWaiting s1 seq 0x3001 with
  | some c => if farDone || (otherHomes s1 (objIndex c.desc.objectId % 64)).isEmpty then detachEnd c s1 else s1
  | none => s1

/-- DETACH: here, or the walk of this home for one at another switch (06 R167). -/
def execDetach (seq : Nat) (site : DetachAt) (s : State) : Out :=
  match site with
  | .here farDone => .next (detachHere seq farDone s)
  | .away domain part => inUnit "domain" domain 64 (.next (walkDomain domain part s))

/-! ## DESTROY, READMIT, DIR_PARTITION_SET, DIR_QUOTA_SET (06 R168, R171, R181, R182) -/

def destroyLocal (c : SeqCmd) (s : State) : CmdOut :=
  let n := objIndex c.desc.objectId % 64
  if !(getDomain s n).defined || attachedTo s n then .fail PRECONDITION s
  else .done 0 (opClamps c)
    (forgetDomain n (setVer (objKey 4 n) 0 (setVer (partKey n) 0 (setVer (quotaKey n) 0 (setDomain n Domain.reset s)))))

def execDestroy (seq : Nat) (answers : List SwitchAnswer) (s : State) : Out :=
  .next (runOp 0x3001 (opIs 3) false (fun c s => fabricRun answers c s (destroyLocal c s)) seq s)

def readmitLocal (c : SeqCmd) (s : State) : CmdOut :=
  let n := objIndex c.desc.objectId % 64
  let p := fld c.desc.arg0 41 32
  let d := getDomain s n
  if !(d.cut.contains p) then .fail PRECONDITION s
  else .done 0 (opClamps c) (setDomain n { d with cut := d.cut.filter (fun x => x != p) } s)

def execReadmit (seq : Nat) (answers : List SwitchAnswer) (s : State) : Out :=
  .next (runOp 0x3001 (opIs 4) true (fun c s => fabricRun answers c s (readmitLocal c s)) seq s)

/-- DIR_PARTITION_SET (06 R171). -/
def partitionLocal (c : SeqCmd) (s : State) : CmdOut :=
  let n := objIndex c.desc.objectId % 64
  let k := used c.desc.arg0 3 0 1 8
  let homes := (List.range k).map (fun j => fld c.desc.arg1 (5 * j + 4) (5 * j))
  let d := getDomain s n
  if !d.defined || attachedTo s n
      || (match c.origin with
          | .fromManager _ => false
          | .script => false
          | _ => homes.any (fun h => h != s.glb.switchId && !(s.obl.reach.getLsbD h)))
  then .fail PRECONDITION s
  else .done 0 (argClamps c.desc [(0, 3, 0, 1, 8), (0, 13, 8, 21, 36)])
    (setDomain n { d with homes := homes, granLog2 := used c.desc.arg0 13 8 21 36 } s)

def execDirPartitionSet (seq : Nat) (answers : List SwitchAnswer) (s : State) : Out :=
  .next (runOp 0x3002 anyDesc true (fun c s => fabricRun answers c s (partitionLocal c s)) seq s)

def quotaIsHome (d : Desc) : Bool := objIndex d.objectId / 2 ^ 48 == 3

/-- Every KIND but the home parameters': one that names no object gives BAD_OBJECT here (02 R61, R71). -/
def quotaIsDomain (d : Desc) : Bool := !(quotaIsHome d)

/-- DIR_QUOTA_SET on the home parameters (06 R181). -/
def quotaHomeBody (c : SeqCmd) (s : State) : CmdOut :=
  let p := used c.desc.arg0 4 0 1 30
  .done 0 (argClamps c.desc [(0, 4, 0, 1, 30), (0, 12, 8, p + 1, 31), (0, 19, 16, 0, 10)])
    (withDir (fun d => { d with agePriority := p, ageReserve := used c.desc.arg0 12 8 (p + 1) 31,
                                snoopTo := used c.desc.arg0 19 16 0 10 }) s)

def execDirQuotaSetHome (seq : Nat) (s : State) : Out := .next (runOp 0x3003 quotaIsHome true quotaHomeBody seq s)

/-- DIR_QUOTA_SET on a domain's quota (06 R182); a domain that is not defined has none (log entry 32). -/
def quotaDomainBody (c : SeqCmd) (s : State) : CmdOut :=
  let n := objIndex c.desc.objectId % 64
  if !(getDomain s n).defined then .fail PRECONDITION s
  else .done 0 (argClamps c.desc [(0, 4, 0, 1, 16)])
    (setDomain n { getDomain s n with ways := used c.desc.arg0 4 0 1 16 } s)

def execDirQuotaSetDomain (seq : Nat) (s : State) : Out := .next (runOp 0x3003 quotaIsDomain true quotaDomainBody seq s)

/-! ## A switch joins (10 R308)

The spec gives these records no layout: the words below are the model's own (log entry 33). A domain's block is
one word with its number and counts, its versions, its ranges as two words each, its homes, and its
participants, one to a word with the cut-off mark in bit 16. The first two words are the fabric parameters and
their version. -/

def domWords (s : State) (n : Nat) (d : Domain) : List Word :=
  [pack [(n, 0), (d.ranges.length, 8), (d.homes.length, 16), (d.granLog2, 24), (d.participants.length, 32)],
   w64 (keyVersion s (objKey 4 n)), w64 (keyVersion s (partKey n)), w64 (keyVersion s (quotaKey n)),
   pack ((List.range d.homes.length).map (fun j => (d.homes.getD j 0, 5 * j)))]
    ++ (d.ranges.map (fun r => [pack [(r.switch, 0), (r.did, 16), (r.size / twoMiB, 32)], w64 r.base])).flatten
    ++ (List.range d.participants.length).map (fun p =>
        let h := d.participants.getD p (0, 0)
        pack [(h.1, 0), (h.2, 8), (b2n (d.cut.contains p), 16)])

/-- What the manager switch sends to a switch that joins. -/
def fabricWords (s : State) : List Word :=
  [pack [(s.obl.heartbeatUs, 0), (s.obl.mgrLossMs, 16), (s.obl.standbySwitch, 32), (b2n s.obl.standbyEn, 40)],
   w64 (keyVersion s (objKey 0xB (2 * 2 ^ 48)))]
    ++ ((s.dir.domains.filter (fun e => e.2.defined)).map (fun e => domWords s e.1 e.2)).flatten

/-- One block: the domain's number, its versions, the domain, and the words that follow. -/
def readDom (ws : List Word) : Nat × Nat × Nat × Nat × Domain × List Word :=
  let h := nth ws 0
  let nr := fld h 15 8
  let nh := fld h 23 16
  let np := fld h 47 32
  let rs := (List.range nr).map (fun j =>
    let a := nth ws (5 + 2 * j)
    (⟨fld a 4 0, fld a 27 16, (nth ws (6 + 2 * j)).toNat, fld a 63 32 * twoMiB⟩ : DomRange))
  let ps := (List.range np).map (fun p => nth ws (5 + 2 * nr + p))
  let cut := (List.range np).filter (fun p => bit (ps.getD p 0) 16)
  (fld h 5 0, (nth ws 1).toNat, (nth ws 2).toNat, (nth ws 3).toNat,
   ⟨true, rs, ps.map (fun w => (fld w 4 0, fld w 13 8)), (List.range nh).map (fun j => fld (nth ws 4) (5 * j + 4) (5 * j)),
     fld h 31 24, 16, cut⟩, ws.drop (5 + 2 * nr + np))

/-- Remove every attachment to a domain, as DETACH would, with its snoops (10 R308); the caller forgets what the old
definition's entries said. -/
def detachAll (n : Nat) : List (Nat × Nat × Nat) → State → State
  | [], s => s
  | (h, i, m) :: rest, s =>
    detachAll n rest <|
      if m = n then
        match participantOf (getDomain s n) s.glb.switchId h with
        | some p => walkDomain n p (unattach h i n s)
        | none => unattach h i n s
      else s

/-- Adopt the domains listed; `n` blocks at most. A domain that changes loses its attachments first. -/
def adoptDoms : Nat → List Word → List Nat → State → State × List Nat
  | 0, _, seen, s => (s, seen)
  | k + 1, ws, seen, s =>
    if ws.isEmpty then (s, seen)
    else
      let (n, v, vp, vq, d, rest) := readDom ws
      let old := getDomain s n
      let same := old.defined && old.ranges == d.ranges && old.participants == d.participants
      let s1 := if same then s else forgetDomain n (detachAll n s.dir.attach s)
      adoptDoms k rest (seen ++ [n])
        (setVer (objKey 4 n) v (setVer (partKey n) vp (setVer (quotaKey n) vq
          (setDomain n { d with ways := if old.defined then old.ways else 16 } s1))))

/-- Drop the domains that the manager switch no longer has. -/
def dropDoms (seen : List Nat) : List Nat → State → State
  | [], s => s
  | n :: ns, s =>
    dropDoms seen ns <|
      if seen.contains n then s
      else setVer (objKey 4 n) 0 (setVer (partKey n) 0 (setVer (quotaKey n) 0
        (setDomain n Domain.reset (forgetDomain n (detachAll n s.dir.attach s)))))

/-- The joining switch adopts the fabric's state with the manager switch's versions (10 R308). -/
def adoptFabric (ws : List Word) (s : State) : State :=
  let h := nth ws 0
  let s1 := setVer (objKey 0xB (2 * 2 ^ 48)) ((nth ws 1).toNat - 1)
    { s with obl := { s.obl with heartbeatUs := fld h 15 0, mgrLossMs := fld h 31 16, standbySwitch := fld h 36 32,
                                 standbyEn := bit h 40 } }
  let r := adoptDoms 64 (ws.drop 2) [] s1
  dropDoms r.2 (tkeys r.1.dir.domains) r.1

/-- A switch joins: at the manager switch `sw` is the one that joins, and it is sent the definitions; at the
joining switch they arrive (10 R308). -/
def switchJoin (sw : Nat) (defs : ReadData) (s : State) : State :=
  if isManager s then
    sendBypass sw (.defs (fabricWords s)) { s with obl := { s.obl with
      reach := s.obl.reach ||| (1#32 <<< sw), resend := s.obl.resend.filter (fun e => e.1 != sw) } }
  else
    match defs with
    | some ws => adoptFabric ws { s with obl := { s.obl with reach := s.obl.reach ||| (1#32 <<< sw), mgrSwitch := sw } }
    | none => s

def execSwitchJoin (sw : Nat) (defs : ReadData) (s : State) : Out := inUnit "switch" sw 32 (.next (switchJoin sw defs s))

end Sys2Proof.Machine
end

