-- ==== Sys2Proof/Machine/Path.lean ====
section
/-! DEFINITION. The path of a request through the switch: decode, translation, window check, home or queue
(01 R28, R29; 03 R79; 04 R107-R121; 05 R138-R159; 08 R242; 09 R263-R265), and of a response back. -/

namespace Sys2Proof.Machine

/-! ## Stamps (04 R121; 05 R138, R152, R153) -/

/-- The host address space in which a request's address lies, if it is that of a host. -/
def routeHost (r : Request) : Option Nat :=
  match r.route with
  | .aperture h => some h
  | .range h _ => h
  | _ => none

/-- The pages of a request's first and last byte. -/
def reqPages (r : Request) : List Nat :=
  let a := r.addr / 4096
  let b := (r.addr + max 1 r.len - 1) / 4096
  if a = b then [a] else [a, b]

/-- The stamps that the decode stage gives a request now. It enters its host's aperture if a byte of it lies there (05
R138). -/
def stampNow (r : Request) (s : State) : Stamped :=
  let out : Stamped := ⟨r, s.gh.route.stamping, 0, 0, none, 0⟩
  match routeHost r with
  | some h =>
    let e := (getHost s h).win.stamping
    if (reqPages r).any (inAperture (winAt s h e)) then
      { out with mapGen := (getHost s h).map.stamping, epoch := e, host := some h }
    else out
  | none => out

/-- The access counts in flight in its generations. -/
def stampInc (x : Stamped) (s : State) : State :=
  let s1 := routeInc x.gen s
  match x.host with
  | some h => hostInc h x.mapGen x.epoch s1
  | none => s1

/-- It counts no longer: it has ended, or counts as the transactions made for it. -/
def stampDec (x : Stamped) (s : State) : State := routeDec x.gen (hostDec x.host x.mapGen x.epoch s)

/-! ## Parts (05 R148, R149) -/

/-- The first `n` bytes of a list of words, eight bytes to a word, the lowest address in the low byte. -/
def takeBytes : Nat → List Word → List Word
  | _, [] => []
  | n, w :: ws => if n = 0 then [] else if n < 8 then [w &&& ((1#64 <<< (8 * n)) - 1#64)] else w :: takeBytes (n - 8) ws

/-- Drop the first `r` bytes, fewer than eight. -/
def shiftWords (r : Nat) : List Word → List Word
  | [] => []
  | [w] => [w >>> (8 * r)]
  | w :: v :: ws => (w >>> (8 * r) ||| v <<< (64 - 8 * r)) :: shiftWords r (v :: ws)

/-- The bytes from byte `n` on. -/
def dropBytes (n : Nat) (l : List Word) : List Word := if n % 8 = 0 then l.drop (n / 8) else shiftWords (n % 8) (l.drop (n / 8))

/-- The request takes the fallback path: longer than 64 bytes or crossing a 64-byte line (05 R149). -/
def onFallback (r : Request) : Bool := isPcie r.kind && (decide (64 < r.len) || decide (64 < r.addr % 64 + r.len))

/-- One part of a request: its address, its bytes and its data. -/
structure Part where
  addr : Nat
  len : Nat
  data : List Word

/-- The parts of a request: split at a 4 KiB boundary on the fallback path, if it enters an aperture (05 R149). -/
def partsOf (x : Stamped) : List Part :=
  let r := x.req
  let n := 4096 - r.addr % 4096
  if x.host.isSome && onFallback r && decide (n < r.len) then
    [⟨r.addr, n, takeBytes n r.data⟩, ⟨r.addr + n, r.len - n, dropBytes n r.data⟩]
  else [⟨r.addr, r.len, r.data⟩]

/-- The right that a request needs (05 R141). -/
def needOf (r : Request) : Need :=
  match r.kind with
  | .memRd _ => if r.fetch then .x else .r
  | .pcieRd => if r.fetch then .x else .r
  | .cacheReq => .r
  | .memWr _ => .w
  | .pcieWr => .w
  | .memInv => .w
  | .atomic => .rw
  | .memClnEvict => .none

/-- What is found of one part: denied or unmapped; `bad` one whose map-store entry is uncorrectable (05 R150, R159); a DID
and device address by the map; or, outside every aperture, a DID by the virtual switch's ranges, by PID or bus number, the
way up through a function, or nothing. -/
inductive PartResult where
  | denied | unmapped | bad
  | ok (did devAddr : Nat) (huge migrating : Bool)
  | direct (did : Nat)
  | up (f : Fn)
  | lost
deriving DecidableEq, Repr

/-- A unit of the switch that issues accesses on the function `f`'s behalf: that of its VF, or the management PF's. -/
def unitFn (r : Request) : Fn :=
  match r.vf with
  | some v => if r.level = 2 then .vf v else .pf
  | none => .pf

/-- Where a part outside every aperture goes (04, Routing tables and generations; 05 R138, R140): one that no memory range of
its host's virtual switch holds goes nowhere, but for an access of the switch itself, which goes up to the host. -/
def directResult (s : State) (x : Stamped) : PartResult :=
  match x.req.route with
  | .aperture _ => if ownUnit x.req.ingress then .up (unitFn x.req) else .lost
  | .range _ did => .direct did
  | .upstream f => .up f
  | .pid did => .direct did
  | .bus vs b => match busDid s x.gen vs b with
    | some d => .direct d
    | none => .lost

/-- Translate and check one part under its stamps (05 R148-R152). `storeBad`: its map-store entry is uncorrectable
(05 R159). -/
def checkPart (s : State) (x : Stamped) (storeBad : Bool) (p : Part) : PartResult :=
  match x.host with
  | none => directResult s x
  | some h =>
    let t := winAt s h x.epoch
    let page := p.addr / 4096
    let e := mapLookup (mapAt s h x.mapGen) (page - aperPage t)
    if !(inAperture t page) then directResult s x
    else if storeBad then .bad
    else if !(winGrants t page x.req.level x.req.vf (needOf x.req)) then .denied
    else if !e.valid then .unmapped
    else .ok e.did (devAddr e p.addr) e.huge e.migrating

/-- The parts and what is found of each; `bad` is the part whose map-store entry is uncorrectable, if one is. -/
def checkAll (s : State) (x : Stamped) (bad : Option Nat) : List (Part × PartResult) :=
  (partsOf x).mapIdx (fun i p => (p, checkPart s x (bad == some i) p))

/-- Some part's map-store entry is uncorrectable (05 R159). -/
def anyBad (l : List (Part × PartResult)) : Bool := l.any (fun e => e.2 == .bad)

/-! ## Results that the switch gives itself (03 R100; 04 R119; 05 R150) -/

/-- A port engine logs an error in AER, or has it waiting while it is stopped (01 R36; 03 R100); the bits of the status words
are PCIe's own (log entry 139). -/
def engineLog (p bitNo : Nat) (s : State) : State :=
  if 112 ≤ p then s
  else
    let x := getPort s p
    if x.engRunning then setPort p { x with aer := x.aer ||| (1#32 <<< bitNo) } s
    else setPort p { x with engWork := x.engWork ++ [.log bitNo] } s

/-- The bits of the AER uncorrectable error status that the switch logs (log entry 139). -/
def AER_POISONED : Nat := 12
def AER_UNEXPECTED : Nat := 16
def AER_MALFORMED : Nat := 18
def AER_UNSUPPORTED : Nat := 20

/-- The result of a denied or an unmapped request; none for one that has none (05 R150). -/
def refusalKind (r : Request) (denied : Bool) : Option RspKind :=
  if ownUnit r.ingress && !(onFallback r) then some (if denied then .denied else .unmapped)
  else match r.kind with
    | .pcieWr => none
    | .memRd _ => some .poison
    | .memWr _ => some .cmp
    | .memInv => some .cmp
    | .memClnEvict => some .cmp
    | _ => some (if denied then .abort else .unsupported)

/-- The bytes that a request brings into the Great Hall. -/
def reqBytes (k : ReqKind) (n : Nat) : Nat := if kindData k then n else 0

/-- The class and the cells of a request at its ingress. -/
def reqClass (r : Request) : Nat := reqFcc r.ingress r.tag r.kind
def reqCells (r : Request) : Nat := cellsOf (reqBytes r.kind r.len)

/-- Answer a request before it has entered a queue: in the queue of its traffic class (log entry 36). A posted write of a
port has no answer. The cells of one that came over a link return to that link's credit. -/
def endRequest (r : Request) (k : Option RspKind) (s : State) : State :=
  let s1 := creditBack r.ingress (reqClass r) (reqCells r) s
  match k with
  | some k =>
    if r.kind == .pcieWr && !(ownUnit r.ingress) then s1
    else forwardRsp 128 ⟨r.ingress, r.tc % 16, r.tag, r.kind, r.remote⟩ k [] [] s1
  | none => s1

/-- End a request that finds no valid bus or DID entry; the engine of its port logs the event (04 R119). -/
def endLost (r : Request) (s : State) : State :=
  endRequest r (some (lostFor r.ingress r.kind)) (if r.remote.isSome then s else engineLog r.ingress AER_UNSUPPORTED s)

/-- End a request toward a target that is down (03 R79). -/
def endDown (r : Request) (s : State) : State := endRequest r (some (downFor r.ingress r.kind)) s

/-- TYPE of WIN_DENY_INFO (05 R160). The codes name no MemInv, which needs W: it is recorded as a write (log entry 140). -/
def denyType (r : Request) : Nat :=
  if r.fetch then 2
  else match r.kind with
    | .atomic => 3
    | .memWr _ => 1
    | .pcieWr => 1
    | .memInv => 1
    | _ => 0

/-- WIN_DENY_INFO[31:0] of a denial (05 R160). -/
def denyInfo (r : Request) (isPart : Bool) : Nat := 1 + 2 * (r.level % 4) + 8 * denyType r + 64 * b2n isPart + 256 * r.ingress

/-- Count and record a request's denied and unmapped parts, unless a map-store entry was uncorrectable, which counts in
neither (05 R151, R159; 12 R346). -/
def noteResults (x : Stamped) (l : List (Part × PartResult)) (s : State) : State :=
  let r := x.req
  match x.host with
  | none => s
  | some h =>
    if anyBad l then
      pulse 15 (unitCode 11 h) (((l.find? (fun e => e.2 == .bad)).map (fun e => w64 e.1.addr))) none s
    else
      let isPart := decide (2 ≤ l.length)
      let s1 :=
        match l.find? (fun e => e.2 == .denied) with
        | some (p, _) =>
          let s1 := recordDenial h p.addr r.level (denyType r) isPart r.ingress x.epoch s
          match r.vf with
          | some v => if r.level = 2 then vfEvent v 4 (denyInfo r isPart) (w64 p.addr) s1 else s1
          | none => s1
        | none => s
      if l.any (fun e => e.2 == .unmapped) then recordNomap h s1 else s1

/-! ## Heat (07 R189-R191, 12 R342) -/

/-- The VF granted the window that holds a page. -/
def pageVf (t : WinTable) (page : Nat) : Option Nat :=
  match winFind t page with
  | some w => if w.vfValid then some w.vf else none
  | none => none

/-- Valid heat entries of pages in the VF's windows on its host. -/
def vfHeat (s : State) (v : Nat) : Nat :=
  let h := (getVf s v).host
  let t := winNow s h
  (s.tel.heat.filter (fun e => match e.2 with
    | some x => x.host == h && pageVf t x.page == some v
    | none => false)).length

/-- Count one translated access (07 R189, R190). -/
def noteHeat (h : Nat) (x : Stamped) (page : Nat) (huge home full bad : Bool) (s : State) : State :=
  if x.req.level = 3 then s
  else
    let write := match x.req.kind with | .memWr _ => true | .pcieWr => true | .atomic => true | _ => false
    let capped := match pageVf (winAt s h x.epoch) page with
      | some v => vfExists (getVf s v) && decide ((getVf s v).heatMax ≤ vfHeat s v)
      | none => false
    heatAccess h page huge write home full bad capped s

/-! ## Where a transaction goes (04 R117, R119; 10 R300, R303, R304) -/

/-- The flow of a message: source ingress, destination switch and channel, from this switch. -/
def flowKey (dest ingress vc : Nat) : Nat := (dest * 256 + ingress) * 4 + vc

def getFlow (s : State) (k : Nat) : TxFlow := tget TxFlow.reset s.obl.txFlows k
def setFlow (k : Nat) (f : TxFlow) (s : State) : State :=
  { s with obl := { s.obl with txFlows := tput TxFlow.reset s.obl.txFlows k f } }

/-- A link egress that works. -/
def linkOk (s : State) (e : Nat) : Bool :=
  decide (112 ≤ e) && decide (e < 120) && linkWorks s (e - 112) && !(s.flt.joining.contains (unitCode 6 (e - 112)))

/-- The link that a flow's next message takes: the one it is on while that works, else the first of two that
works (10 R300, R303). -/
def flowLink (s : State) (k primary alt : Nat) : Option Nat :=
  match (getFlow s k).link with
  | some l => if linkWorks s l then some l
    else if linkOk s primary then some (primary - 112) else if linkOk s alt then some (alt - 112) else none
  | none => if linkOk s primary then some (primary - 112) else if linkOk s alt then some (alt - 112) else none

/-- Where a DID leads: nowhere, to a port that is down, to a switch that cannot be reached (over the link egress
named), to a function that bus mastering is off for, or to an egress, over a link with the destination switch and DID. -/
inductive Target where
  | lost | down | barred
  | unreachable (primary switch : Nat)
  | go (egress : Nat) (dest : Option (Nat × Nat))
deriving DecidableEq, Repr

/-- The target of a DID entry for a message of channel `vc` from `ingress`. An entry with REMOTE 0 that names an Obmulum link
leads nowhere that the spec says: as to a port that is down (log entry 142). -/
def targetOf (s : State) (e : Word) (ingress vc : Nat) : Target :=
  let p := fld e 9 2
  if !(bit e 0) then .lost
  else if bit e 1 then
    let sw := fld e 19 15
    match flowLink s (flowKey sw ingress vc) p (fld e 27 20) with
    | some l => .go (112 + l) (some (sw, fld e 39 28))
    | none => .unreachable p sw
  else if p < 112 then (if portCreated s p && (getPort s p).linkUp then .go p none else .down)
  else if p < 120 then .down
  else .go p none

/-- A destination switch has no working link: OBL_UNREACHABLE is raised by the DID's link until it is reachable
(10 R302). -/
def noteUnreachable (p sw : Nat) (s : State) : State :=
  let u := if 112 ≤ p ∧ p < 120 then unitCode 6 (p - 112) else unitCode 0 0
  let l := if s.obl.unreach.contains (u, sw) then s.obl.unreach else s.obl.unreach ++ [(u, sw)]
  assertLine 26 u none none { s with obl := { s.obl with unreach := l } }

/-! ## Metering and admission (09 R263-R265; 04 R111) -/

/-- A later request of this ingress, class and kind must wait behind the held one (09 R265). -/
def mustFollow (h : HeldReq) (ingress tc : Nat) (k : ReqKind) : Bool :=
  h.txn.ingress == ingress && h.tc == tc &&
    (if isPcie k then isPcie h.kind && (k != .pcieWr || h.kind == .pcieWr)
     else !(isPcie h.kind) && (h.kind == .cacheReq) == (k == .cacheReq) && kindData h.kind == kindData k)

/-- Count a new transaction in its generations; its number is taken. -/
def enroll (t : Txn) (s : State) : State :=
  let s1 := routeInc t.gen (nextId s).2
  match t.host with
  | some h => hostInc h t.mapGen t.epoch s1
  | none => s1

/-- Change the wait of one transaction. -/
def updWait (id : Nat) (f : Wait → Wait) (s : State) : State :=
  { s with gh := { s.gh with waits := s.gh.waits.map (fun w => if w.id == id then f w else w) } }

/-- A request enters the home of its line here: its cells are charged, toward egress 128, as R111 charges a transaction, and
stay so while it waits (04 R111, 06 R179; log entry 37). -/
def homeEnter (yellow : Bool) (t : Txn) (r : HomeReq) (k : HomeKind) (s : State) : State :=
  let shared := sharedFits s (homeQ t.queue) t.cells yellow
  homeArrive r k (mirror t (updWait t.id (fun w => { w with cells := t.cells, shared := shared })
    (if t.cells = 0 then s else chargeWait shared t.ingress t.fcc t.queue t.cells s)))

/-- A request that its policer lets through enters the home here, or its queue. -/
def enter (yellow : Bool) (t : Txn) (s : State) : State :=
  match t.body with
  | .home _ r k => if t.egress = 128 then homeEnter yellow t r k s else takeIn yellow t s
  | _ => takeIn yellow t s

/-- Hold a red request, charged to its ingress's reserve (09 R265). -/
def holdRed (p tc : Nat) (k : ReqKind) (t : Txn) (s : State) : State :=
  let s1 := shareCells false t.ingress t.fcc t.cells s
  { s1 with sched := { s1.sched with held := s1.sched.held ++ [⟨p, t, k, tc⟩] } }

/-- Meter a request and let it in, or hold it (09 R263-R265). -/
def meterAdmit (p tc : Nat) (k : ReqKind) (t : Txn) (s : State) : State :=
  let m := policerMeter s.time.localNs (64 * t.cells) (getPolicer s p)
  let s1 := setPolicer p (policerCount m.1 m.2) s
  match m.1 with
  | .red => holdRed p tc k t s1
  | .yellow => enter true t s1
  | .green => enter false t s1

/-- Admit a request that has been enrolled: behind a held one, by its policer, or at once. -/
def admitRequest (r : Request) (t : Txn) (s : State) : State :=
  match s.sched.held.find? (fun h => mustFollow h t.ingress r.tc r.kind) with
  | some h => holdRed h.policer r.tc r.kind t s
  | none =>
    match policerFor s t.ingress r.tc r.vf with
    | some p => meterAdmit p r.tc r.kind t s
    | none => enter false t s

/-- A held request's home is full: it goes on when a wait slot that it may take is free (06 R179). -/
def heldFull (s : State) (h : HeldReq) : Bool :=
  match h.txn.body with
  | .home _ r k => h.txn.egress == 128 && homeFull s r k
  | _ => false

/-- The first held request of policer `p` that its peak bucket holds enough for and that need not wait behind an earlier held
one, `before` those already passed (09 R265). -/
def heldReady (s : State) (p tp : Nat) : List HeldReq → List HeldReq → Option HeldReq
  | _, [] => none
  | before, h :: hs =>
    if h.policer = p && decide (64 * h.txn.cells * 1000 ≤ tp) && !(before.any (fun e => mustFollow e h.txn.ingress h.tc h.kind))
      && !(heldFull s h)
    then some h else heldReady s p tp (before ++ [h]) hs

/-- A held request of a policer is metered again once its peak bucket holds enough (09 R265). -/
def releaseHeld (p : Nat) (s : State) : State :=
  match heldReady s p (policerFill s.time.localNs (getPolicer s p)).tp [] s.sched.held with
  | none => s
  | some h =>
    meterAdmit p h.tc h.kind h.txn (shareCells true h.txn.ingress h.txn.fcc h.txn.cells
      { s with sched := { s.sched with held := s.sched.held.filter (fun x => x.txn.id != h.txn.id) } })

def execPolicerRelease (p : Nat) (s : State) : Out := inUnit "policer" p 4096 (.next (releaseHeld p s))

/-! ## Sending one part to its target -/

/-- A wait for a part's answer. -/
def waitOf (x : Stamped) (id parent queue target : Nat) : Wait :=
  let r := x.req
  { id := id, parent := parent, ingress := r.ingress, queue := queue, target := target, gen := x.gen, host := x.host,
    mapGen := x.mapGen, epoch := x.epoch, kind := r.kind, done := none, line := none, shadow := false, domain := false,
    cells := 0, shared := false, rtag := r.tag, dla := none, vf := if r.level = 2 then r.vf else none, remote := r.remote,
    far := none }

def addWait (w : Wait) (s : State) : State := { s with gh := { s.gh with waits := s.gh.waits ++ [w] } }

/-- The window of a page is shared. -/
def pageShared (s : State) (x : Stamped) (page : Nat) : Bool :=
  match x.host with
  | some h => (match winFind (winAt s h x.epoch) page with
    | some w => w.shared
    | none => false)
  | none => false

/-- The channel that a request of this kind takes on a link (10 R284). -/
def kindVc (k : ReqKind) : Nat := if kindData k then 3 else 0

/-- One piece of a request on its way: its part, where it goes, its device address, the request's transaction if an earlier
piece has it, the line of a migrating page whose block it takes, and whether it is the write to such a line's second
location. `up` is the function that an access of the switch goes up through, `did` the DID of any other. -/
structure Piece where
  part : Part
  did : Nat
  up : Option Fn
  addr : Nat
  parent : Option Nat
  line : Option (Nat × Nat)
  shadow : Bool

/-- The queue of a piece (04 R115, R117): up through a function, that of its traffic class (log entry 36). -/
def pieceQueue (s : State) (x : Stamped) (p : Piece) : Nat :=
  if p.up.isSome then x.req.tc % 16 else didQueue (didEntry s x.gen p.did) (x.req.tc % 16)

/-- The source of a request: its switch and its ingress there. -/
def srcOf (s : State) (r : Request) : Nat × Nat := (r.remote.map (fun x => (x.1, x.2.1))).getD (s.glb.switchId, r.ingress)

/-- The way up to the host through a function: its port, unless bus mastering is off there (05 R140). -/
def upTarget (s : State) (f : Fn) : Target :=
  if !(fnBme s f) then .barred
  else if (getPort s s.host.pfPort).linkUp then .go s.host.pfPort none else .down

/-- The target of a piece; a CXL.cache transaction does not leave over a link (11 R323). -/
def pieceTarget (s : State) (x : Stamped) (p : Piece) : Target :=
  match p.up with
  | some f => upTarget s f
  | none =>
    if x.req.kind == .cacheReq && bit (didEntry s x.gen p.did) 1 then .lost
    else targetOf s (didEntry s x.gen p.did) x.req.ingress (kindVc x.req.kind)

/-- A locked read of the owner of a broken lock, before its next Unlock (11 R326). -/
def lockAborts (s : State) (r : Request) (eg : Nat) : Bool :=
  r.locked && decide (eg < 112) && (getPort s eg).brokenLock == some (srcOf s r)

/-- Remember the link that a flow is on (10 R303). -/
def noteFlow (r : Request) (eg : Nat) (dest : Option (Nat × Nat)) (s : State) : State :=
  match dest with
  | some (sw, _) =>
    let f := flowKey sw r.ingress (kindVc r.kind)
    setFlow f { getFlow s f with link := some (eg - 112) } s
  | none => s

/-- What a request's target makes of it where it has no way to it (03 R79; 04 R119; 10 R302; 05 R140). -/
def endTarget (r : Request) (t : Target) (s : State) : State :=
  match t with
  | .lost => endLost r s
  | .down => endDown r s
  | .barred => endRequest r (some .abort) s
  | .unreachable l sw => noteUnreachable l sw (endDown r s)
  | .go _ _ => s

/-- What mirror capture sees of a piece beside its numbers (04 R129, R132). -/
def pieceNote (s : State) (x : Stamped) (miss : Bool) (p : Piece) : CapNote :=
  ⟨(routeHost x.req).map (fun _ => p.part.addr), pageShared s x (p.part.addr / 4096), miss, x.req.hdr⟩

/-- Send one piece to its target (04 R111, R117, R119; 03 R79; 10 R302). A second location that cannot be reached gets
nothing. -/
def sendPiece (x : Stamped) (miss : Bool) (p : Piece) (s : State) : State :=
  let r := x.req
  match pieceTarget s x p with
  | .go eg dest =>
    if lockAborts s r eg then (if p.shadow then s else endRequest r (some .abort) s) else
    let q := pieceQueue s x p
    let id := s.gh.nextTxn
    let r1 := { r with addr := p.part.addr, len := p.part.len, data := p.part.data }
    let t : Txn := { newTxn s r.ingress eg q (reqBytes r.kind p.part.len) (reqClass r) x.gen (r.kind == .pcieWr)
        (.req r1 p.addr) with
      host := x.host, mapGen := x.mapGen, epoch := x.epoch, dest := dest
      srcSwitch := (srcOf s r).1, srcIngress := (srcOf s r).2, note := pieceNote s x miss p }
    let cxl := decide (eg < 112) && (getPort s eg).proto != 0
    let w := { waitOf x id (p.parent.getD id) q eg with line := p.line, shadow := p.shadow, far := dest.map (·.1) }
    let s1 := if r.kind != .pcieWr || cxl || p.line.isSome then addWait w s else s
    admitRequest r t (enroll t (noteFlow r eg dest s1))
  | .unreachable l sw => if p.shadow then noteUnreachable l sw s else noteUnreachable l sw (endDown r s)
  | t => if p.shadow then s else endTarget r t s

/-! ## Domain accesses (06 R169, R170, R178) -/

/-- The expander that a DID leads to: its switch and its DID there (04 R117). -/
def expanderOf (s : State) (gen did : Nat) : Nat × Nat :=
  let e := didEntry s gen did
  if bit e 1 then (fld e 19 15, fld e 39 28) else (s.glb.switchId, did)

/-- The domain and offset of a piece, if a domain covers it (06 R169). -/
def accessDomain (s : State) (gen : Nat) (p : Piece) : Option (Nat × Nat) :=
  if p.up.isSome then none
  else
    let x := expanderOf s gen p.did
    domainOf s x.1 x.2 p.addr

/-- The window of page `page` that host `h` reaches it through is attached to the domain (06 R169). -/
def viaAttached (s : State) (h epoch page d : Nat) : Bool :=
  (winAt s h epoch).entries.any (fun e => e.2.valid && decide (e.2.base ≤ page) && decide (page ≤ e.2.limit)
    && s.dir.attach.contains (h, e.1, d))

/-- The participant that a caching access comes from, none for a non-caching access (06 R169). -/
def cachingBy (s : State) (x : Stamped) (page d : Nat) : Option Nat :=
  match x.host with
  | some h =>
    if !(isPcie x.req.kind) && x.req.kind != .cacheReq && x.req.level == 1 && viaAttached s h x.epoch page d then
      match participantOf (getDomain s d) s.glb.switchId h with
      | some p => if (getDomain s d).cut.contains p then none else some p
      | none => none
    else none
  | none => none

/-- What the home does for a request of this kind; none where the home returns Cmp at once (06 R178; log entry 39). -/
def homeKindOf (k : ReqKind) (caching : Bool) : Option HomeKind :=
  match k with
  | .memRd m => some (if caching then readKind m else .ncRead)
  | .memInv => if caching then some .memInv else none
  | .memClnEvict => if caching then some .cleanEvict else none
  | .memWr m => some (if caching then .writeback (m == .S) else .ncWrite)
  | .pcieRd => some .ncRead
  | .cacheReq => some .ncRead
  | .pcieWr => some .ncWrite
  | .atomic => some .ncWrite

/-- The request of a piece at its home. -/
def homeReqOf (s : State) (x : Stamped) (p : Piece) (d off : Nat) (id : Nat) : HomeReq :=
  { dla := dlaOf d off, domain := d, participant := cachingBy s x (p.part.addr / 4096) d,
    md := (match x.req.kind with | .memRd m => m | .memWr m => m | _ => .I), posted := x.req.kind == .pcieWr,
    source := x.req.ingress, remote := x.req.remote.isSome, ecc0 := .ok, ecc1 := .ok, tag := id, off := p.part.addr % 64,
    len := p.part.len, poison := x.req.poison, data := p.part.data }

/-- The answer of a caching access that reads or takes a line is acknowledged by its requester (06 R175). -/
def acked (caching : Bool) (k : HomeKind) : Bool := caching && ackedKind k

/-- Send one line of a domain access to its home: here, or over the fabric (06 R170). The cells of a request whose home is here
are charged with its first line. -/
def sendDomain (x : Stamped) (miss : Bool) (p : Piece) (d off : Nat) (s : State) : State :=
  let r := x.req
  let home := homeOf (getDomain s d) off
  let id := s.gh.nextTxn
  let q := pieceQueue s x p
  let hr := homeReqOf s x p d off id
  let w := { waitOf x id (p.parent.getD id) q 128 with domain := true }
  match homeKindOf r.kind hr.participant.isSome with
  | none => endRequest r (some .cmp) s
  | some k =>
    let t : Txn := { newTxn s r.ingress 128 q (reqBytes r.kind p.part.len) (reqClass r) x.gen (r.kind == .pcieWr)
        (.home (isPcie r.kind) hr k) with
      host := x.host, mapGen := x.mapGen, epoch := x.epoch, note := pieceNote s x miss p }
    if home = s.glb.switchId then
      let first := match p.parent with
        | some n => n == id
        | none => true
      let s1 := (nextId (addWait w s)).2
      let s2 := match x.host with
        | some h => hostInc h x.mapGen x.epoch s1
        | none => s1
      admitRequest r { t with cells := if first then reqCells r else 0 } s2
    else
      let re := getRouteEnt s home
      match flowLink s (flowKey home r.ingress (kindVc r.kind)) re.primary re.alt with
      | none => noteUnreachable re.primary home (endDown r s)
      | some l =>
        let dest := some (home, (expanderOf s x.gen p.did).2)
        let w1 := { w with target := 112 + l, far := some home, dla := if acked hr.participant.isSome k then some hr.dla else none }
        admitRequest r { t with egress := 112 + l, dest := dest }
          (enroll t (noteFlow r (112 + l) dest (addWait w1 s)))

/-! ## Migrating pages (08 R242) -/

/-- The migration that holds a page of host `h`. -/
def migOf (s : State) (h page : Nat) : Option (Nat × Migration) :=
  s.move.migs.findSome? (fun e => match e.2 with
    | some m => if m.host == h && decide (m.page ≤ page) && decide (page < m.page + (if m.huge then 512 else 1))
                then some (e.1, m) else none
    | none => none)

/-- The migration of the page that a translated piece lies in. -/
def pieceMig (s : State) (x : Stamped) (p : Piece) : Option (Nat × Migration) :=
  match x.host with
  | some h => if inAperture (winAt s h x.epoch) (p.part.addr / 4096) then migOf s h (p.part.addr / 4096) else none
  | none => none

/-- The line of the page that an address lies in. -/
def migLine (m : Migration) (addr : Nat) : Nat := (addr - m.page * 4096) / 64

/-- The line's block is taken: by its copy, or by another access (08 R242, R246). -/
def migBlocked (s : State) (k line : Nat) : Bool := lineHeld s k line || (copyingLines s k).contains line

/-- The two locations of a line of a migrating page: (DID, address) old and new. -/
def migOld (m : Migration) (addr : Nat) : Nat × Nat := (m.oldEnt.did, m.oldEnt.pfn * 4096 + (addr - m.page * 4096))
def migNew (m : Migration) (addr : Nat) : Nat × Nat := (m.destDid, m.destPfn * 4096 + (addr - m.page * 4096))

/-- A request writes. -/
def writes (k : ReqKind) : Bool := kindData k

/-- An access goes to both locations: a write to a copied line until SETTLE ends (08 R242, R243). -/
def migBoth (m : Migration) (k : ReqKind) (addr : Nat) : Bool :=
  writes k && (match m.state with
    | .copy => m.copied.contains (migLine m addr)
    | .swap => true
    | .settle => true
    | _ => false)

/-- A target can be reached. -/
def reachable : Target → Bool
  | .go _ _ => true
  | _ => false

/-- Send one line of a migrating page: to the old location, or in SETTLE to the new, and a write of a copied line to
both (08 R242, R243). A second location that fails before SWAP undoes the migration. -/
def sendMig (x : Stamped) (miss : Bool) (p : Piece) (k : Nat) (m : Migration) (s : State) : State :=
  let a := p.part.addr
  let settle := m.state == .settle
  let first := if settle then migNew m a else migOld m a
  let second := if settle then migOld m a else migNew m a
  let id := p.parent.getD s.gh.nextTxn
  let main := { p with did := first.1, addr := first.2, line := some (k, migLine m a) }
  let other := { main with did := second.1, addr := second.2, parent := some id, shadow := true }
  if !(migBoth m x.req.kind a) then sendPiece x miss main s
  else if !(reachable (pieceTarget s x other)) then sendPiece x miss main (if m.state == .copy then undoMig k J_DEST s else s)
  else if reachable (pieceTarget s x main) then sendPiece x miss other (sendPiece x miss main s)
  else sendPiece x miss main s

/-! ## Sending the pieces of a request -/

/-- The 64-byte lines of a part. -/
def lineParts : Nat → Part → List Part
  | 0, _ => []
  | n + 1, p =>
    let k := 64 - p.addr % 64
    if p.len = 0 then []
    else if p.len ≤ k then [p]
    else ⟨p.addr, k, takeBytes k p.data⟩ :: lineParts n ⟨p.addr + k, p.len - k, dropBytes k p.data⟩

/-- What a part that goes to `p` turns into: whole, or line by line where a home or a migration has its lines. -/
def piecesOf (s : State) (x : Stamped) (p : Piece) : List Piece :=
  let byLine := (accessDomain s x.gen p).isSome || (pieceMig s x p).isSome
  (if byLine then lineParts 65 p.part else [p.part]).map (fun q => { p with part := q, addr := p.addr + (q.addr - p.part.addr) })

/-- Send one piece where it belongs. -/
def routePiece (x : Stamped) (miss : Bool) (p : Piece) (s : State) : State :=
  match pieceMig s x p with
  | some (k, m) => sendMig x miss p k m s
  | none =>
    match accessDomain s x.gen p with
    | some (d, off) => sendDomain x miss p d off s
    | none => sendPiece x miss p s

/-- Send pieces in address order; those after the first belong to the first one's request. -/
def routePieces (x : Stamped) (miss : Bool) : List Piece → State → State
  | [], s => s
  | p :: ps, s => routePieces x miss ps (routePiece x miss p s)

/-- Give every piece of a request of several pieces the first one's number. -/
def withParent (n : Nat) (l : List Piece) : List Piece :=
  match l with
  | [p] => [p]
  | ps => ps.map (fun p => { p with parent := some n })

/-- The first piece of a request that has no way to its target, if one has none (04 R119; 03 R79). -/
def badTarget (s : State) (x : Stamped) (l : List Piece) : Option Target :=
  ((l.filter (fun p => (accessDomain s x.gen p).isNone && (pieceMig s x p).isNone)).map (pieceTarget s x)).find?
    (fun t => !(reachable t))

/-- Send the pieces of a request; a request of several that is not a posted write ends as a whole where one piece has no way to
its target (05 R149, R150). -/
def sendParts (x : Stamped) (miss : Bool) (l : List Piece) (s : State) : State :=
  match l, badTarget s x l with
  | [], _ => s
  | _, some t =>
    if x.req.kind != .pcieWr && 2 ≤ l.length then endTarget x.req t s
    else routePieces x miss (withParent s.gh.nextTxn l) s
  | _, none => routePieces x miss (withParent s.gh.nextTxn l) s

/-- A piece must wait before anything of its request happens: in a wait slot for the block of a line of a migrating page, or
upstream, for an earlier posted write of its source to a domain line or for a wait slot (06 R179, R184; 08 R242; 12 R342). -/
inductive Hold where
  | free
  | line (k line : Nat)
  | upstream
deriving DecidableEq, Repr

def holdOf (s : State) (x : Stamped) (p : Piece) : Hold :=
  let r := x.req
  match pieceMig s x p with
  | some (k, m) =>
    if migBlocked s k (migLine m p.part.addr) then
      (if slotFree s (r.kind == .pcieWr) then .line k (migLine m p.part.addr) else .upstream)
    else .free
  | none =>
    match accessDomain s x.gen p with
    | none => .free
    | some (d, off) =>
      let hr := homeReqOf s x p d off 0
      let mine := homeOf (getDomain s d) off == s.glb.switchId
      let behindPosted := isPcie r.kind && s.gh.waits.any (fun w => w.kind == .pcieWr && w.domain && w.ingress == r.ingress)
      let full := match homeKindOf r.kind hr.participant.isSome with
        | some k => mine && homeFull s hr k
        | none => false
      let vfFull := match r.vf with
        | some v => r.level == 2 && mine && lineTaken s hr
            && decide ((getVf s v).dirWaits ≤ (s.dir.waiters.filter (fun w =>
              s.gh.waits.any (fun y => y.id == w.req.tag && y.vf == some v))).length)
        | none => false
      if behindPosted || full || vfFull then .upstream else .free

/-- The first hold of a list of pieces. -/
def holdAll (s : State) (x : Stamped) : List Piece → Hold
  | [] => .free
  | p :: ps =>
    match holdOf s x p with
    | .free => holdAll s x ps
    | h => h

/-! ## The whole path -/

/-- Where one part goes, before it is split into lines. -/
def partPiece (p : Part) : PartResult → Option Piece
  | .ok did addr _ _ => some ⟨p, did, none, addr, none, none, false⟩
  | .direct did => some ⟨p, did, none, p.addr, none, none, false⟩
  | .up f => some ⟨p, 0, some f, p.addr, none, none, false⟩
  | _ => none

/-- The pieces of the parts that may go on. -/
def okPieces (s : State) (x : Stamped) (l : List (Part × PartResult)) : List Piece :=
  (l.filterMap (fun e => partPiece e.1 e.2)).flatMap (piecesOf s x)

/-- Count the translated parts (07 R189; 05 R149). -/
def heatParts (x : Stamped) (full bad : Bool) : List (Part × PartResult) → State → State
  | [], s => s
  | (p, .ok did addr huge _) :: rest, s =>
    heatParts x full bad rest (match x.host with
      | some h => noteHeat h x (p.addr / 4096) huge (accessDomain s x.gen ⟨p, did, none, addr, none, none, false⟩).isSome full bad s
      | none => s)
  | _ :: rest, s => heatParts x full bad rest s

/-- The result that stops the whole request: of a refused part, for every kind but the posted write, or of a part that leads
nowhere (04 R119; 05 R150). A map-store entry that is uncorrectable ends it as unmapped (05 R159). -/
inductive Stop where
  | no | denied | unmapped | lost
deriving DecidableEq, Repr

def stopOf (r : Request) (l : List (Part × PartResult)) : Stop :=
  if r.kind == .pcieWr && decide (2 ≤ l.length) then .no
  else if anyBad l then .unmapped
  else if l.any (fun e => e.2 == .denied) then .denied
  else if l.any (fun e => e.2 == .unmapped) then .unmapped
  else if l.any (fun e => e.2 == .lost) then .lost
  else .no

/-- The pieces that a request would send now. -/
def requestPieces (s : State) (x : Stamped) (bad : Option Nat) : List Piece :=
  let l := checkAll s x bad
  if stopOf x.req l = .no then okPieces s x l else []

/-- The part whose map-store entry is uncorrectable, if one is. -/
def badPart (hw : PathHw) : Option Nat := if hw.storeEcc == .uncorrectable then some hw.storePart else none

/-- Run a stamped request that is not held anywhere: check, count and send (05 R148-R153). -/
def runRequest (x : Stamped) (hw : PathHw) (miss : Bool) (s : State) : State :=
  let r := x.req
  let l := checkAll s x (badPart hw)
  let s1 := heatParts x hw.telFull hw.telBad l (noteResults x l s)
  match stopOf r l with
  | .denied => endRequest r (refusalKind r true) s1
  | .unmapped => endRequest r (refusalKind r false) s1
  | .lost => endLost r s1
  | .no =>
    match okPieces s1 x l with
    | [] => endRequest r none s1
    | ps => sendParts x miss ps s1

/-- Where a request waits now, if it must. -/
def parkOf (s : State) (x : Stamped) (bad : Option Nat) : Hold := holdAll s x (requestPieces s x bad)

/-- A request that waits inside the switch holds cells of its ingress's reserve meanwhile (04 R110); a link's are returned to
its credit only when they are freed. -/
def takeCells (x : Stamped) (s : State) : Stamped × State :=
  let n := reqCells x.req
  ({ x with cells := n }, shareCells false x.req.ingress (reqClass x.req) n s)

/-- It goes on: its cells are charged anew. -/
def giveCells (x : Stamped) (s : State) : Stamped × State :=
  ({ x with cells := 0 }, if x.cells = 0 then s else shareCells true x.req.ingress (reqClass x.req) x.cells s)

/-- Put a stamped request among those that wait for a map-cache fetch, or in a wait slot for the line of a page. -/
def parkFill (x : Stamped) (s : State) : State :=
  let c := takeCells x s
  { c.2 with win := { c.2.win with fills := c.2.win.fills ++ [c.1] } }

def parkMig (k line : Nat) (x : Stamped) (s : State) : State :=
  match getMig s k with
  | some m =>
    let c := takeCells x s
    withDir (fun d => { d with high := max d.high (slotsHeld s + 1) })
      (setMig k (some { m with waiting := m.waiting ++ [⟨c.1, line, 0, false⟩] }) c.2)
  | none => s

/-- A stamped request that was counted in flight goes on, or waits on (05 R158; 08 R242). -/
def resume (x0 : Stamped) (hw : PathHw) (miss : Bool) (s0 : State) : State :=
  let g := giveCells x0 s0
  let x := g.1
  let s := g.2
  match parkOf s x (badPart hw) with
  | .free => stampDec x (runRequest x hw miss s)
  | .line k line => parkMig k line x s
  | .upstream => parkFill x s

/-- ECC results of the map cache (05 R159; 15 R394): corrected, or the entry dropped and fetched again. -/
def cacheEccOf (h page : Nat) (x : Stamped) (e : Ecc) (s : State) : State :=
  let u := unitCode 12 (Config.sliceHash h page % 16)
  match e with
  | .ok => s
  | .corrected => pulse 12 u none none s
  | .uncorrectable =>
    let t := cacheTag s h x.mapGen page
    let s1 := pulse 13 u none none s
    { s1 with win := { s1.win with cache := s1.win.cache.filter (fun c => !(c.host == h && c.page == t.page && c.huge == t.huge)) } }

/-- The pages of a request that its host's map translates. -/
def cachePages (s : State) (x : Stamped) : List Nat :=
  match x.host with
  | some h => (reqPages x.req).filter (inAperture (winAt s h x.epoch))
  | none => []

/-- Look the request's pages up in the map cache: go on at a hit, or wait for the fetch (05 R158). A split request counts one
lookup, a hit if both its pages hit (log entry 141). -/
def lookupRun (x : Stamped) (hw : PathHw) (s : State) : State :=
  match x.host with
  | none => resume x hw false s
  | some h =>
    let s1 := cacheEccOf h (x.req.addr / 4096) x hw.cacheEcc s
    if (cachePages s x).all (cacheHit s1 h x.mapGen) then
      resume x { hw with storeEcc := .ok } false { s1 with win := { s1.win with hit := sat64 s1.win.hit } }
    else parkFill x { s1 with win := { s1.win with miss := sat64 s1.win.miss } }

/-- A request waits for the reload of its host's window table, in its ingress's reserve (05 R159). -/
def parkReload (h : Nat) (x : Stamped) (s : State) : State :=
  let c := takeCells x s
  setHost h { getHost c.2 h with reloading := true, waiting := (getHost c.2 h).waiting ++ [c.1] } c.2

/-- ECC results of the window table (05 R159): corrected, or the table reloads and the checks of the host wait. -/
def winEccRun (x : Stamped) (hw : PathHw) (s : State) : State :=
  match x.host with
  | none => lookupRun x hw s
  | some h =>
    if (getHost s h).reloading then parkReload h x s
    else match hw.winEcc with
      | .ok => lookupRun x hw s
      | .corrected => lookupRun x hw (pulse 12 (unitCode 11 h) none none s)
      | .uncorrectable => assertLine 13 (unitCode 11 h) none none (parkReload h x s)

/-- The ingress can bring a request now: a created port that is up, or the internal endpoint. Messages of links arrive, and
movers issue their lines, by their own rows. -/
def ingressUp (s : State) (i : Nat) : Bool :=
  if i < 112 then portCreated s i && (getPort s i).linkUp else decide (i = 128)

/-- The ingress holds credit for the request (04 R110). -/
def hasCredit (s : State) (r : Request) : Bool := reserveFits s r.ingress (reqClass r) (reqCells r)

/-- A request of a unit of the switch, or at an ingress, can begin now: it has credit, and waits for nothing upstream. -/
def canSend (s : State) (r : Request) (hw : PathHw) : Bool :=
  hasCredit s r && parkOf s (stampNow r s) (badPart hw) != .upstream

/-- A request begins its path: it is stamped and counted, its cells are about to be written, and its host's window table is
read. -/
def pathStart (r : Request) (hw : PathHw) (s : State) : State :=
  let x := stampNow r s
  winEccRun x hw (stampInc x (writeWillFail hw.writeFail s))

/-- The port engine of an ingress waits for its routing copy (15 R394). -/
def routeReloading (s : State) (i : Nat) : Bool := decide (i < 112) && asserted s 13 (unitCode 2 i)

/-! ## INTx and slot signals toward another switch (11 R327-R329) -/

/-- The key of a signal at a port. -/
def sigKey (p signal : Nat) : Nat := p * 32 + signal

/-- Queue a signal message on its way to switch `sw`, its source ingress being `i` (11 R327, R328). Its queue is 0 and
its DEST_PID one that the spec does not state (log entry 7). -/
def queueSignal (i sw : Nat) (resync : Bool) (x : Signal) (s : State) : State :=
  let re := getRouteEnt s sw
  let k := flowKey sw i 1
  match flowLink s k re.primary re.alt with
  | none => noteUnreachable re.primary sw s
  | some l =>
    let f := takeFree s
    launch false { newTxn f.2 128 (112 + l) 0 0 2 f.2.gh.route.stamping false (.signal resync x) with
      srcIngress := i, dest := some (sw, f.1.toNat % 4096) } (setFlow k { getFlow f.2 k with link := some l } f.2)

/-- Send the state of a signal of port `p` to the host's switch, if the port is bound (11 R327, R330). A change counts in
CHANGES; a resynchronisation does not. -/
def sendSignal (p signal state channel : Nat) (resync : Bool) (s : State) : State :=
  let b := tget (⟨false, 0, 0, 0⟩ : BindSlot) s.stw.bindSlot p
  let n := if resync then tget 0 s.stw.changes (sigKey p signal) else (tget 0 s.stw.changes (sigKey p signal) + 1) % 2 ^ 32
  let s1 := { s with stw := { s.stw with changes := tput 0 s.stw.changes (sigKey p signal) n
                                         sent := tput 0 s.stw.sent (sigKey p signal) state } }
  if b.enable then queueSignal p b.switch resync ⟨signal, state, p, channel, b.vs, b.vppb, n⟩ s1 else s1

/-- Send PERST or the attention indicator of a bound vPPB to the slot's switch (11 R327, R330). -/
def sendOut (vs vppb signal state : Nat) (resync : Bool) (s : State) : State :=
  let b := tget (⟨false, 0, 0⟩ : BindHost) s.stw.bindHost (vs * 128 + vppb)
  let k := 112 * 32 + (vs * 128 + vppb) * 32 + signal
  let n := if resync then tget 0 s.stw.changes k else (tget 0 s.stw.changes k + 1) % 2 ^ 32
  let s1 := { s with stw := { s.stw with changes := tput 0 s.stw.changes k n, sent := tput 0 s.stw.sent k state } }
  if b.enable then queueSignal (Config.hostPort vs % 112) b.switch resync ⟨signal, state, b.port, 0xFF, vs, vppb, n⟩ s1 else s1

/-! ## Locks (11 R324-R326) -/

/-- A locked read locks a port to its owner, unless the owner's lock has been broken (11 R324, R326). -/
def lockPort (p : Nat) (o : Nat × Nat) (s : State) : State :=
  let x := getPort s p
  if portCreated s p && x.linkUp && x.lock.isNone && x.brokenLock != some o then setPort p { x with lock := some o } s else s

/-- The owner's Unlock reaches its port (11 R325, R326). -/
def unlockPort (p : Nat) (o : Nat × Nat) (s : State) : State :=
  let x := getPort s p
  refresh p (setPort p { x with lock := if x.lock = some o then none else x.lock
                                brokenLock := if x.brokenLock = some o then none else x.brokenLock } s)

/-- An Unlock message goes to its port, or over a link on the REQ channel (11 R325). -/
def sendUnlock (r : Request) (s : State) : State :=
  let x := stampNow r s
  match directResult s x with
  | .direct did =>
    match targetOf s (didEntry s x.gen did) r.ingress 0 with
    | .go e (some d) =>
      launch false { newTxn s r.ingress e (didQueue (didEntry s x.gen did) (r.tc % 16)) 0 0 x.gen false .unlock with dest := some d }
        (setFlow (flowKey d.1 r.ingress 0) { getFlow s (flowKey d.1 r.ingress 0) with link := some (e - 112) } s)
    | .go e none => if e < 112 then unlockPort e (srcOf s r) s else s
    | _ => s
  | _ => s

/-- What reading the port's routing-table copy meets: corrected, or the copy is refreshed and the port's lookups wait
(15 R394). -/
def routeEccRun (i : Nat) (e : Ecc) (s : State) : State :=
  if 112 ≤ i then s
  else match e with
    | .ok => s
    | .corrected => pulse 12 (unitCode 2 i) none none s
    | .uncorrectable => assertLine 13 (unitCode 2 i) none none s

/-- What the source of a request fixes (05 R139): a request of a port is made at level 1, for no VF, and fetches nothing; one of
the internal endpoint is as the unit that issues it says, but never at level 1. -/
def sourced (r : Request) : Request :=
  let r1 := { r with remote := none }
  if r.ingress < 112 then { r1 with level := 1, vf := none, fetch := false }
  else if r.level = 2 then r1 else { r1 with level := if r.level = 0 then 0 else 3, vf := none }

/-- The malformed TLP that a port engine handles: it is logged, reported, and ends with an error; a stopped engine has it
waiting (01 R36; 03 R100; 15 R394). -/
def malformed (r : Request) (s : State) : State :=
  if r.ingress < 112 && !(getPort s r.ingress).engRunning then
    setPort r.ingress { getPort s r.ingress with engWork := (getPort s r.ingress).engWork ++ [.malformed r] } s
  else endRequest r (some .unsupported) (engineLog r.ingress AER_MALFORMED (pulse 7 (unitCode 2 r.ingress) none none s))

/-- A TLP of a port with more than 512 bytes of payload, or a read request of more than 4,096 bytes, is malformed (03 R80; log entry
139). -/
def tooLong (r : Request) : Bool :=
  decide (r.ingress < 112) && (match r.kind with
    | .pcieWr => decide (512 < r.len)
    | .pcieRd => decide (4096 < r.len)
    | _ => false)

/-- A poisoned TLP passes the engine of its port, which logs it (03 R100). -/
def poisonSeen (i : Nat) (pcie poison : Bool) (s : State) : State := if pcie && poison then engineLog i AER_POISONED s else s

/-- A request arrives at an ingress (05 R148). Without credit, behind a held posted write or a full home, or while a
warm reset drains the switch it waits upstream, and nothing happens (04 R110; 06 R179, R184; 01 R469). -/
def hostRequest (r0 : Request) (hw : PathHw) (s : State) : State :=
  let r := sourced r0
  if !(ingressUp s r.ingress) || !(hasCredit s r) || routeReloading s r.ingress || warmDrains s then s
  else if let some (pin, on) := r.intx then sendSignal r.ingress (clampNat pin 1 4) (b2n on) 0xFF false s
  else if r.unlock then sendUnlock r s
  else if hw.malformed || tooLong r then malformed r s
  else
    let s1 := routeEccRun r.ingress hw.routeEcc s
    if routeReloading s1 r.ingress then s1
    else if !(canSend s r hw) then s
    else pathStart r hw (poisonSeen r.ingress (isPcie r.kind) r.poison s1)

def execHostRequest (r : Request) (hw : PathHw) (s : State) : Out :=
  inUnit "ingress" r.ingress Config.egresses (.next (hostRequest r hw s))

/-- The pages that a fetch brings into the cache: not that of an uncorrectable map-store entry (05 R159). -/
def fillPages (x : Stamped) (hw : PathHw) (s : State) : State :=
  match x.host with
  | none => s
  | some h =>
    (((checkAll s x (badPart hw)).filter (fun e => e.2 != .bad && inAperture (winAt s h x.epoch) (e.1.addr / 4096))).map
      (fun e => e.1.addr / 4096)).foldl (fun a p => cacheFill h x.mapGen p a) s

/-- A map-cache fetch returns for the request that has waited longest, and the access continues (05 R158, R159). -/
def fillDone (hw : PathHw) (s : State) : State :=
  match s.win.fills with
  | [] => s
  | x :: rest => resume x hw true (fillPages x hw (memRetried hw.memRetry { s with win := { s.win with fills := rest } }))

def execMapCacheMissFill (hw : PathHw) (s : State) : Out := .next (fillDone hw s)

/-- No hardware event on the way of a request that is tried again. -/
def quietHw : PathHw := ⟨.ok, .ok, .ok, 0, none, false, false, .ok, false, none⟩

def resumeAll : List Stamped → State → State
  | [], s => s
  | x :: xs, s => resumeAll xs (resume x quietHw false s)

def lookupAll : List Stamped → State → State
  | [], s => s
  | x :: xs, s =>
    let g := giveCells x s
    lookupAll xs (lookupRun g.1 quietHw g.2)

/-! ## The lines of migrating pages unblock (06 R180; 08 R242, R246) -/

/-- The request that a line's block goes to next: an earlier posted write, the one that reserves the line, the oldest of those
aged beyond AGE_PRIORITY, else the earliest (06 R180). -/
def migPick (prio : Nat) (l : List MigWait) : Option MigWait :=
  match l.find? (fun w => w.req.req.kind == .pcieWr) with
  | some w => some w
  | none =>
    match l.find? (fun w => w.rsv) with
    | some w => some w
    | none =>
      match l.filter (fun w => decide (prio < w.age)) with
      | [] => l.head?
      | a :: rest => some (rest.foldl (fun b w => if b.age < w.age then w else b) a)

/-- Every other waiting request of the line gains one age step (06 R180). -/
def migAge (line : Nat) (l : List MigWait) : List MigWait :=
  l.map (fun w => if w.line = line then { w with age := min 31 (w.age + 1) } else w)

/-- The request that reserves the line now, if none does: the first that is not posted and has reached AGE_RESERVE (06
R180). -/
def migReserves (reserve line : Nat) (l : List MigWait) : Option MigWait :=
  if l.any (fun w => w.line == line && w.rsv) then none
  else l.find? (fun w => w.line == line && w.req.req.kind != .pcieWr && decide (reserve ≤ w.age))

/-- The waiting requests of a line age; DIR_RESERVED counts a reservation. -/
def migSettle (k line : Nat) (m : Migration) (l : List MigWait) (s : State) : State :=
  let aged := migAge line l
  match migReserves s.dir.ageReserve line aged with
  | some w =>
    withDir (fun d => { d with reserved := sat64 d.reserved })
      (setMig k (some { m with waiting := aged.map (fun y => if y == w then { y with rsv := true } else y) }) s)
  | none => setMig k (some { m with waiting := aged }) s

/-- A line of a migrating page whose block is free serves one waiting request. -/
def migServe (k line : Nat) (s : State) : State :=
  match getMig s k with
  | some m =>
    (match migPick s.dir.agePriority (m.waiting.filter (fun w => w.line == line)) with
     | some w => resume w.req quietHw false (migSettle k line m (m.waiting.erase w) s)
     | none => s)
  | none => s

/-- A line of a migrating page that requests wait for and nothing blocks. -/
def openLine (s : State) : Option (Nat × Nat) :=
  s.move.migs.findSome? (fun e => match e.2 with
    | some m => (m.waiting.find? (fun w => !(migBlocked s e.1 w.line))).map (fun w => (e.1, w.line))
    | none => none)

def unblockN : Nat → State → State
  | 0, s => s
  | n + 1, s =>
    match openLine s with
    | some (k, line) => unblockN n (migServe k line s)
    | none => s

/-- After a line may have been unblocked: each waiting request goes on once its lines are free. -/
def unblock (s : State) : State := unblockN (66 * slotsHeld s) s

/-- The accesses that hold blocks of a page's lines hold them no more: its migration has ended. -/
def freeLines (k : Nat) (s : State) : State :=
  { s with gh := { s.gh with waits := s.gh.waits.map (fun w =>
      if (match w.line with | some (j, _) => j == k | none => false) then { w with line := none } else w) } }

/-- End a migration; the requests that waited for its lines go on (08 R243). -/
def finishMig (k status : Nat) (s : State) : State :=
  match getMig s k with
  | some m => resumeAll (m.waiting.map (·.req)) (freeLines k (endMig k status s))
  | none => s

/-! ## Responses (01 R29) -/

/-- An answer to a write's second location: before SWAP an error undoes the migration (08 R242, R243). -/
def shadowAnswer (w : Wait) (k : RspKind) (s : State) : State :=
  match w.line with
  | some (m, _) =>
    if w.shadow && rspError k then
      (match getMig s m with
       | some g => if g.state == .copy then undoMig m J_DEST s else s
       | none => s)
    else s
  | none => s

/-- The request that a response answers, and what it was: an access of this home to an expander, or a request that waits. -/
def answered (s : State) (r : Response) : Option ReqKind :=
  if s.dir.expander.any (fun e => e.1 == r.txn) then some (.memRd .I)
  else (s.gh.waits.find? (fun w => w.id == r.txn && w.done.isNone && w.target == r.ingress)).map (·.kind)

/-- A response enters the switch. One that nothing waits for is an unexpected completion (15 R394). -/
def response (r : Response) (s0 : State) : State :=
  let s := writeWillFail r.writeFail s0
  match s.dir.expander.find? (fun e => e.1 == r.txn) with
  | some e => expanderAnswer (r.ingress, rspFcc s r.ingress (.memRd .I) r.kind) e r.kind r.data s
  | none =>
    match s.gh.waits.find? (fun w => w.id == r.txn && w.done.isNone && w.target == r.ingress) with
    | some w =>
      unblock (shadowAnswer w r.kind (answer r.ingress w r.kind r.data r.hdr
        (poisonSeen r.ingress (isPcie w.kind) (r.kind == .poison) s)))
    | none =>
      if r.ingress < 112 then engineLog r.ingress AER_UNEXPECTED (pulse 7 (unitCode 2 r.ingress) none none s0) else s0

/-- The ingress can bring a response now: a created port that is up, or an active link. -/
def rspUp (s : State) (i : Nat) : Bool :=
  if 112 ≤ i ∧ i < 120 then (getLink s (i - 112)).state == .active else ingressUp s i

/-- The ingress holds credit for the response (04 R110). -/
def rspCredit (s : State) (r : Response) : Bool :=
  reserveFits s r.ingress (rspFcc s r.ingress ((answered s r).getD .pcieRd) r.kind) (cellsOf (8 * r.data.length))

def execResponseArrival (r : Response) (s : State) : Out :=
  inUnit "ingress" r.ingress Config.egresses
    (.next (if rspUp s r.ingress && rspCredit s r then response r (npwDone r.txn s.glb.switchId s) else s))

/-! ## Reloads (05 R159; 15 R394) -/

/-- A window table has been reloaded: its checks go on; or a port's routing copy has. -/
def reloadComplete (host port : Option Nat) (s : State) : State :=
  let s1 := match host with
    | some h =>
      let x := getHost s h
      if x.reloading then lookupAll x.waiting (dropLine 13 (unitCode 11 h) (setHost h { x with reloading := false, waiting := [] } s))
      else s
    | none => s
  match port with
  | some p => dropLine 13 (unitCode 2 p) s1
  | none => s1

def execReloadComplete (host port : Option Nat) (s : State) : Out :=
  match host, port with
  | some h, some p => inUnit "host" h 64 (inUnit "port" p 112 (.next (reloadComplete host port s)))
  | some h, none => inUnit "host" h 64 (.next (reloadComplete host port s))
  | none, some p => inUnit "port" p 112 (.next (reloadComplete host port s))
  | none, none => .next (reloadComplete host port s)

end Sys2Proof.Machine
end

