-- ==== Sys2Proof/Machine/Lines.lean ====
section
/-! DEFINITION. The lines of the movers: their reads and writes through the Great Hall, their answers, and the writing of
capture records (04 R109, R133; 08 R221-R229, R237, R242, R246). -/

namespace Sys2Proof.Machine

/-! ## Issuing a line (08 R222-R225, R233; 12 R341) -/

/-- What holds a VF's line back: its shaper below zero, or a policer that finds it red (12 R341). -/
def vfHolds (s : State) (f : Fn) : Bool :=
  match f with
  | .pf => false
  | .vf v =>
    let x := getVf s v
    (match x.shaper with
      | some n => !(shaperOpen s.time.localNs (tget Shaper.reset s.sched.vfShapers n))
      | none => false)
    || s.sched.policers.any (fun e => vfPolicer s v e.1 && e.2.enable && (policerMeter s.time.localNs 64 e.2).1 == .red)

/-- The VF's shaper counts the line (12 R342). -/
def vfCharge (f : Fn) (s : State) : State :=
  match f with
  | .pf => s
  | .vf v =>
    match (getVf s v).shaper with
    | some n =>
      let x := shaperCharge s.time.localNs 64 (tget Shaper.reset s.sched.vfShapers n)
      { s with sched := { s.sched with vfShapers := tput Shaper.reset s.sched.vfShapers n x } }
    | none => s

/-- Charge one issued line to the class (08 R233, R250). -/
def chargeLine (m : Nat) (s : State) : State :=
  let x := getMover s m
  let g := m / 8
  let c := x.owner
  let k := getClass s c
  let s1 := setMover m { x with grantBytes := x.grantBytes + 64 } s
  let s2 := setClass c { k with bytes := satAdd 64 k.bytes 64, credit := tput 0 k.credit g (clamp24 (creditOf k g - 64)) } s1
  { s2 with move := { s2.move with
      issued := tput 0 s2.move.issued g (tget 0 s2.move.issued g + 64), bytes := satAdd 64 s2.move.bytes 64 } }

/-- The offset of the next line that a job may issue now, if any. A page copy takes the lowest line not copied,
unless a request holds its block (08 R227, R242). -/
def nextLine (s : State) (j : Job) : Option Nat :=
  if j.failed.isSome then none
  else match j.kind with
    | .capture => none
    | .copyPage k =>
      match getMig s k with
      | some mg =>
        if mg.state != .copy then none
        else match nextCopyLine s k mg with
          | some l => if lineHeld s k l then none else some (64 * l)
          | none => none
      | none => none
    | _ => if j.next < j.length then some j.next else none

/-- The host address space of a function: that of the VF, or the one whose upstream port is the management PF's (05 R137;
12 R333). -/
def fnHost (s : State) : Fn → Option Nat
  | .pf => (List.range 64).find? (fun h => Config.hostPort h == s.host.pfPort)
  | .vf v => some (getVf s v).host

/-- The way of an access of a job in a space with a selector (08 R225). -/
def spaceRoute (s : State) (f : Fn) (space sel : Nat) : Route :=
  match space with
  | 0 => (match fnHost s f with
    | some h => .aperture h
    | none => .upstream f)
  | 1 => .aperture sel
  | _ => .pid sel

/-- The privilege level of a job's accesses (05 R139; 08 R223). -/
def jobLevel (j : Job) : Nat :=
  match j.kind with
  | .copy => (match j.submitter with | .pf => 0 | .vf _ => 2)
  | .fill => (match j.submitter with | .pf => 0 | .vf _ => 2)
  | _ => 3

/-- Where a job's access goes: the route and the address of its source, or of its destination, at an offset. -/
def jobWay (s : State) (j : Job) (write : Bool) (off : Nat) : Route × Nat :=
  match j.kind with
  | .copyPage k =>
    (match getMig s k with
     | some m => if write then (.pid m.destDid, m.destPfn * 4096 + off) else (.pid m.oldEnt.did, m.oldEnt.pfn * 4096 + off)
     | none => (.pid 0, 0))
  | _ =>
    if write then (spaceRoute s j.submitter j.dstSpace j.dstSel, j.dst + off)
    else (spaceRoute s j.submitter j.srcSpace j.srcSel, j.src + off)

/-- The request of one line: 64 bytes, non-caching, of traffic class 0 (08 R223; log entry 143). Its tag ends in the mover's
number within its group. -/
def lineReq (s : State) (m : Nat) (j : Job) (write : Bool) (off tag : Nat) (poison : Bool) (data : List Word) : Request :=
  let w := jobWay s j write off
  { ingress := 120 + m / 8, route := w.1, level := jobLevel j,
    vf := (match j.submitter with | .pf => none | .vf v => some v), fetch := false, kind := if write then .memWr .A else .memRd .I,
    addr := w.2, len := 64, tc := 0, tag := tag, poison := poison, locked := false, remote := none, intx := none,
    unlock := false, data := data, hdr := [] }

/-- The tag of the next line of a mover. -/
def lineTag (s : State) (m : Nat) : Nat := s.move.nextLine * 8 + m % 8

/-- The migration whose page a job copies. -/
def jobMig (j : Job) : Option Nat :=
  match j.kind with
  | .copyPage k => some k
  | _ => none

/-- A mover issues its next line, the read of its source, or for FILL the write of its pattern; it ends its grant where its VF
holds the line back. At most 128 lines are in flight (08 R222, R224, R233; 12 R341). -/
def issueLine (m : Nat) (s : State) : State :=
  let x := getMover s m
  match x.job with
  | none => s
  | some j =>
    if x.state != .granted || decide (Config.moverCells ≤ x.lines.length) || decide (2 ^ x.burst ≤ x.grantBytes) then s
    else if vfHolds s j.submitter then endBurst m s
    else match nextLine s j with
      | none => s
      | some off =>
        let fill := j.kind == .fill
        let t := lineTag s m
        let r := lineReq s m j fill off t false (if fill then List.replicate 8 j.pattern else [])
        if !(canSend s r quietHw) then s
        else
          let l : MoverLine := ⟨j.id, off, t, if fill then .writing false else .reading, false, jobMig j⟩
          pathStart r quietHw (vfCharge j.submitter (chargeLine m
            (setMover m { x with lines := x.lines ++ [l], job := some { j with next := off + 64 } }
              { s with move := { s.move with nextLine := s.move.nextLine + 1 } })))

/-- Change the line of a mover with this tag. -/
def updLine (m tag : Nat) (f : MoverLine → MoverLine) (s : State) : State :=
  setMover m { getMover s m with lines := (getMover s m).lines.map (fun l => if l.tag = tag then f l else l) } s

/-- The write of the oldest line whose data have come is sent; a poisoned line is written as poison (08 R229, R237, R246). -/
def sendLine (m : Nat) (s : State) : State :=
  match (getMover s m).lines.findSome? (fun l => match l.stage with
      | .held p d => some (l, p, d)
      | _ => none) with
  | none => s
  | some (l, p, d) =>
    match findJob s l.job with
    | none => s
    | some j =>
      let r := lineReq s m j true l.off l.tag p d
      if canSend s r quietHw then pathStart r quietHw (updLine m l.tag (fun y => { y with stage := .writing p }) s) else s

/-! ## Lines that end (08 R228, R229, R237, R242, R246) -/

/-- A job's line fails: the job stops at the lowest failing offset (08 R229). -/
def failLine (off st : Nat) (j : Job) : Job :=
  match j.failed with
  | some (o, _) => if off < o then { j with failed := some (off, st) } else j
  | none => { j with failed := some (off, st) }

/-- A line of a job completes with a result (08 R229). -/
def jobLineDone (id off : Nat) (res : LineResult) (s : State) : State :=
  let s1 := match res with
    | .ok => s
    | .poison => updJob id (fun j => { j with
        firstBad := if j.poisonLines = 0 then j.src + off else min j.firstBad (j.src + off)
        poisonLines := satAdd 32 j.poisonLines 1 }) s
    | .denied => updJob id (failLine off J_DENIED) s
    | .unmapped => updJob id (failLine off J_UNMAPPED) s
    | .targetError => updJob id (failLine off J_TARGET) s
  tryEndJob id s1

/-- Whether a line result is an error. -/
def lineBad : LineResult → Bool
  | .ok => false
  | .poison => false
  | _ => true

/-- What an error status makes of a line (08 R228). -/
def lineError : RspKind → LineResult
  | .denied => .denied
  | .unmapped => .unmapped
  | _ => .targetError

/-- A line in flight ends: one of a page copy is copied, or fails its migration by its read or its write; any other belongs to
its job, if that has not ended (08 R229, R237, R242, R243). -/
def finishLine (m : Nat) (l : MoverLine) (wrote : Bool) (res : LineResult) (s : State) : State :=
  let x := getMover s m
  let s1 := setMover m { x with lines := x.lines.filter (fun y => y.tag != l.tag) } s
  match l.mig with
  | some k => if lineBad res then undoMig k (if wrote then J_DEST else J_SOURCE) s1 else lineCopied k (l.off / 64) (res == .poison) s1
  | none => jobLineDone l.job l.off res s1

/-- What the answer to a line's access makes of it: a read's data are held for the write, or end a SCRUB's line; a write's
completion ends it; an error ends either. -/
def lineStage (scrub : Bool) (k : RspKind) (data : List Word) : LineStage → LineStage
  | .reading =>
    (match k with
     | .data => if scrub then .ended false .ok else .held false data
     | .poison => if scrub then .ended false .poison else .held true data
     | k => .ended false (lineError k))
  | .writing p =>
    (match k with
     | .cmp => .ended true (if p then .poison else .ok)
     | .cmpE => .ended true (if p then .poison else .ok)
     | k => .ended true (lineError k))
  | st => st

/-- The mover of a group, and its line, that have a tag. -/
def lineOf (s : State) (g tag : Nat) : Option (Nat × MoverLine) :=
  let m := 8 * g + tag % 8
  ((getMover s m).lines.find? (fun l => l.tag == tag)).map (fun l => (m, l))

/-- An answer reaches the movers of group `g`: that of a line abandoned is discarded, and a write whose grant was revoked ends
by itself (08 R237, R246). -/
def lineAnswer (g tag : Nat) (k : RspKind) (data : List Word) (s : State) : State :=
  match lineOf s g tag with
  | none => s
  | some (m, l) =>
    let scrub := match findJob s l.job with
      | some j => j.kind == .scrub
      | none => false
    match lineStage scrub k data l.stage, l.left with
    | .ended w r, true => unblock (finishLine m l w r s)
    | st, _ => updLine m tag (fun y => { y with stage := st }) s

/-- The oldest line of a mover whose outcome has come completes. -/
def completeLine (m : Nat) (s : State) : State :=
  match (getMover s m).lines.findSome? (fun l => match l.stage with
      | .ended w r => some (l, w, r)
      | _ => none) with
  | some (l, w, r) => finishLine m l w r s
  | none => s

/-- What one line event does to a mover. -/
def moverLine (m : Nat) (ev : LineEvent) (s : State) : State :=
  match ev with
  | .issue => issueLine m s
  | .sent => sendLine m s
  | .complete => completeLine m s

/-- A mover's line event, after which requests that waited for the line go on (08 R237, R242). -/
def execMoverLineComplete (m : Nat) (ev : LineEvent) (s : State) : Out :=
  inUnit "mover" m 64 (.next (unblock (moverLine m ev s)))

/-! ## Capture writes (04 R133, 08 R233, R238) -/

/-- One buffered record is written as one line of the mover: it crosses the Great Hall to the port of the management PF, or is
held as R468 says. A record that finds the ring full is lost (04 R132, R133). -/
def captureOne (m : Nat) (r : CapRec) (s : State) : State :=
  if capFull s then capLose s
  else
    let k := s.cap
    let addr := k.base + k.head % 2 ^ k.sizeLog2 * 48
    let ws := capWords r k.head k.sizeLog2 k.lostBefore
    let s1 := { s with cap := { k with head := (k.head + 1) % 2 ^ 32, lostBefore := false } }
    if fnHeld s .pf then offerPf k.vectorEn k.vector (hostWrite ⟨.pf, .capture, addr, ws⟩ s1)
    else launch false (newTxn s1 (120 + m / 8) s.host.pfPort 0 48 (m % 8) s.gh.route.stamping true (.record addr ws false)) s1

/-- The mover writes buffered records while its grant and its reserve last. -/
def captureLines (m : Nat) : List CapRec → State → State
  | [], s => s
  | r :: rs, s =>
    let x := getMover s m
    if decide (2 ^ x.burst ≤ x.grantBytes) || !(reserveFits s (120 + m / 8) (m % 8) 1) then s
    else captureLines m rs (captureOne m r (chargeLine m { s with cap := { s.cap with buffer := rs } }))

/-- The mover that holds the capture job writes buffered records, one line each, and goes on once none is left. -/
def captureWrite (s : State) : State :=
  match s.move.movers.find? (fun e => e.2.state == .granted &&
      (match e.2.job with | some j => j.kind == .capture | none => false)) with
  | none => s
  | some (m, _) =>
    let s1 := captureLines m s.cap.buffer s
    if s1.cap.buffer.isEmpty then settleCredits (nextOnMover m s1) else s1

def execCaptureRecordWrite (s : State) : Out := .next (captureWrite s)

end Sys2Proof.Machine
end

