-- ==== Sys2Proof/Machine/Ports.lean ====
section
/-! DEFINITION. Ports and lanes: configuration, training, going down, power states, lane tests and eye scans
(03 R76-R103; 15 R394, R395, R403; 18 R457). -/

namespace Sys2Proof.Machine

/-! ## Blocks, ports and lanes (00 R15, R16) -/

/-- The created ports of block `b`. -/
def blockPorts (s : State) (b : Nat) : List Nat := (bifurPorts (tget 0 s.port.bifur b)).map (fun i => 4 * b + i)

/-- Every created port. -/
def allPorts (s : State) : List Nat := (List.range 28).flatMap (blockPorts s)

/-- The lanes of a created port, from its lowest. -/
def lanesOf (s : State) (p : Nat) : List Nat := List.range' (16 * (p / 4) + 4 * (p % 4)) (portLanes s p)

/-- The created port that holds a P-lane. -/
def portOfLane (s : State) (l : Nat) : Option Nat := (blockPorts s (l / 16)).find? (fun p => (lanesOf s p).contains l)

/-- LANE index of the first O-lane; link k has lanes 448 + 8k to 448 + 8k + 7 (00 R15). -/
def oLane (k : Nat) : Nat := 448 + 8 * k

/-- The link of an O-lane. -/
def linkOfLane (l : Nat) : Nat := (l - 448) / 8

/-- The reference-clock quadrant of a port block and of a link (03 R88). -/
def blockQuadrant (b : Nat) : Nat := b / 7
def linkQuadrant (l : Nat) : Nat := l / 2

/-- The port is held down: by PORT_RESET, by its PERST_N input, by DPC, or because it is retired (03 R79; 15 R395, R403;
18 R457). -/
def portHeld (x : Port) : Bool := x.held || x.perstIn || x.dpcTrigger || x.retired

/-- The lanes of a link at a width: all eight, or one half (10 R291). -/
def halfLanes (k width : Nat) (high : Bool) : List Nat :=
  if width = 8 then List.range' (oLane k) 8
  else if width = 4 then List.range' (oLane k + (if high then 4 else 0)) 4 else []

/-- The lanes that a link uses. -/
def linkLanes (s : State) (k : Nat) : List Nat := halfLanes k (getLink s k).width (getLink s k).high

/-- The lanes of a port that a width uses: the lowest in LOGICAL (03 R84, R102). -/
def usedLanes (s : State) (p w : Nat) : List Nat := (lanesOf s p).filter (fun l => decide ((getLane s l).logical < w))

/-- A width that a port can take: no lane that it uses is retired (03 R84). -/
def widthFits (s : State) (p w : Nat) : Bool := (usedLanes s p w).all (fun l => !((getLane s l).retired))

/-- The widest of x16, x8, x4, x2 and x1 that is no wider than the port and than `most`, the lanes that pass detection and
training, and uses no retired lane; 0 if there is none (03 R80, R84). -/
def portWidth (s : State) (p most : Nat) : Nat :=
  ([16, 8, 4, 2, 1].find? (fun w => decide (w ≤ portLanes s p) && decide (w ≤ most) && widthFits s p w)).getD 0

/-- The lane carries traffic (03 R102). -/
def laneInService (s : State) (l : Nat) : Bool :=
  if l < 448 then
    match portOfLane s l with
    | some p => (getPort s p).linkUp && (usedLanes s p (getPort s p).width).contains l && !(getLane s l).retired
    | none => false
  else
    let k := linkOfLane l
    (getLink s k).state == .active && (linkLanes s k).contains l && !(getLane s l).retired

/-- A LANE_TEST may act: the port of the lane is held down, its link is disabled, or the lane is retired (03 R89). A lane
of no created port is out of service too. -/
def laneOut (s : State) (l : Nat) : Bool :=
  (getLane s l).retired ||
    (if l < 448 then
      match portOfLane s l with
      | some p => portHeld (getPort s p)
      | none => true
    else !((getLink s (linkOfLane l)).cfg.enable))

/-- Loops exist on the lanes of PB0 and on the O-lanes (03 R90). -/
def loopCapable (l : Nat) : Bool := decide (l < 16) || decide (448 ≤ l)

/-! ## Lane tests (03 R89-R93) -/

/-- What a lane under test does at its TX pins (03 R91). A lane without a test is not driven by the generator. -/
def txPins (t : LaneTest) : TxPins :=
  match t.loop with
  | 2 => .idle
  | 3 => .received
  | _ => if prbsGen t then .pattern else .idle

/-- What it does with its RX pins. -/
def rxPins (t : LaneTest) : RxPins :=
  if t.loop = 1 || t.loop = 2 then .ignored else if t.chkEn then .checked else .unused

/-- Apply a test to a lane: its generator and checker begin afresh, and its pins follow (03 R89-R92). -/
def applyTest (l : Nat) (t : LaneTest) (p : Prbs) (s : State) : State :=
  let s1 := setLane l { getLane s l with test := t, prbsLock := false, prbs := p } s
  if (getLane s l).test = t then s1 else emit (.lanePins l (txPins t) (rxPins t)) s1

/-- The test of a lane ends; its counters keep their values (03 R89, R93). -/
def endTest (l : Nat) (s : State) : State := applyTest l LaneTest.off Prbs.reset s

def endTests : List Nat → State → State
  | [], s => s
  | l :: ls, s => endTests ls (endTest l s)

/-- The largest LOOP of a lane (03 R90). -/
def loopMax (l : Nat) : Nat := if loopCapable l then 3 else 0

/-- The legal RATE codes of LANE_TEST_CTRL (03 R102). -/
def testRates (l : Nat) : Nat × Nat := if l < 448 then (1, 6) else (8, 9)

/-- LANE_TEST (03 R89-R93). -/
def laneTestBody (c : SeqCmd) (s : State) : CmdOut :=
  let d := c.desc
  let l := objIndex d.objectId % 2 ^ 48
  let x := getLane s l
  let r := testRates l
  let t : LaneTest := ⟨used d.arg0 2 0 0 5, bit d.arg0 3, bit d.arg0 4, used d.arg0 6 5 0 (loopMax l),
    used d.arg0 10 7 r.1 r.2, used d.arg0 13 12 0 2, used d.arg0 19 14 10 40⟩
  let pb0Up := decide (l < 16) && decide (t.loop ≠ 0) && (match portOfLane s l with
    | some p => !(portHeld (getPort s p))
    | none => false)
  if !(laneOut s l) || pb0Up then .fail PRECONDITION s
  else
    let x1 := if bit d.arg0 20 then { x with prbsErrs := 0, prbsBits := 0, prbsInjected := 0 } else x
    .done 0 (argClamps d [(0, 2, 0, 0, 5), (0, 6, 5, 0, loopMax l), (0, 10, 7, r.1, r.2), (0, 13, 12, 0, 2),
        (0, 19, 14, 10, 40)])
      (applyTest l t { Prbs.reset with single := (takeFree s).1.toNat, tx := prbsSeed t.pattern } (setLane l x1 (takeFree s).2))

def execLaneTest (seq : Nat) (s : State) : Out := .next (runOp 0x7003 anyDesc true laneTestBody seq s)

/-! ## Eye scans (03 R94-R96) -/

/-- A scan may run: the port of a P-lane is in L0, the link of an O-lane is ACTIVE (03 R94). -/
def scanOk (s : State) (l : Nat) : Bool :=
  if l < 448 then
    match portOfLane s l with
    | some p => (getPort s p).linkUp && (getPort s p).pwr == 0 && !((getPort s p).recovering)
    | none => false
  else (getLink s (linkOfLane l)).state == .active

/-- The rate code of a lane's port or link. -/
def laneRate (s : State) (l : Nat) : Nat :=
  if l < 448 then
    match portOfLane s l with
    | some p => (getPort s p).rate
    | none => 0
  else (getLink s (linkOfLane l)).rate

/-- The legal EYE values at a rate (03 R94). -/
def eyeRange (rate : Nat) : Nat × Nat := if pam4 rate then (0, 2) else (1, 1)

/-- An O-lane's receive direction sleeps, so that a scan pauses (03 R96). -/
def scanPaused (s : State) (l : Nat) : Bool := decide (448 ≤ l) && (getLink s (linkOfLane l)).rxAsleep

/-- The offset sampler of a free lane begins the next waiting scan, in arrival order (03 R96; 02 R67). -/
def startScan (l : Nat) (s : State) : State :=
  let x := getLane s l
  if x.scan.isSome || x.margining then s
  else match (waitingCmds s (fun c => c.desc.opcode.toNat == 0x7004 && objIndex c.desc.objectId % 2 ^ 48 == l)).head? with
    | none => s
    | some c =>
      let r := laneRate s l
      let e := eyeRange r
      setLane l { x with scan := some ⟨c.seq, used c.desc.arg0 1 0 e.1 e.2, used c.desc.arg0 7 2 20 40, addr64 c.desc.arg1,
        s.time.now, r, !(scanOk s l), scanPaused s l, []⟩ } s

/-- EYE_SCAN's own part: it is checked, and waits until the scan has ended (03 R94). -/
def eyeBody (c : SeqCmd) (s : State) : CmdOut :=
  let d := c.desc
  let l := objIndex d.objectId % 2 ^ 48
  let e := eyeRange (laneRate s l)
  if !(scanOk s l) then .fail PRECONDITION s
  else
    let low := fld d.arg1 5 0
    .wait (argClamps d [(0, 1, 0, e.1, e.2), (0, 7, 2, 20, 40)]
      ++ (if low = 0 then [] else [(⟨40, false, 0, 5, 0, low, 0⟩ : FieldClamp)])) s

/-- COUNT of a point; it saturates (03 R95). -/
def eyeCount (n : Nat) : Nat := min n 0xFFFFFFFE

/-- The result words that hold the points from number `k` on, a point that is not measured as 0xFFFF_FFFF (03 R95). -/
def eyeWords (counts : List Nat) (k n : Nat) : List Word :=
  let point := fun (i : Nat) => match counts[i]? with
    | some c => eyeCount c
    | none => 0xFFFFFFFF
  (List.range' (k / 2) n).map (fun j => pack [(point (2 * j), 0), (point (2 * j + 1), 32)])

/-- A scan measures points: those that fill a word of the result are written as they are measured (03 R95). -/
def measurePoints (l : Nat) (e : EyeScan) (new : List Nat) (s : State) : State :=
  let all := (e.counts ++ new).take 8192
  let k := e.counts.length / 2 * 2
  let n := all.length / 2 - k / 2
  let s1 := setLane l { getLane s l with scan := some { e with counts := all } } s
  if n = 0 then s1 else hostWrite ⟨.pf, .eye, e.buffer + 64 + 4 * k, eyeWords all k n⟩ s1

/-- The points that a running scan of a lane has measured since: none while it is paused or once it has been aborted. -/
def scanPoints (l : Nat) (new : List Nat) (s : State) : State :=
  match (getLane s l).scan with
  | some e => if !e.aborted && !e.paused && !new.isEmpty then measurePoints l e new s else s
  | none => s

/-- EYE_SCAN: it is checked, and its scan begins if the sampler is free (03 R94). -/
def eyeScan (seq : Nat) (s : State) : State :=
  match findCmd s seq with
  | none => s
  | some c => startScan (objIndex c.desc.objectId % 2 ^ 48) (runOp 0x7004 anyDesc false eyeBody seq s)

def execEyeScan (seq : Nat) (s : State) : Out := .next (eyeScan seq s)

/-- A scan stops: its lane left L0, or its link ACTIVE (03 R96). EYE_SCAN_END writes its result. -/
def abortScan (l : Nat) (s : State) : State :=
  match (getLane s l).scan with
  | some e => setLane l { getLane s l with scan := some { e with aborted := true } } s
  | none => s

def abortScans : List Nat → State → State
  | [], s => s
  | l :: ls, s => abortScans ls (abortScan l s)

/-- Pause or resume the scans of a link's lanes (03 R96). -/
def pauseScans (on : Bool) : List Nat → State → State
  | [], s => s
  | l :: ls, s =>
    pauseScans on ls <|
      match (getLane s l).scan with
      | some e => setLane l { getLane s l with scan := some { e with paused := on } } s
      | none => s

/-- The header of a scan's result (03 R95). -/
def eyeHeader (l : Nat) (e : EyeScan) (aborted saturated : Bool) (points now : Nat) : List Word :=
  let flags := b2n (!aborted) + 2 * b2n aborted + 4 * b2n saturated
  [pack [(l, 0), (e.rate, 16), (e.eye, 24), (e.dwell, 32), (flags, 40), (points, 48)], w64 e.start, w64 now,
    w64 (if pam4 e.rate then 2500 else 4000), 0, 0, 0, 0]

/-- A scan ends, having finished or been aborted: 0xFFFF_FFFF for every point not measured, then the header in one write, and
its command completes (03 R94-R96). SATURATED is set if a count saturated. -/
def scanResult (l : Nat) (e : EyeScan) (s : State) : State :=
  let n := e.counts.length
  let k := n / 2 * 2
  let ab := e.aborted || decide (n < 8192)
  let s1 := setLane l { getLane s l with scan := none } s
  let s2 := if k < 8192 then hostWrite ⟨.pf, .eye, e.buffer + 64 + 4 * k, eyeWords e.counts k (4096 - k / 2)⟩ s1 else s1
  let s3 := hostWrite ⟨.pf, .eye, e.buffer, eyeHeader l e ab (e.counts.any (fun c => decide (0xFFFFFFFE < c))) n s.time.now⟩ s2
  startScan l (match findCmd s3 e.seq with
    | some c => endWait c false (w64 n) s3
    | none => s3)

/-- The scan of command `seq` on a lane: the points that it has measured since, and with `last` its end (03 R95, R96). -/
def scanEnd (l seq : Nat) (last : Bool) (counts : List Nat) (s : State) : State :=
  match (getLane s l).scan with
  | none => s
  | some e =>
    if e.seq ≠ seq then s
    else
      let s1 := scanPoints l counts s
      if last then scanResult l ((getLane s1 l).scan.getD e) s1 else s1

def execEyeScanEnd (lane seq : Nat) (last : Bool) (counts : List Nat) (s : State) : Out :=
  inUnit "lane" lane Config.lanes (.next (scanEnd lane seq last counts s))

/-- A receiver margining command of the partner begins or ends; during a scan it gets the "not ready" status and changes
nothing (03 R96). -/
def margining (l : Nat) (start : Bool) (s : State) : State :=
  let x := getLane s l
  if start then emit (.margining l x.scan.isNone) (if x.scan.isSome then s else setLane l { x with margining := true } s)
  else startScan l (setLane l { x with margining := false } s)

def execMarginingCommand (lane : Nat) (start : Bool) (s : State) : Out :=
  inUnit "lane" lane Config.lanes (.next (margining lane start s))

/-! ## A port goes down (03 R79; 15 R394, R395; 11 R326) -/

/-- One edge of a port's event line (13 R351). -/
def portEvent (p : Nat) (s : State) : State := eventEdge (256 + p) s

/-- PORTnnn_PERST_N of a downstream port is driven low while the port is held or down, unless it follows a slot channel
(18 R457). -/
def drivePerst (p : Nat) (s : State) : State :=
  let x := getPort s p
  if x.cfg.role % 2 = 1 && !(s.slot.ch.any (fun e => e.2.policy.portValid && e.2.policy.port == p))
  then emit (.pin (.portPerstN p) (x.linkUp && !(portHeld x))) s else s

/-- A lock is broken (11 R326). -/
def breakLock (p : Nat) (s : State) : State :=
  let x := getPort s p
  match x.lock with
  | none => s
  | some o =>
    pulse 28 (unitCode 2 p) none none
      { setPort p { x with lock := none, brokenLock := some o } s with
        stw := { s.stw with lockBroken := sat64 s.stw.lockBroken } }

/-- A transaction leaves its queue unsent: its cells are freed and it is not counted any more; a posted write's wait
goes with it, and a capture record is held for its ring (02 R468; 03 R79; 04 R112, R121; 05 R153). -/
def discardTxn (t : Txn) (s : State) : State :=
  let s1 := routeDec t.gen (unlink t s)
  match t.body with
  | .record addr ws _ => hostWrite ⟨.pf, .capture, addr, ws⟩ s1
  | _ =>
    if t.posted then
      (if s1.gh.waits.any (fun w => w.id == t.id && w.kind == .pcieWr) then
        hostDec t.host t.mapGen t.epoch (answerId 128 t.id .cmp [] s1) else hostDec t.host t.mapGen t.epoch s1)
    else s1

def discardTxns : List Txn → State → State
  | [], s => s
  | t :: ts, s => discardTxns ts (discardTxn t s)

/-- Every transaction queued at egress `e`, queue by queue, and those that wait for cells there. -/
def queuedAt (s : State) (e : Nat) : List Txn :=
  (List.range 16).flatMap (fun q => getQueue s (qkey e q)) ++ s.gh.deferred.filter (fun t => t.egress == e)

/-- The home's accesses to expanders at port `p` that are not answered (06 R164). -/
def expandersAt (s : State) (p : Nat) : List (Nat × Nat × Bool) :=
  s.dir.expander.filter (fun e =>
    match rangeTarget (getDomain s (dlaDomain e.2.1)).ranges (dlaOffset e.2.1) with
    | some (sw, did, _) =>
      decide (sw = s.glb.switchId) && (let r := didEntry s s.gh.route.current did; !(bit r 1) && fld r 9 2 == p)
    | none => false)

/-- The home's accesses to a port that has gone down end: reads with poison, writes with a completion (03 R79). -/
def endExpanders : List (Nat × Nat × Bool) → State → State
  | [], s => s
  | e :: es, s => endExpanders es (expanderAnswer selfAcct e (if e.2.2 then .cmp else .poison) [] s)

/-- The home's accesses queued toward an egress. -/
def queuedHome (l : List Txn) : List (Nat × Nat × Bool) :=
  l.filterMap (fun t => match t.body with
    | .homeRead dla => some (t.id, dla, false)
    | .homeWrite dla _ _ _ _ => some (t.id, dla, true)
    | _ => none)

/-- Red requests held toward an egress leave their policers (09 R265). -/
def dropHeld (e : Nat) : List HeldReq → State → State
  | [], s => s
  | h :: hs, s =>
    dropHeld e hs <|
      if h.txn.egress = e then
        routeDec h.txn.gen (shareCells true h.txn.ingress h.txn.fcc h.txn.cells
          { s with sched := { s.sched with held := s.sched.held.filter (fun x => x.txn.id != h.txn.id) } })
      else s

/-- The migrations in MARK, FENCE or COPY that `p` picks (08 R243). -/
def undoable (s : State) (p : Migration → Bool) : List Nat :=
  migsOf s (fun m => (m.state == .mark || m.state == .fence || m.state == .copy) && p m)

/-- A DID of this switch leads to port `p`. -/
def didAt (s : State) (did p : Nat) : Bool :=
  let e := didEntry s s.gh.route.current did
  bit e 0 && !(bit e 1) && fld e 9 2 == p

/-- What waits on egress `e`, or is queued for it, ends as toward a port that has gone down; its queues' tags follow (03 R79;
09 R254). -/
def endEgress (e : Nat) (s : State) : State :=
  let q := queuedAt s e
  let s1 := dropHeld e s.sched.held (discardTxns q s)
  let s2 := endWaitsOf (s1.gh.waits.filter (fun w => w.target == e && w.done.isNone)) s1
  refresh e (endExpanders (queuedHome q) s2)

/-- A returned unit has joined: it is in service, and its UNIT_RETURN completes (15 R402). -/
def unitIn (u : Nat) (s : State) : State :=
  let s1 := { s with flt := { s.flt with retired := s.flt.retired.filter (fun x => x != u)
                                         joining := s.flt.joining.filter (fun x => x != u) } }
  endWaits true (unitWaiters s1 0xA002 u) s1

/-- The lanes of a port or link that a retrain takes out of service or brings back (15 R402, R403). -/
def settleLanes : List Nat → State → State
  | [], s => s
  | l :: ls, s =>
    settleLanes ls <|
      if (getLane s l).retired && !(unitRetired s 1 l) then unitOut (unitCode 1 l) s
      else if !((getLane s l).retired) && s.flt.joining.contains (unitCode 1 l) then unitIn (unitCode 1 l) s
      else s

/-- A port whose link is down: what its link had is gone. -/
def linkLess (x : Port) : Port :=
  { x with linkUp := false, rate := 0, width := 0, flit := false, flitBytes := 0, proto := 0, lds := 0, pwr := 6, degraded := false,
           recovering := false, trainedWidth := 0, backInval := false, cache := false }

/-- CLKREQ_N of a created port is low, but in the L1 substates, where the port releases it; no other port drives it (03 R99; log
entry 145). `off` releases it. -/
def setClkreq (p : Nat) (off : Bool) (s : State) : State :=
  let x := getPort s p
  if x.clkOff = off then s
  else
    let s1 := setPort p { x with clkOff := off } s
    if portCreated s p then emit (.pin (.portClkreqN p) off) s1 else s1

/-- The level that the switch drives CLKREQ_N of a port to; none where it does not drive it (03 R99). -/
def clkreqN (s : State) (p : Nat) : Option Bool := if portCreated s p && !(getPort s p).clkOff then some false else none

/-- A port's link is lost, by whatever cause (03 R79, R96; 08 R243; 11 R326). -/
def portLoses (p : Nat) (s : State) : State :=
  let x := getPort s p
  if !x.linkUp then setPort p { x with pwr := 6, recovering := false } s
  else
    let s1 := setClkreq p false (setPort p (linkLess x) s)
    let s2 := settleLanes (lanesOf s p) (abortScans (lanesOf s p) (dropLine 4 (unitCode 2 p) s1))
    let s3 := if s.host.pfPort = p then setUp false (breakLock p s2) else breakLock p s2
    let ex := expandersAt s3 p
    let s4 := endExpanders ex (endEgress p s3)
    let s5 := undoMigs J_DEST (undoable s4 (fun m => didAt s4 m.destDid p)) s4
    let s6 := undoMigs J_SOURCE (undoable s5 (fun m => didAt s5 m.oldEnt.did p)) s5
    unblock (drivePerst p (portEvent p s6))

/-- The engine of a downstream port that has DPC enabled triggers it, or has the trigger waiting while it is stopped (01 R36; 03
R100; 15 R395). -/
def triggerDpc (p : Nat) (s : State) : State :=
  let x := getPort s p
  if !(x.dpcEnabled && x.cfg.role % 2 = 1) then s
  else if !x.engRunning then setPort p { x with engWork := x.engWork ++ [.dpc] } s
  else dropLine 5 (unitCode 2 p) (setPort p { x with dpcTrigger := true } s)

/-- A port that goes down by a fault: PORT_DOWN is raised, and DPC holds a downstream port that has it enabled
(15 R394, R395). -/
def portFails (p : Nat) (s : State) : State :=
  if !((getPort s p).linkUp) then s
  else triggerDpc p (portLoses p (assertLine 5 (unitCode 2 p) none none s))

def execPortDown (port : Nat) (s : State) : Out := inUnit "port" port Config.ports (.next (portFails port s))

/-- A port is held down (03 R79). `f` marks by what. -/
def holdPort (p : Nat) (f : Port → Port) (s : State) : State :=
  let s1 := dropLine 5 (unitCode 2 p) (portLoses p s)
  drivePerst p (setPort p (f (getPort s1 p)) s1)

/-- A port is released to train, or retrains at once (03 R79, R89). `f` clears what held it. -/
def releasePort (p : Nat) (f : Port → Port) (s : State) : State :=
  let s1 := portLoses p s
  let s2 := setPort p (f (getPort s1 p)) s1
  if portHeld (getPort s2 p) then dropLine 5 (unitCode 2 p) s2 else endTests (lanesOf s2 p) s2

/-! ## PORT_CONFIG and PORT_RESET (03 R77-R79, R473) -/

/-- The settings of port i of a block in ARG1 (03 R77). -/
def portCfgOf (w : Word) (i : Nat) : PortCfg :=
  ⟨fld w (16 * i + 1) (16 * i), used w (16 * i + 4) (16 * i + 2) 1 6, bit w (16 * i + 5), bit w (16 * i + 6),
    bit w (16 * i + 7)⟩

/-- A port after PORT_CONFIG on its block: held down, its counters zero (03 R77, R83, R103). -/
def portFresh (x : Port) (c : PortCfg) : Port :=
  { x with cfg := c, held := true, capRate := 0, fecCorr := 0, crcErr := 0, replay := 0, retrain := 0, eqFail := 0,
           degraded := false, trainedWidth := 0 }

/-- Configure the created ports of a block. -/
def configPorts (w : Word) : List Nat → State → State
  | [], s => s
  | p :: ps, s => configPorts w ps (drivePerst p (setPort p (portFresh (getPort s p) (portCfgOf w (p % 4))) (dropLine 5 (unitCode 2 p) s)))

/-- Each created port's version counts too (03 R77). -/
def bumpPorts : List Nat → State → State
  | [], s => s
  | p :: ps, s => bumpPorts ps (bumpVer (objKey 0xA (2 ^ 48 + p)) s)

/-- The lanes of a block (00 R15). -/
def blockLanes (b : Nat) : List Nat := List.range' (16 * b) 16

/-- Lanes of a configured block or link count LOGICAL afresh, without reversal (03 R102). -/
def relabel : List Nat → State → State
  | [], s => s
  | l :: ls, s =>
    relabel ls <|
      if l < 448 then
        match portOfLane s l with
        | some p => setLane l { getLane s l with logical := l - (16 * (p / 4) + 4 * (p % 4)) } s
        | none => s
      else setLane l { getLane s l with logical := (l - 448) % 8 } s

/-- Ports that the new bifurcation does not create are as they are before any configuration, their engines idle and their
CLKREQ_N not driven (03 R99, R100). The spec does not say what such a port keeps: it keeps its retirement, its PERST_N input and
the restarts of its engine, and forgets the rest (log entry 146). -/
def forgetPorts : List Nat → State → State
  | [], s => s
  | p :: ps, s =>
    forgetPorts ps (let x := getPort s p
      setPort p { Port.reset with retired := x.retired, perstIn := x.perstIn, engRestarts := x.engRestarts } s)

/-- The egress of a port that a bifurcation newly creates starts afresh: its shapers, its queues and its gate list have their
reset values, and each of the three objects has version 1 (09 R252). -/
def freshEgress (p : Nat) (s : State) : State :=
  let s1 := { s with sched := { s.sched with
    egress := tput Egress.reset s.sched.egress p Egress.reset
    queues := s.sched.queues.filter (fun e => e.1 / 16 != p) } }
  (List.range 17).foldl (fun a q => setVer (objKey 9 (256 * p + q)) 0 a)
    (setVer (objKey 9 (3 * 2 ^ 48 + p)) 0 ((List.range 17).foldl (fun a q => setVer (objKey 9 (2 * 2 ^ 48 + 256 * p + q)) 0 a) s1))

/-- Ports that a bifurcation newly creates: their engines run, and their egresses start afresh (03 R100; 09 R252). -/
def createPorts : List Nat → State → State
  | [], s => s
  | p :: ps, s => createPorts ps (freshEgress p (setPort p { getPort s p with engRunning := true } s))

/-- The clamps of PORT_CONFIG (03 R77). -/
def portClamps (d : Desc) (code : Nat) (pb0Script : Bool) : List FieldClamp :=
  (if pb0Script then [] else argClamps d [(0, 2, 0, 0, 4)])
    ++ argClamps d ((bifurPorts code).map (fun i => (1, 16 * i + 4, 16 * i + 2, 1, 6)))

/-- Whether the command is one of the image's configuration script. -/
def fromScript (c : SeqCmd) : Bool := c.origin == .script

/-- PORT_CONFIG for PB0 in the configuration script: each port whose settings change retrains, and a rate cap ends (03 R83,
R473). -/
def pb0Ports (w : Word) : List Nat → State → State
  | [], s => s
  | p :: ps, s =>
    let x := getPort s p
    let n := portCfgOf w (p % 4)
    pb0Ports w ps <|
      if x.cfg = { n with l0pAuto := x.cfg.l0pAuto } then setPort p { x with cfg := n, capRate := 0 } s
      else relabel (lanesOf s p) (releasePort p (fun y => { y with cfg := n, capRate := 0 }) s)

/-- PORT_CONFIG (03 R77, R473). -/
def portConfigBody (c : SeqCmd) (s : State) : CmdOut :=
  let d := c.desc
  let b := objIndex d.objectId % 2 ^ 48
  let code := used d.arg0 2 0 0 4
  if b = 0 && fromScript c then
    .done 0 (portClamps d (tget 0 s.port.bifur b) true) (pb0Ports d.arg1 (blockPorts s b) s)
  else if (blockPorts s b).any (fun p => (getPort s p).linkUp || !(portHeld (getPort s p) || !(getPort s p).cfg.enable)) then
    .fail PRECONDITION s
  else
    let s1 := endTests (blockLanes b) s
    let old := blockPorts s b
    let s2 := { s1 with port := { s1.port with bifur := tput 0 s1.port.bifur b code } }
    let new := (blockPorts s2 b).filter (fun p => !(old.contains p))
    let s3 := createPorts new (forgetPorts (old.filter (fun p => !((blockPorts s2 b).contains p))) s2)
    let s4 := relabel (blockLanes b) (configPorts d.arg1 (blockPorts s3 b) s3)
    .done 0 (portClamps d code false) (if fromScript c then s4 else bumpPorts (blockPorts s4 b) s4)

def execPortConfig (seq : Nat) (s : State) : Out := .next (runOp 0x7001 anyDesc true portConfigBody seq s)

/-- PORT_RESET (03 R79, R83; 15 R403). -/
def portResetBody (c : SeqCmd) (s : State) : CmdOut :=
  let p := objIndex c.desc.objectId % 2 ^ 48
  if (getPort s p).retired then .fail PRECONDITION s
  else if bit c.desc.arg0 0 then .done 0 [] (holdPort p (fun x => { x with held := true, capRate := 0 }) s)
  else .done 0 [] (releasePort p (fun x => { x with held := false, capRate := 0 }) s)

def execPortReset (seq : Nat) (s : State) : Out := .next (runOp 0x7002 anyDesc true portResetBody seq s)

/-! ## Training (03 R82-R86) -/

/-- The slot channel bound to a port lets its link train: it is ON with PERST# deasserted (14 R376). -/
def channelAllows (s : State) (p : Nat) : Bool :=
  s.slot.ch.all (fun e => !(e.2.policy.portValid && e.2.policy.port == p)
    || (e.2.state == .on && !e.2.perst && !e.2.perstReq))

/-- A port can train: created, enabled, not held, its reference present, some width left that uses no retired lane, and past
bring-up's phase 2 for PB0, phase 7 for the others (01 R39, R41; 03 R84). -/
def canTrain (s : State) (p : Nat) : Bool :=
  let x := getPort s p
  let begun := match s.glb.bringUp with
    | .phase n => if p < 4 then decide (2 ≤ n) else decide (7 ≤ n)
    | .up => true
    | .failed => decide (p < 4)
  portCreated s p && x.cfg.enable && !(portHeld x) && !x.refLost && begun && !s.glb.inReset && !s.glb.thermTrip && channelAllows s p
    && portWidth s p 16 != 0

/-- A port's record of DEGRADED: an edge of its event line when it becomes set (13 R351). -/
def setDegraded (p : Nat) (on : Bool) (s : State) : State :=
  let x := getPort s p
  let s1 := setPort p { x with degraded := on } s
  if on && !x.degraded then portEvent p s1 else s1

/-- The lanes of a port or link of `n` lanes from `base` are numbered with the reversal that training found, and each has the
polarity that it found (03 R82, R102; 10 R291). -/
def labelLanes (base n : Nat) (rev : Bool) (inv : Nat) : List Nat → State → State
  | [], s => s
  | l :: ls, s =>
    labelLanes base n rev inv ls (setLane l { getLane s l with
      logical := if rev then n - 1 - (l - base) else l - base, polarity := testb inv (l - base) } s)

/-- The lanes of a port or link come into use: aligned, their equalization settings as training left them, which the spec does
not state (03 R102; log entry 7). -/
def lanesUp (rate : Nat) : List Nat → State → State
  | [], s => s
  | l :: ls, s =>
    let f := takeFree s
    lanesUp rate ls (setLane l { getLane f.2 l with
      signal := true, symbolLock := true, rate := rate
      txPreset := f.1.toNat % 11, ctle := f.1.toNat / 16 % 256, dfe1 := BitVec.ofNat 8 (f.1.toNat / 4096) } f.2)

/-- The size of a port's flits: 256 bytes at 64 GT/s and for PCIe's flit mode; for CXL below 64 GT/s 256 bytes when both ends
support them, else 68 (03 R80, R81). -/
def flitSize (proto rate : Nat) (flit : Bool) (i : LinkInfo) : Nat :=
  if proto = 0 then (if flit then 256 else 0) else if rate = 6 || (i.flit256 && flit) then 256 else 68

/-- A device of type 3, which has no CXL.cache. -/
def memoryDevice (k : DevKind) : Bool := k == .hdmH || k == .hdmDb || k == .gfam

/-- The version of the protocol: PCIe for a PCIe role or a partner without CXL (03 R85). -/
def protoOf (c : PortCfg) (i : LinkInfo) : Nat := if c.role < 2 || !i.partnerCxl then 0 else clampNat i.proto 1 3

/-- A device that is not HDM-H memory at a port that a defined range names (06 R164). -/
def wrongDevice (s : State) (p : Nat) (k : DevKind) : Bool :=
  k != .hdmH && s.dir.domains.any (fun e => e.2.defined && e.2.ranges.any (fun r =>
    decide (r.switch = s.glb.switchId) && didAt s r.did p))

/-- A port with what its training found (03 R80-R86). -/
def linkedPort (x : Port) (i : LinkInfo) (rate width proto : Nat) : Port :=
  let flit := i.flit || rate == 6
  { x with linkUp := true, rate := rate, width := width, trainedWidth := width, flit := flit, flitBytes := flitSize proto rate flit i
           proto := proto, pwr := 0, backInval := i.backInval, cache := i.cache && proto != 0 && !(memoryDevice i.device)
           lds := if proto = 0 then 0 else min i.lds 16, enumerated := x.enumerated || i.device != .none
           device := if i.device == .none then x.device else i.device }

/-- A released port reaches L0, at the widest width that its lanes allow (03 R82-R86). -/
def linkUp (p : Nat) (i : LinkInfo) (s : State) : State :=
  let x := getPort s p
  if x.linkUp || !(canTrain s p) then s
  else
    let n := portLanes s p
    let s0 := labelLanes (16 * (p / 4) + 4 * (p % 4)) n i.reversed i.inverted (lanesOf s p) s
    let top := if x.capRate = 0 then x.cfg.maxRate else min x.cfg.maxRate x.capRate
    let rate := clampNat i.rate 1 top
    let width := portWidth s0 p (max 1 i.width)
    let proto := protoOf x.cfg i
    if width = 0 then s0
    else
      let s1 := setPort p (linkedPort x i rate width proto) s0
      let s2 := lanesUp rate (usedLanes s0 p width) s1
      let s3 := setDegraded p (decide (width < n) || decide (rate < x.cfg.maxRate)) (portEvent p (dropLine 5 (unitCode 2 p) s2))
      let s4 := if 2 ≤ x.cfg.role && proto = 0 then portEvent p s3 else s3
      let s5 := if i.device != .none && wrongDevice s4 p i.device then pulse 7 (unitCode 2 p) none none s4 else s4
      let s6 := drivePerst p s5
      if s.host.pfPort = p then flushAll (setUp true s6) else s6

def execLinkUp (port : Nat) (info : LinkInfo) (s : State) : Out := inUnit "port" port Config.ports (.next (linkUp port info s))

/-- An equalization attempt at a rate fails; after the second the port settles one rate lower (03 R83). -/
def eqFail (p rate : Nat) (second : Bool) (s : State) : State :=
  let x := getPort s p
  let x1 := { x with eqFail := sat64 x.eqFail }
  if second then setDegraded p true (setPort p { x1 with capRate := clampNat (rate - 1) 1 6 } s) else setPort p x1 s

def execEqualizationFail (port rate : Nat) (second : Bool) (s : State) : Out :=
  inUnit "port" port Config.ports (.next (if canTrain s port then eqFail port rate second s else s))

/-- Software clears DPC Trigger Status: as PORT_RESET with HOLD 0, but a retired port stays down (15 R395, R403). -/
def dpcRelease (p : Nat) (s : State) : State :=
  let x := getPort s p
  if !x.dpcTrigger then s
  else if x.retired then setPort p { x with dpcTrigger := false } s
  else releasePort p (fun y => { y with dpcTrigger := false, held := false, capRate := 0 }) s

def execDpcRelease (port : Nat) (s : State) : Out := inUnit "port" port Config.ports (.next (dpcRelease port s))

/-! ## Recovery (03 R84, R87) -/

/-- A port enters Recovery without going down (03 R84, R87; 15 R394). -/
def enterRecovery (p : Nat) (s : State) : State :=
  let x := getPort s p
  if !x.linkUp then s
  else
    abortScans (lanesOf s p) (assertLine 4 (unitCode 2 p) none none
      (setPort p { x with recovering := true, retrain := sat64 x.retrain } s))

/-- Four errors of a list of symbol numbers lie within 32 symbols (03 R87). -/
def fourIn32 : List Nat → Bool
  | a :: b :: c :: d :: rest => decide (d < a + 32) || fourIn32 (b :: c :: d :: rest)
  | _ => false

/-- Eight sync headers in a row are invalid; `run` counts those just before (03 R87). -/
def eightBad (run : Nat) : List Bool → Bool
  | [] => false
  | ok :: rest => if ok then eightBad 0 rest else decide (7 ≤ run) || eightBad (run + 1) rest

/-- What a port counts of a flit-mode event (03 R103). -/
def countFlits (p : Nat) (ev : LockEvent) (s : State) : State :=
  match ev with
  | .flits fec crc replays _ =>
    let x := getPort s p
    setPort p { x with fecCorr := satAdd 64 x.fecCorr fec, crcErr := satAdd 64 x.crcErr crc, replay := satAdd 64 x.replay replays } s
  | _ => s

/-- The event breaks the symbol lock of the port's encoding: 8b/10b at 2.5 and 5 GT/s, 128b/130b at 8 to 32 GT/s; in flit mode
the failures that PCIe has it recover from (03 R87). -/
def lockBroken (x : Port) (ev : LockEvent) : Bool :=
  match ev with
  | .quiet => false
  | .symbols errs => !x.flit && decide (x.rate ≤ 2) && fourIn32 errs
  | .headers good => !x.flit && decide (3 ≤ x.rate) && eightBad 0 good
  | .flits _ _ _ recover => x.flit && recover

/-- A lane of a port loses symbol lock, and the port enters Recovery (03 R87). -/
def symbolLockLost (l : Nat) (ev : LockEvent) (s : State) : State :=
  match portOfLane s l with
  | none => s
  | some p =>
    let x := getPort s p
    if !(x.linkUp && (usedLanes s p x.width).contains l) then s
    else
      let s1 := if x.flit then countFlits p ev s else s
      if lockBroken x ev then enterRecovery p (setLane l { getLane s1 l with symbolLock := false } s1) else s1

/-- What a lane's receiver finds: what its signal detector shows, which the spec does not tie to the lock (03 R102; log entry 132),
in every state of the lane, and what befalls its symbol lock. An O-lane's lock is lost by COMMA_LOCK_LOST. -/
def execSymbolLockLost (lane : Nat) (seen : LaneSeen) (s : State) : Out :=
  inUnit "lane" lane Config.lanes (.next
    (let s1 := setLane lane { getLane s lane with signal := seen.signal } s
     if lane < 448 then symbolLockLost lane seen.ev s1 else s1))

/-- A retrain through Recovery ends at the widest width that its lanes allow (03 R84); without one the port goes down. -/
def recoveryDone (p width : Nat) (s : State) : State :=
  let x := getPort s p
  if !(x.linkUp && x.recovering) then s
  else
    let w := portWidth s p (max 1 width)
    if w = 0 then portFails p s
    else
      let s1 := setPort p { x with recovering := false, width := w, trainedWidth := w, pwr := 0 } s
      let s2 := dropLine 4 (unitCode 2 p) (lanesUp x.rate (usedLanes s p w) s1)
      refresh p (settleLanes (lanesOf s p) (setDegraded p (decide (w < portLanes s p) || decide (x.rate < x.cfg.maxRate)) s2))

def execRecoveryRetrainDone (port width : Nat) (s : State) : Out :=
  inUnit "port" port Config.ports (.next (recoveryDone port width s))

/-! ## Power states (03 R97, R98) -/

/-- The narrowest width to which a port narrows by itself (03 R98). -/
def l0pMin (n : Nat) : Nat := if 8 ≤ n then 4 else 1

/-- Narrow a port's width. R96 stops the scan of a lane that leaves L0 through L0p: the lanes that fall idle leave it, those that
still carry traffic do not, so only the scans of the idle ones stop (03 R96, R98; log entry 147). -/
def narrow (p w : Nat) (s : State) : State :=
  let x := getPort s p
  abortScans ((lanesOf s p).filter (fun l => decide (w ≤ (getLane s l).logical)))
    (setPort p { x with width := w, pwr := if w < x.trainedWidth then 1 else 0 } s)

def l0pNarrow (p : Nat) (s : State) : State :=
  let x := getPort s p
  if x.linkUp && x.cfg.l0pAuto && !x.recovering && decide (x.pwr ≤ 1) && decide (2 ≤ x.width)
      && decide (l0pMin (portLanes s p) ≤ x.width / 2) then narrow p (x.width / 2) s else s

def execL0pNarrow (port : Nat) (s : State) : Out := inUnit "port" port Config.ports (.next (l0pNarrow port s))

/-- The full width is restored (03 R98). -/
def l0pRestore (p : Nat) (s : State) : State :=
  let x := getPort s p
  if x.linkUp && x.pwr == 1 then setPort p { x with width := x.trainedWidth, pwr := 0 } s else s

def execL0pRestore (port : Nat) (s : State) : Out := inUnit "port" port Config.ports (.next (l0pRestore port s))

/-- The widest of x16 to x1 that is no wider than `w`. -/
def legalWidth (w : Nat) : Nat := ([16, 8, 4, 2].find? (fun n => decide (n ≤ w))).getD 1

/-- The link changes its power state at a partner's request; in the L1 substates its CLKREQ_N is released (03 R96, R97, R99). -/
def powerState (p : Nat) (d : PwrState) (s : State) : State :=
  let x := getPort s p
  let quiet := fun (n : Nat) (off : Bool) => setClkreq p off (abortScans (lanesOf s p) (setPort p { x with pwr := n } s))
  if !x.linkUp then s
  else match d with
    | .l0 => setClkreq p false (setPort p { x with width := x.trainedWidth, pwr := 0 } s)
    | .l0p w => setClkreq p false (narrow p (legalWidth (clampNat w 1 x.trainedWidth)) s)
    | .l1 => quiet 2 false
    | .l11 => quiet 3 true
    | .l12 => quiet 4 true
    | .l2 =>
      let s1 := portLoses p s
      setPort p { getPort s1 p with pwr := 5 } s1

def execLinkPowerState (port : Nat) (dst : PwrState) (s : State) : Out :=
  inUnit "port" port Config.ports (.next (powerState port dst s))

/-! ## PERST_N inputs (18 R457) and port engines (03 R100, R101) -/

/-- The PERST_N input of an upstream port (18 R457). -/
def perstIn (p : Nat) (on : Bool) (s : State) : State :=
  let x := getPort s p
  if !(portCreated s p) || x.cfg.role % 2 = 1 || x.perstIn = on then s
  else if on then holdPort p (fun y => { y with perstIn := true }) s
  else releasePort p (fun y => { y with perstIn := false }) s

def execPortPerstN (port : Nat) (asserted : Bool) (s : State) : Out :=
  inUnit "port" port Config.ports (.next (perstIn port asserted s))

/-- A port engine stops and restarts (03 R101; 15 R394). -/
def engineStop (p : Nat) (s : State) : State :=
  let x := getPort s p
  if x.engRunning then assertLine 6 (unitCode 13 p) none none (setPort p { x with engRunning := false, engRestarting := true } s)
  else s

def execPortEngineStop (port : Nat) (s : State) : Out := inUnit "port" port Config.ports (.next (engineStop port s))

end Sys2Proof.Machine
end

