-- ==== Sys2Proof/Machine/Slots.lean ====
section
/-! DEFINITION. Slot power and hot insertion: the channel state machine, its measurements, breaker and thermal model, and
its commands (14 R364-R389; 15 R394, R403). -/

namespace Sys2Proof.Machine

/-! ## States and lines -/

/-- The powered states (14 R373). -/
def powered (x : ChState) : Bool := x == .test || x == .inrush || x == .on || x == .stopping

/-- PERST# of the slot is asserted: by the channel, or at the host's request (14 R373; 11 R327). -/
def perstOn (x : Channel) : Bool := x.perst || x.perstReq

/-- The SLOT_TRIP line of a channel is held: in TRIPPED, and after OUT_SHORT while LOCKED_OUT (15 R394). -/
def tripHeld (x : Channel) : Bool := x.state == .tripped || (x.state == .lockedOut && x.lockShort)

/-- The SLOT_WIRING line of a channel is held: while LOCKED_OUT by a wiring fault, while the diode is invalid, while the
presence pins disagree (15 R394). -/
def wiringHeld (x : Channel) : Bool := (x.state == .lockedOut && x.wiringLock) || x.thermFallback || x.mismatch

/-- Follow the lines of a channel with its state; DETAIL0 is its current (15 R394, R396). -/
def slotLines (c : Nat) (s : State) : State :=
  let x := getChan s c
  let d := some (w64 (tobits x.iMa 64))
  let s1 := if tripHeld x then assertLine 29 (unitCode 7 c) d none s else dropLine 29 (unitCode 7 c) s
  if wiringHeld x then assertLine 30 (unitCode 7 c) d none s1 else dropLine 30 (unitCode 7 c) s1

/-- The port that a channel feeds. -/
def chanPort (x : Channel) : Option Nat := if x.policy.portValid then some x.policy.port else none

/-- The channel bound to a port. -/
def portChan (s : State) (p : Nat) : Option Nat :=
  (s.slot.ch.find? (fun e => e.2.policy.portValid && e.2.policy.port == p)).map (·.1)

/-- The pins that have changed are driven: the gate, PERST#, the test current; a downstream port's PERST_N follows
its channel (14 R364; 18 R457). -/
def drivePins (c : Nat) (old : Channel) (s : State) : State :=
  let x := getChan s c
  let s1 := if x.gate != old.gate then emit (.pin (.slotGate c) x.gate) s else s
  let test := fun (y : Channel) => y.state == .test
  let s2 := if test x != test old then emit (.pin (.slotTest c) (test x)) s1 else s1
  let s3 := if perstOn x != perstOn old then emit (.pin (.slotPerstN c) (!(perstOn x))) s2 else s2
  match chanPort x with
  | some p =>
    if perstOn x != perstOn old && (getPort s p).cfg.role % 2 == 1 then emit (.pin (.portPerstN p) (!(perstOn x))) s3 else s3
  | none => s3

/-- The port's link is held in Detect unless its channel is ON with PERST# deasserted: traffic to it ends as toward a
port that has gone down (14 R376, R387). -/
def holdLink (c : Nat) (s : State) : State :=
  let x := getChan s c
  match chanPort x with
  | some p => if x.state == .on && !(perstOn x) then s else portFails p s
  | none => s

/-- Put a changed channel in place: its pins, its lines, its port, and an edge of its event line for a change of state
(14 R387; 13 R351). -/
def putChan (c : Nat) (x : Channel) (s : State) : State :=
  let old := getChan s c
  let s1 := holdLink c (slotLines c (drivePins c old (setChan c x s)))
  if x.state == old.state then s1 else eventEdge (448 + c) s1

/-- The seated state is sent as PRSNT of the channel's port when it changes (11 R327; 14 R371). -/
def sendSeated (c : Nat) (was : Bool) (s : State) : State :=
  let x := getChan s c
  match chanPort x with
  | some p => if x.seated = was then s else sendSignal p 8 (b2n x.seated) c false s
  | none => s

/-! ## Places (14 R372) -/

/-- Channels in TEST or INRUSH. -/
def inrushCount (s : State) : Nat := (s.slot.ch.filter (fun e => e.2.state == .test || e.2.state == .inrush)).length

/-- A channel enters INRUSH; during a sag it enters paused (14 R373, R386). -/
def enterInrush (x : Channel) : Channel :=
  { x with state := .inrush, gate := true, pauseUs := 0, paused := decide (x.vinMv < Int.ofNat x.policy.pauseMv) }

/-- A waiting channel gets a place: TEST, with the accumulators at zero, or INRUSH (14 R373, R380). -/
def startChan (x : Channel) : Channel :=
  if x.policy.shortTest then { x with state := .test, acc := List.replicate 8 0 } else enterInrush x

/-- Places go to waiting channels, lowest first, while any is free (14 R372). -/
def fillPlaces : Nat → State → State
  | 0, s => s
  | n + 1, s =>
    if 4 ≤ inrushCount s then s
    else match s.slot.ch.find? (fun e => e.2.state == .waiting) with
      | some e => fillPlaces n (putChan e.1 (startChan e.2) s)
      | none => s

def places (s : State) : State := fillPlaces 4 s

def execPlaceFree (s : State) : Out := .next (places s)

/-- A channel on the Landing is released (14 R372). -/
def release (c : Nat) (s : State) : State :=
  let x := getChan s c
  if x.state == .landing then places (putChan c { x with state := .waiting } s) else s

/-! ## Trips, removal and locks (14 R371, R373, R375, R383) -/

/-- The highest sampled current in the 1 ms before, in 100 mA (14 R389). -/
def peak100 (x : Channel) : Nat := min 65535 ((x.recent.foldl (fun a i => if a < i then i else a) 0).toNat / 100)

/-- A trip is recorded and counted, and sets Power Fault Detected of the port's hot-plug registers (14 R376, R389). -/
def noteTrip (now : Nat) (k : Cause) (tread : Nat) (x : Channel) : Channel :=
  { x with tripCause := k, tripTread := tread, tripPeak := peak100 x, tripTime := now, trips := sat64 x.trips, powerFault := true }

/-- The channel trips: gate off, PERST# asserted (14 R373). -/
def trip (c : Nat) (k : Cause) (tread : Nat) (s : State) : State :=
  let x := noteTrip s.time.now k tread (getChan s c)
  putChan c { x with state := .tripped, gate := false, perst := true, lastCause := k, paused := false } s

/-- A trip in a sample whose state another event decides: recorded, counted and raised (14 R375, R387). -/
def tripOnly (c : Nat) (k : Cause) (tread : Nat) (s : State) : State :=
  dropLine 29 (unitCode 7 c) (assertLine 29 (unitCode 7 c) (some (w64 (tobits (getChan s c).iMa 64))) none
    (setChan c (noteTrip s.time.now k tread (getChan s c)) s))

/-- A wiring fault locks the channel out (14 R373, R383). -/
def wiringFault (c : Nat) (k : Cause) (s : State) : State :=
  let x := getChan s c
  putChan c { x with state := .lockedOut, gate := false, perst := true, lastCause := k, wiringLock := true
                     lockShort := false, paused := false } s

/-- Where a channel without a seated card stands: SEATING while a presence pin is low, else EMPTY. -/
def unseatedState (x : Channel) : ChState := if x.longLow || x.shortLow then .seating else .empty

/-- The card is unseated: a powered channel turns off at once, and a channel that waits, stands on the Landing or is
locked out by anything but a wiring fault or a retirement goes back to SEATING or EMPTY (14 R371, R373; 15 R403). A
TRIPPED channel follows when it leaves TRIPPED. -/
def unseat (c : Nat) (s : State) : State :=
  let x := { getChan s c with seated := false, autoOk := false }
  let y := { x with state := unseatedState x, gate := false, perst := true, paused := false }
  if powered x.state then putChan c { y with lastCause := .removed } s
  else match x.state with
    | .landing => putChan c y s
    | .waiting => putChan c y s
    | .retryWait => putChan c y s
    | .lockedOut => if x.wiringLock || x.retired then putChan c x s else putChan c { y with lockShort := false } s
    | _ => putChan c x s

/-- Unseat and send PRSNT 0. -/
def removed (c : Nat) (s : State) : State := sendSeated c (getChan s c).seated (unseat c s)

/-! ## Leaving STOPPING and TRIPPED (14 R373) -/

/-- A retired channel has stopped: LOCKED_OUT, and its UNIT_RETIRE completes (15 R402, R403). -/
def chanOut (c : Nat) (s : State) : State :=
  unitOut (unitCode 7 c) (putChan c { getChan s c with
    state := .lockedOut, gate := false, perst := true, lastCause := .offCmd, lockShort := false, paused := false } s)

/-- The output has discharged, or 1 s has passed (14 R373). -/
def discharged (c : Nat) (s : State) : State :=
  let x := getChan s c
  match x.state with
  | .stopping =>
    if x.retired then chanOut c s else putChan c { x with state := .landing, gate := false, autoOk := false } s
  | .tripped =>
    if !x.seated then putChan c { x with state := unseatedState x } s
    else if x.retired then chanOut c s
    else if x.retryCount = x.policy.retries then putChan c { x with state := .lockedOut } s
    else putChan c { x with state := .retryWait, retryCount := x.retryCount + 1 } s
  | _ => s

/-! ## Measurement (14 R377-R382) -/

/-- Samples kept for the peak: 1 ms of them. -/
def keepRecent (l : List Int) (i : Int) : List Int := if l.length < 100 then l ++ [i] else l.drop 1 ++ [i]

/-- One stage of the thermal model (14 R381). -/
def stage (p d : Int) (r tau : Nat) : Int := d + Int.tdiv (p * Int.ofNat r - d) (Int.ofNat tau)

/-- The model's temperature in 0.01 °C (14 R381). -/
def modelTemp (x : Channel) : Int := Int.ofNat (x.policy.tambC * 100) + Int.tdiv (x.d0 + x.d1 + x.d2) 1000

/-- The selected temperature (14 R382). -/
def fetTemp (x : Channel) : Int := if x.policy.thermSrc && !x.thermFallback then x.tDiode else modelTemp x

/-- Measure: current, voltages, power, energy, diode and model (14 R377, R378, R381, R383). -/
def measure (m : SlotMeas) (x : Channel) : Channel :=
  let i := clampInt m.iMa (-40000) 120000
  let vin := clampInt m.vinMv (-16000) 20000
  let vout := clampInt m.voutMv 0 20000
  let uw := vout * i
  let e := if 0 < uw then x.energyFrac + uw.toNat else x.energyFrac
  let p0 := Int.tdiv (i * (vin - vout)) 1000
  let p := if p0 < 0 then 0 else p0
  { x with
    iMa := i, vinMv := vin, voutMv := vout, powerMw := (uw / 1000).toNat
    energyUj := satAdd 64 x.energyUj (e / 100000), energyFrac := e % 100000
    tDiode := (match m.diode with | some t => clampInt t (-4000) 17500 | none => x.tDiode)
    diodeOk := m.diode.isSome, thermFallback := m.diode.isNone
    lastCause := if m.diode.isNone && !x.thermFallback then .diodeFault else x.lastCause
    d0 := stage p x.d0 x.r1 x.tau1, d1 := stage p x.d1 x.r2 x.tau2, d2 := stage p x.d2 x.r3 x.tau3
    recent := keepRecent x.recent i }

/-- The tread's allowance in 10 µs (14 R380). -/
def allowance (t : Tread) : Nat := t.tcount * (if t.tunit = 0 then 1 else if t.tunit = 1 then 100 else 10000)

/-- One accumulator after a sample (14 R380). -/
def accStep (i : Int) (t : Tread) (a : Nat) : Nat :=
  if t.ilim = 0 then a else if Int.ofNat (t.ilim * 10) < i then a + 1 else a - 1

/-- The accumulators after a sample; they run in the powered states (14 R380). -/
def accRun (x : Channel) : Channel :=
  if powered x.state then { x with acc := (x.treads.zip x.acc).map (fun e => accStep x.iMa e.1 e.2) } else x

/-- The highest tread that has reached its allowance (14 R380). -/
def treadHit (x : Channel) : Option Nat :=
  ((List.range 8).reverse).find? (fun k =>
    let t := x.treads.getD k Tread.reset
    t.ilim != 0 && decide (allowance t ≤ x.acc.getD k 0))

/-- The trip of a sample, the highest in priority: fast, FET temperature, tread (14 R375). -/
def sampleTrip (m : SlotMeas) (x : Channel) : Option (Cause × Nat) :=
  if !(powered x.state) then none
  else if m.fastOver then some (.fast, 0)
  else if Int.ofNat (x.policy.tfetMaxC * 100) ≤ fetTemp x then some (.fetHot, 0)
  else (treadHit x).map (fun k => (.tread, k))

/-- The wiring fault of a sample (14 R383). -/
def sampleWiring (m : SlotMeas) (x : Channel) : Option Cause :=
  if x.state == .lockedOut && x.wiringLock then none
  else if m.senseOpen then some .senseOpen
  else if m.shuntReversed && x.state == .inrush then some .shuntReversed
  else if x.vinMv < -1000 then some .busReversed
  else none

/-- The bus sag of a sample: the pause begins, lasts or ends (14 R385). -/
def sagStep (x : Channel) : Channel :=
  if x.state != .inrush then x
  else if x.paused then
    { x with pauseUs := satAdd 32 x.pauseUs 10, paused := decide (x.vinMv < Int.ofNat (x.policy.pauseMv + 200)) }
  else { x with paused := decide (x.vinMv < Int.ofNat x.policy.pauseMv) }

/-- The progress that a sample without a fault makes (14 R373, R383): the output test passes, the inrush is done, or the
output has discharged. -/
def progress (c : Nat) (m : SlotMeas) (s : State) : State :=
  let x := getChan s c
  match x.state with
  | .test => if 100 ≤ x.voutMv then putChan c (enterInrush x) s else s
  | .inrush =>
    if !x.paused && decide (x.vinMv - 300 ≤ x.voutMv) then putChan c { x with state := .on, busAborts := 0 } s else s
  | .stopping => if !x.gate && (decide (x.voutMv < 500) || m.dischargeTimeout) then discharged c s else s
  | .tripped => if decide (x.voutMv < 500) || m.dischargeTimeout then discharged c s else s
  | _ => s

/-- One 10 µs sample: measure, then apply its events in the order of R375 (14 R375). -/
def slotSample (c : Nat) (m : SlotMeas) (s : State) : State :=
  let x := accRun (measure m (getChan s c))
  let s1 := putChan c x s
  let t := sampleTrip m x
  let noted := fun (s : State) => match t with
    | some (k, n) => tripOnly c k n s
    | none => s
  match sampleWiring m x with
  | some k => wiringFault c k (noted s1)
  | none =>
    if m.unseated && x.seated then removed c (noted (setChan c { x with shortLow := false } s1))
    else match t with
      | some (k, n) => trip c k n s1
      | none => progress c m (putChan c (sagStep x) s1)

def execSlotSample (c : Nat) (m : SlotMeas) (s : State) : Out := inUnit "slot channel" c Config.channels (.next (slotSample c m s))

/-! ## The other events of a channel (14 R371-R374, R379, R383) -/

def execFastTrip (c : Nat) (s : State) : Out :=
  inUnit "slot channel" c Config.channels (.next (if powered (getChan s c).state then trip c .fast 0 s else s))

/-- The presence pins change; an empty channel with a pin low enters SEATING (14 R371, R373). -/
def presence (c : Nat) (long short : Bool) (s : State) : State :=
  let x := { getChan s c with longLow := long, shortLow := short }
  let y := if long == short then { x with mismatch := false } else x
  putChan c (if y.state == .empty && (long || short) then { y with state := .seating } else y) s

def execPresenceChange (c : Nat) (long short : Bool) (s : State) : Out :=
  inUnit "slot channel" c Config.channels (.next (presence c long short s))

/-- Both pins have been low for 50 ms (14 R371, R373). -/
def seated (c : Nat) (s : State) : State :=
  let x := { getChan s c with longLow := true, shortLow := true, seated := true, mismatch := false }
  let was := (getChan s c).seated
  match x.state with
  | .seating => sendSeated c was (putChan c { x with state := .landing, retryCount := 0, autoOk := true } s)
  | .lockedOut => sendSeated c was (putChan c x s)
  | _ => s

def execSeated (c : Nat) (s : State) : Out := inUnit "slot channel" c Config.channels (.next (seated c s))

/-- SHORT_N has been low for 50 ms while LONG_N is high (14 R371, R383). -/
def mismatch (c : Nat) (s : State) : State :=
  let x := getChan s c
  if x.state == .seating then
    putChan c { x with shortLow := true, longLow := false, mismatch := true, lastCause := .prsntMismatch } s
  else s

def execPrsntMismatch (c : Nat) (s : State) : Out := inUnit "slot channel" c Config.channels (.next (mismatch c s))

/-- SHORT_N has been high for 5 µs; `long`: LONG_N is low (14 R371). -/
def unseatedNow (c : Nat) (long : Bool) (s : State) : State :=
  let x := getChan s c
  if x.seated then removed c (setChan c { x with shortLow := false, longLow := long } s) else s

def execUnseated (c : Nat) (long : Bool) (s : State) : Out :=
  inUnit "slot channel" c Config.channels (.next (unseatedNow c long s))

/-- Both pins have been high for 50 ms (14 R373). -/
def abandoned (c : Nat) (s : State) : State :=
  let x := getChan s c
  if x.state == .seating then putChan c { x with state := .empty, longLow := false, shortLow := false, mismatch := false } s
  else s

def execSeatingAbandoned (c : Nat) (s : State) : Out := inUnit "slot channel" c Config.channels (.next (abandoned c s))

def execInrushTimeout (c : Nat) (s : State) : Out :=
  inUnit "slot channel" c Config.channels (.next (if (getChan s c).state == .inrush then trip c .inrushTimeout 0 s else s))

/-- Inrush pauses exceed 5 ms; the eighth abort in a row returns the channel to the Landing (14 R373, R374). -/
def busAbort (c : Nat) (s : State) : State :=
  let x := getChan s c
  if x.state != .inrush then s
  else
    let y := { x with gate := false, perst := true, paused := false, lastCause := .busAbort, busAborts := x.busAborts + 1
                      busAbortTotal := sat64 x.busAbortTotal }
    if 8 ≤ y.busAborts then
      pulse 31 (unitCode 7 c) (some (w64 (tobits x.iMa 64))) none (putChan c { y with state := .landing, autoOk := false } s)
    else putChan c { y with state := .retryWait } s

def execBusAbort (c : Nat) (s : State) : Out := inUnit "slot channel" c Config.channels (.next (busAbort c s))

/-- The output test fails (14 R383). -/
def outShort (c : Nat) (s : State) : State :=
  let x := getChan s c
  if x.state == .test then
    putChan c { x with state := .lockedOut, gate := false, perst := true, lastCause := .outShort, lockShort := true
                       wiringLock := false } s
  else s

def execOutShort (c : Nat) (s : State) : Out := inUnit "slot channel" c Config.channels (.next (outShort c s))

def execPerstDeassert (c : Nat) (s : State) : Out :=
  inUnit "slot channel" c Config.channels
    (.next (if (getChan s c).state == .on then putChan c { getChan s c with perst := false } s else s))

def execRetryCountClear (c : Nat) (s : State) : Out :=
  inUnit "slot channel" c Config.channels
    (.next (if (getChan s c).state == .on then putChan c { getChan s c with retryCount := 0 } s else s))

def execStoppingGateOff (c : Nat) (s : State) : Out :=
  inUnit "slot channel" c Config.channels
    (.next (if (getChan s c).state == .stopping then putChan c { getChan s c with gate := false } s else s))

def execBackoffEnd (c : Nat) (s : State) : Out :=
  inUnit "slot channel" c Config.channels
    (.next (if (getChan s c).state == .retryWait then places (putChan c { getChan s c with state := .waiting } s) else s))

/-- AUTO_DELAY has passed since the channel reached the Landing by seating or by cold reset (14 R372, R388). -/
def autoRelease (c : Nat) (s : State) : State :=
  let x := getChan s c
  if x.policy.autoRelease && x.autoOk && s.glb.ready then release c s else s

def execAutoRelease (c : Nat) (s : State) : Out := inUnit "slot channel" c Config.channels (.next (autoRelease c s))

/-! ## SLOT_OFF and the other commands (14 R366-R373) -/

/-- SLOT_OFF on a channel (14 R373). -/
def slotOff (c : Nat) (s : State) : State :=
  let x := getChan s c
  match x.state with
  | .on => putChan c { x with state := .stopping, perst := true, lastCause := .offCmd } s
  | .test => putChan c { x with state := .stopping, perst := true, gate := false, lastCause := .offCmd, paused := false } s
  | .inrush => putChan c { x with state := .stopping, perst := true, gate := false, lastCause := .offCmd, paused := false } s
  | .waiting => putChan c { x with state := .landing, autoOk := false } s
  | .retryWait => putChan c { x with state := .landing, autoOk := false } s
  | _ => s

/-- The channel of a slot command (14 R366). -/
def slotOf (c : SeqCmd) : Nat := objIndex c.desc.objectId % 32

def slotOffBody (c : SeqCmd) (s : State) : CmdOut := .done 0 [] (slotOff (slotOf c) s)

def execSlotOff (seq : Nat) (s : State) : Out := .next (runOp 0x9003 anyDesc true slotOffBody seq s)

def slotReleaseBody (c : SeqCmd) (s : State) : CmdOut :=
  if (getChan s (slotOf c)).state == .landing then .done 0 [] (release (slotOf c) s) else .fail PRECONDITION s

def execSlotRelease (seq : Nat) (s : State) : Out := .next (runOp 0x9002 anyDesc true slotReleaseBody seq s)

/-- SLOT_UNLOCK ends a lockout (14 R373; 15 R403). -/
def slotUnlockBody (c : SeqCmd) (s : State) : CmdOut :=
  let x := getChan s (slotOf c)
  if x.state == .lockedOut && !x.retired then
    .done 0 [] (putChan (slotOf c) { x with
      state := if x.seated then .landing else unseatedState x, retryCount := 0, wiringLock := false, lockShort := false
      autoOk := false } s)
  else .fail PRECONDITION s

def execSlotUnlock (seq : Nat) (s : State) : Out := .next (runOp 0x9005 anyDesc true slotUnlockBody seq s)

/-- The bounds that FAST × SHUNT in 10-60 mV sets on FAST_100MA (14 R367). -/
def fastRange (shunt : Nat) : Nat × Nat := (max 1 (ceilDiv 100000 shunt), min 1200 (600000 / shunt))

/-- The policy that a KIND 0 descriptor gives (14 R367). -/
def policyOf (d : Desc) : Policy :=
  let shunt := used d.arg2 10 0 250 2000
  let f := fastRange shunt
  { port := used d.arg0 6 0 0 111, portValid := bit d.arg0 7, autoRelease := bit d.arg0 8, hostCtrl := bit d.arg0 9
    shortTest := bit d.arg0 10, thermSrc := bit d.arg0 11, retries := fld d.arg0 14 12
    backoff10ms := used d.arg0 23 16 1 255, autoDelay10ms := fld d.arg0 31 24, inrushMs := used d.arg0 41 32 1 1000
    rampMvMs := used d.arg0 61 48 50 12000, fast100ma := used d.arg1 10 0 f.1 f.2, inrushLim := used d.arg1 26 16 1 1200
    pauseMv := used d.arg1 45 32 7000 15000, perstMs := used d.arg1 57 48 100 1000, shuntUohm := shunt
    tfetMaxC := used d.arg2 23 16 100 175, tambC := used d.arg2 31 24 0 125, etaMilli := used d.arg2 42 32 1000 1100 }

/-- The clamps of a KIND 0 descriptor. -/
def policyClamps (d : Desc) : List FieldClamp :=
  let f := fastRange (used d.arg2 10 0 250 2000)
  argClamps d [(0, 6, 0, 0, 111), (0, 23, 16, 1, 255), (0, 41, 32, 1, 1000), (0, 61, 48, 50, 12000), (1, 10, 0, f.1, f.2),
    (1, 26, 16, 1, 1200), (1, 45, 32, 7000, 15000), (1, 57, 48, 100, 1000), (2, 10, 0, 250, 2000), (2, 23, 16, 100, 175),
    (2, 31, 24, 0, 125), (2, 42, 32, 1000, 1100)]

/-- SLOT_POLICY_SET with KIND 0 (14 R367, R369). -/
def policySetBody (c : SeqCmd) (s : State) : CmdOut :=
  let n := slotOf c
  let x := getChan s n
  let p := policyOf c.desc
  let rebinds := p.port != x.policy.port || p.portValid != x.policy.portValid || p.shuntUohm != x.policy.shuntUohm
  let still := x.state == .empty || x.state == .seating || x.state == .landing
  let taken := p.portValid && s.slot.ch.any (fun e => e.1 != n && e.2.policy.portValid && e.2.policy.port == p.port)
  if (rebinds && !still) || taken then .fail PRECONDITION s
  else .done 0 (policyClamps c.desc) (putChan n { x with policy := p } s)

/-- KIND of a slot object (14 R366). -/
def slotKind (k : Nat) (d : Desc) : Bool := decide (objIndex d.objectId / 2 ^ 48 = k)

/-- KIND 0 and every index that names no KIND 1 object: BAD_OBJECT comes from here. -/
def slotPolicySel (d : Desc) : Bool := !(slotKind 1 d)

def execSlotPolicySet (seq : Nat) (s : State) : Out := .next (runOp 0x9001 slotPolicySel true policySetBody seq s)

/-- SLOT_POLICY_SET with KIND 1 (14 R368). -/
def thermalBody (c : SeqCmd) (s : State) : CmdOut :=
  let d := c.desc
  let n := slotOf c
  .done 0 (argClamps d [(0, 15, 0, 1, 65535), (0, 31, 16, 1, 65535), (0, 47, 32, 1, 65535), (1, 19, 0, 1, 1048575),
      (1, 39, 20, 1, 1048575), (1, 59, 40, 1, 1048575)])
    (setChan n { getChan s n with
      r1 := used d.arg0 15 0 1 65535, r2 := used d.arg0 31 16 1 65535, r3 := used d.arg0 47 32 1 65535
      tau1 := used d.arg1 19 0 1 1048575, tau2 := used d.arg1 39 20 1 1048575, tau3 := used d.arg1 59 40 1 1048575 } s)

def execSlotThermalModelSet (seq : Nat) (s : State) : Out := .next (runOp 0x9001 (slotKind 1) true thermalBody seq s)

/-- Tread k as supplied (14 R370). -/
def treadRaw (d : Desc) (k : Nat) : Tread :=
  let w := arg d (k / 2)
  let o := 32 * (k % 2)
  ⟨fld w (o + 13) o, fld w (o + 15) (o + 14), fld w (o + 31) (o + 16)⟩

/-- The unit of a tread in 10 µs. -/
def unit10us (tunit : Nat) : Nat := if tunit = 0 then 1 else if tunit = 1 then 100 else 10000

/-- A tread after its own clamps and those against the previous enabled one (14 R370). -/
def treadFix (prev : Option Tread) (t : Tread) : Tread :=
  let a : Tread := ⟨t.ilim, min t.tunit 2, max t.tcount 1⟩
  match prev with
  | none => a
  | some p =>
    if a.ilim = 0 then a
    else
      let il := if a.ilim ≤ p.ilim then min 16383 (p.ilim + 1) else a.ilim
      let tc := if allowance p < allowance a then max 1 (allowance p / unit10us a.tunit) else a.tcount
      ⟨il, a.tunit, tc⟩

/-- Fix the treads in order of k. -/
def treadsFix : Option Tread → List Tread → List Tread
  | _, [] => []
  | prev, t :: ts =>
    let f := treadFix prev t
    f :: treadsFix (if f.ilim = 0 then prev else some f) ts

/-- One clamp of tread k's field hi:lo. -/
def treadClamp (k hi lo w u : Nat) : List FieldClamp :=
  if w = u then [] else [⟨32 + 8 * (k / 2), false, 0, 32 * (k % 2) + hi, 32 * (k % 2) + lo, w, u⟩]

/-- SLOT_TREADS_SET (14 R370). -/
def treadsBody (c : SeqCmd) (s : State) : CmdOut :=
  let raw := (List.range 8).map (treadRaw c.desc)
  let fixed := treadsFix none raw
  let ks := ((raw.zip fixed).zipIdx).flatMap (fun e =>
    treadClamp e.2 13 0 e.1.1.ilim e.1.2.ilim ++ treadClamp e.2 15 14 e.1.1.tunit e.1.2.tunit
      ++ treadClamp e.2 31 16 e.1.1.tcount e.1.2.tcount)
  .done 0 ks (setChan (slotOf c) { getChan s (slotOf c) with treads := fixed } s)

def execSlotTreadsSet (seq : Nat) (s : State) : Out := .next (runOp 0x9004 anyDesc true treadsBody seq s)

/-! ## The host's power control, WAKE and the button (14 R364, R376) -/

/-- A host's write of Power Controller Control, sequenced without an expected version (14 R376; 02 R63). -/
def hostPower (c : Nat) (on : Bool) (s : State) : State :=
  let x := getChan s c
  if x.policy.portValid && x.policy.hostCtrl then
    bumpVer (objKey 0xE c) ((if on then release c else slotOff c)
      { s with cmd := { s.cmd with seqNext := (s.cmd.seqNext + 1) % 2 ^ 64 } })
  else s

def execHostPowerControl (c : Nat) (on : Bool) (s : State) : Out :=
  inUnit "slot channel" c Config.channels (.next (hostPower c on s))

/-- Send a pin's change to the host's switch (11 R327). -/
def sendPin (c signal : Nat) (on : Bool) (s : State) : State :=
  match chanPort (getChan s c) with
  | some p => sendSignal p signal (b2n on) c false s
  | none => s

def execWakeN (c : Nat) (low : Bool) (s : State) : Out :=
  inUnit "slot channel" c Config.channels
    (.next (if (getChan s c).wake = low then s else sendPin c 9 low (setChan c { getChan s c with wake := low } s)))

def execAttnBtnN (c : Nat) (low : Bool) (s : State) : Out :=
  inUnit "slot channel" c Config.channels
    (.next (if (getChan s c).button = low then s else sendPin c 10 low (setChan c { getChan s c with button := low } s)))

/-- The attention indicator of a channel is set (14 R376). -/
def setAttn (c v : Nat) (s : State) : State :=
  emit (.pin (.attnInd c) (v != 0)) (setChan c { getChan s c with attn := clampNat v 0 2 } s)

/-- The PERST that a host asks for over the bridge (11 R327). -/
def hostPerst (c : Nat) (on : Bool) (s : State) : State := putChan c { getChan s c with perstReq := on } s

end Sys2Proof.Machine
end

