-- ==== Sys2Proof/Machine/Links.lean ====
section
/-! DEFINITION. The Obmulum link layer: flits, replay, credits, the bypass channel, training, sleep, failover and
reachability (10 R274-R312), and the locks and held messages that depend on them (11 R316, R326, R329). -/

namespace Sys2Proof.Machine

/-- One edge of a link's event line (13 R351). -/
def linkEvent (l : Nat) (s : State) : State := eventEdge (368 + l) s

/-- Change a link's STATE; a change is an edge of its event line. -/
def setLinkRun (l : Nat) (r : LinkRun) (s : State) : State :=
  if (getLink s l).state = r then s else linkEvent l (setLink l { getLink s l with state := r } s)

/-! ## Messages that end (04 R119; 03 R79; 10 R302; 11 R313, R316) -/

/-- How an access to a home ends, for a request of source ingress `i`. -/
def homeEndKind (i : Nat) (pcie : Bool) (k : HomeKind) : RspKind :=
  match k with
  | .readS => .poison
  | .readOwn => .poison
  | .readI => .poison
  | .ncRead => if pcie || ownUnit i then .abort else .poison
  | .ncWrite => if ownUnit i then .abort else .cmp
  | _ => .cmp

/-- What answers a message of source ingress `i` that is ended: as toward a port that has gone down, or, `lost`, as with no valid
DID entry; none for one that asks for no answer. -/
def endKind (lost : Bool) (i : Nat) (b : Body) : Option RspKind :=
  match b with
  | .req r _ => if r.kind == .pcieWr then none else some (if lost then lostFor i r.kind else downFor i r.kind)
  | .home p _ k => some (homeEndKind i p k)
  | .homeRead _ => some .poison
  | .homeWrite _ _ _ _ _ => some .cmp
  | _ => none

/-- An answer for this switch, charged to account `a`: its home's access to an expander, or a request that waits here. -/
def ownAnswer (a : Acct) (tag : Nat) (k : RspKind) (data : List Word) (s : State) : State :=
  match s.dir.expander.find? (fun e => e.1 == tag) with
  | some e => expanderAnswer a e k data s
  | none =>
    match s.gh.waits.find? (fun w => w.id == tag && w.done.isNone) with
    | some w => unblock (shadowAnswer w k (answer a.1 w k data [] s))
    | none => s

/-- Where the answer to a message that is ended goes (10 R304; 04 R115). -/
def msgBack (m : Msg) : Back :=
  ⟨128, min m.tc 15, m.tag, if m.mkind = 1 then .pcieRd else .memRd .I, some (m.srcSwitch, m.srcIngress, m.tag)⟩

/-- End a message: its source gets the answer, here or over the fabric. -/
def endMessage (lost : Bool) (m : Msg) (s : State) : State :=
  match endKind lost m.srcIngress m.body with
  | none => s
  | some k =>
    if m.srcSwitch = s.glb.switchId then ownAnswer selfAcct m.tag k [] s else forwardRsp 128 (msgBack m) k [] [] s

/-! ## Flows at the destination (10 R301; 11 R315-R318) -/

/-- The key of a flow that ends here. -/
def rxKey (sw ingress vc : Nat) : Nat := (sw * 256 + ingress) * 4 + vc

def expected (s : State) (sw ingress vc : Nat) : Nat := tget 0 s.obl.rxExpect (rxKey sw ingress vc)

def setExpected (sw ingress vc n : Nat) (s : State) : State :=
  { s with obl := { s.obl with rxExpect := tput 0 s.obl.rxExpect (rxKey sw ingress vc) (n % 65536) } }

/-- Flow number `a` is behind `b`, as R120 compares generations, over 16 bits (10 R301). -/
def flowBehind (a b : Nat) : Bool :=
  decide (1 ≤ (b + 65536 - a) % 65536) && decide ((b + 65536 - a) % 65536 ≤ 32768)

def flagOf (m : Msg) (i : Nat) : Bool := m.flags.getLsbD i

/-- The message numbered PFENCE in the DATA flow of the same source has been released (11 R317). -/
def fenceMet (s : State) (m : Msg) : Bool :=
  !(flagOf m 0) || flowBehind m.pfence (expected s m.srcSwitch m.srcIngress 3)

/-- Two copies of one message: the same flow and number. -/
def sameMsg (a b : Msg) : Bool :=
  a.srcSwitch == b.srcSwitch && a.srcIngress == b.srcIngress && a.vc == b.vc && a.fseq == b.fseq && a.destSwitch == b.destSwitch

/-- Count the messages that have reached their number and begin to wait for their fence (11 R317). -/
def noteFences (s : State) : State :=
  let waits := fun (h : HeldMsg) => !h.fenced && h.msg.fseq == expected s h.msg.srcSwitch h.msg.srcIngress h.msg.vc && !(fenceMet s h.msg)
  let held := s.obl.heldMsgs.map (fun h => if waits h then { h with fenced := true } else h)
  (List.range 8).foldl (fun a l =>
    let n := (s.obl.heldMsgs.filter (fun h => h.link == l && waits h)).length
    if n = 0 then a else setStw l { getStw a l with fenceTotal := satAdd 32 (getStw a l).fenceTotal n } a)
    { s with obl := { s.obl with heldMsgs := held } }

/-- The cells of a message (04 R105, 10 R283). -/
def msgCells (m : Msg) : Nat := cellsOf (bodyBytes m.body)

/-- The cells of a message that leaves the receiving link's reserve return to its credit (10 R283). -/
def freeCells (l : Nat) (m : Msg) (s : State) : State :=
  creditBack (112 + l) m.vc (msgCells m) (shareCells true (112 + l) m.vc (msgCells m) s)

/-- Take a held message out. -/
def takeHeld (h : HeldMsg) (s : State) : State :=
  { s with obl := { s.obl with heldMsgs := s.obl.heldMsgs.filter (fun x => !(x.link == h.link && sameMsg x.msg h.msg)) } }

/-- End held messages, counting each in STW_RESTART_ENDED (11 R316). -/
def endHeld : List HeldMsg → State → State
  | [], s => s
  | h :: hs, s =>
    let s1 := takeHeld h { s with stw := { s.stw with restartEnded := sat64 s.stw.restartEnded } }
    endHeld hs (endMessage false h.msg (freeCells h.link h.msg s1))

/-! ## Reachability (10 R302, R306, R308; 11 R316, R326, R329) -/

/-- The signals that a bound port of the slot's switch has: its INTx wires, and its channel's presence, WAKE and button
(11 R327). -/
def portSignals (s : State) (p : Nat) : List Nat :=
  [1, 2, 3, 4] ++ (if (portChan s p).isSome then [8, 9, 10] else [])

/-- Send the current state of signals of port `p` with RESYNC set (11 R329). -/
def resyncPort (p : Nat) : List Nat → State → State
  | [], s => s
  | k :: ks, s => resyncPort p ks (sendSignal p k (tget 0 s.stw.sent (sigKey p k)) ((portChan s p).getD 0xFF) true s)

def resyncPorts (sw : Nat) : List (Nat × BindSlot) → State → State
  | [], s => s
  | (p, b) :: rest, s => resyncPorts sw rest (if b.enable && b.switch = sw then resyncPort p (portSignals s p) s else s)

def resyncHosts (sw : Nat) : List (Nat × BindHost) → State → State
  | [], s => s
  | (k, b) :: rest, s =>
    let state := fun (n : Nat) => tget 0 s.stw.sent (112 * 32 + k * 32 + n)
    resyncHosts sw rest (if b.enable && b.switch = sw then
      sendOut (k / 128) (k % 128) 17 (state 17) true (sendOut (k / 128) (k % 128) 16 (state 16) true s) else s)

/-- Send the current state of every bound signal to a switch (11 R329). -/
def resync (sw : Nat) (s : State) : State := resyncHosts sw s.stw.bindHost (resyncPorts sw s.stw.bindSlot s)

/-- Units whose every unreachable destination is reachable again drop OBL_UNREACHABLE (10 R302). -/
def dropUnreach (sw : Nat) (s : State) : State :=
  let left := s.obl.unreach.filter (fun e => e.2 != sw)
  (s.obl.unreach.filter (fun e => e.2 == sw && !(left.any (fun x => x.1 == e.1)))).foldl (fun a e => dropLine 26 e.1 a)
    { s with obl := { s.obl with unreach := left } }

/-- A switch has become reachable (10 R306; 11 R329). -/
def gainSwitch (sw : Nat) (s : State) : State :=
  let s1 := dropUnreach sw { s with obl := { s.obl with reach := s.obl.reach ||| (1#32 <<< sw) } }
  let s2 := if isManager s1 then sendBypass sw (.epoch s1.cmd.ownEpoch) s1 else s1
  resync sw s2

/-- Locks that a switch owns are broken (11 R326). -/
def breakLocksOf (sw : Nat) : List Nat → State → State
  | [], s => s
  | p :: ps, s =>
    breakLocksOf sw ps (match (getPort s p).lock with
      | some o => if o.1 = sw then breakLock p s else s
      | none => s)

/-- INTx wires that a switch asserts read as deasserted (11 R329). -/
def dropWires (sw : Nat) : List (Nat × Nat) → State → State
  | [], s => s
  | (k, src) :: rest, s =>
    dropWires sw rest (if src = sw + 1 && decide (1 ≤ k % 32) && decide (k % 32 ≤ 4)
      then { s with stw := { s.stw with wires := tput 0 s.stw.wires k 0 } } else s)

/-- The home's accesses to expanders at another switch. -/
def expandersFar (s : State) (sw : Nat) : List (Nat × Nat × Bool) :=
  s.dir.expander.filter (fun e =>
    match rangeTarget (getDomain s (dlaDomain e.2.1)).ranges (dlaOffset e.2.1) with
    | some (w, _, _) => w == sw
    | none => false)

/-- A switch cannot be reached any more: what waits on it ends, its held messages end, its locks break
(10 R302, R308; 11 R316, R326, R329). -/
def loseSwitch (sw : Nat) (s : State) : State :=
  let s1 := { s with obl := { s.obl with reach := s.obl.reach &&& ~~~(1#32 <<< sw), resend := s.obl.resend.filter (fun e => e.1 != sw) } }
  let s2 := endHeld (s1.obl.heldMsgs.filter (fun h => h.msg.srcSwitch == sw)) s1
  let s3 := dropWires sw s2.stw.wireSrc (breakLocksOf sw (tkeys s2.port.ports) s2)
  let s4 := endWaitsOf (s3.gh.waits.filter (fun w => w.far == some sw && w.done.isNone)) s3
  unblock (noteUnreachable (getRouteEnt s sw).primary sw (endExpanders (expandersFar s4 sw) s4))

/-- Bring OBL_REACH up to date: a switch is reachable while a working link leads to it. -/
def updateSwitches : List Nat → State → State
  | [], s => s
  | w :: ws, s =>
    let now := w != s.glb.switchId && (linkToward s w).isSome
    updateSwitches ws <|
      if now && !(s.obl.reach.getLsbD w) then gainSwitch w s
      else if !now && s.obl.reach.getLsbD w then loseSwitch w s
      else s

def updateReach (s : State) : State := updateSwitches (List.range 32) s

/-! ## Sending flits (10 R277, R281, R285, R286) -/

/-- CONG of a channel: a cell of its reserve is charged to the reserve (10 R286). -/
def sendsCong (s : State) (l v : Nat) : Bool := decide (0 < reserveUsed s (112 + l) v)

/-- The header of the next flit with sequence number `seq` (10 R277); CVC moves on with every flit. -/
def nextHdr (l seq vc : Nat) (s : State) : FlitHdr × State :=
  let x := getLink s l
  (⟨seq, (x.rxExpect + 4095) % 4096, vc, x.cvc, (getCredit x x.cvc).adv, sendsCong s l x.cvc, (x.brxExpect + 255) % 256⟩,
   setLink l { x with cvc := (x.cvc + 1) % 4 } s)

/-- Send one PAYLOAD flit. -/
def sendFlit (l : Nat) (f : ReplayFlit) (s : State) : State :=
  let h := nextHdr l f.seq f.vc s
  let s1 := setLink l { getLink h.2 l with flitsTx := sat64 (getLink h.2 l).flitsTx } h.2
  emit (.flit l h.1 f.msg) s1

def sendFlits (l : Nat) : List ReplayFlit → State → State
  | [], s => s
  | f :: fs, s => sendFlits l fs (sendFlit l f s)

/-- Send bypass messages again, as they are numbered (10 R281, R288). -/
def resendBypass : List (Nat × Nat × Bypass) → State → State
  | [], s => s
  | e :: es, s => resendBypass es (emit (.bypass e.2.1 e.2.2) s)

/-- Bypass messages that wait are sent while the window has room (10 R288, R294). -/
def flushBypass (l : Nat) : Nat → State → State
  | 0, s => s
  | n + 1, s =>
    let x := getLink s l
    match x.bwait with
    | [] => s
    | (sw, m) :: rest =>
      let k := bypassParts m
      if x.state == .active && !x.txAsleep && decide (bypassOut x + k ≤ Config.maxBypassUnacked) then
        flushBypass l n (emit (.bypass sw m) (setLink l { x with
          bwait := rest, btxNext := (x.btxNext + k) % 256, bunacked := x.bunacked ++ [((x.btxNext + k + 255) % 256, sw, m)] } s))
      else s

def flushWaiting (l : Nat) (s : State) : State := flushBypass l (getLink s l).bwait.length s

/-! ## Failover (10 R299-R303; 11 R301) -/

/-- The alternate link of a DID entry that leads over egress `e` to this switch and DID. -/
def didAlt (s : State) (e sw did : Nat) : Option Nat :=
  (genCurrent ⟨[], []⟩ s.gh.route).did.findSome? (fun d =>
    let w := d.2
    if bit w 0 && bit w 1 && fld w 19 15 == sw && fld w 39 28 == did && (fld w 9 2 == e || fld w 27 20 == e) then
      (let o := if fld w 9 2 = e then fld w 27 20 else fld w 9 2
       if linkOk s o then some (o - 112) else none)
    else none)

/-- The link to which traffic toward a switch moves: by its DID entry, or by the route entry (10 R300). -/
def otherLink (s : State) (l sw : Nat) (did : Option Nat) : Option Nat :=
  match did.bind (didAlt s (112 + l) sw) with
  | some o => some o
  | none => linkToward s sw

/-- Move a queued transaction to another link, its cells staying charged as they are; one that waits for cells waits for the other
link. -/
def relinkTo (o : Nat) (t : Txn) (s : State) : State :=
  let t1 := { t with egress := 112 + o }
  let waits := s.gh.waits.map (fun w => if w.id = t.id then { w with target := 112 + o } else w)
  let s0 := { s with gh := { s.gh with waits := waits } }
  if s.gh.deferred.any (fun x => x.id == t.id) then
    { s0 with gh := { s0.gh with deferred := s0.gh.deferred.map (fun x => if x.id = t.id then t1 else x) } }
  else
    let k := qkey t.egress t.queue
    let k' := qkey (112 + o) t.queue
    let s1 := setQueue k ((getQueue s0 k).filter (fun x => x.id != t.id)) s0
    let s2 := setQueue k' (getQueue s1 k' ++ [t1]) s1
    let occ := fun (u : Tbl Nat) => let v := tput 0 u k (tget 0 u k - t.cells); tput 0 v k' (tget 0 v k' + t.cells)
    let s3 := if t.shared then { s2 with gh := { s2.gh with sharedOcc := occ s2.gh.sharedOcc } }
      else { s2 with gh := { s2.gh with reserveOcc := occ s2.gh.reserveOcc } }
    refresh (112 + o) (noteOcc (112 + o) (noteOcc t.egress s3))

/-- A queued transaction that no link can carry ends as toward a port that has gone down (10 R302). -/
def endTxn (t : Txn) (s : State) : State :=
  let s1 := discardTxn t s
  match t.relay with
  | some m => endMessage false m s1
  | none =>
    match endKind false t.srcIngress t.body with
    | some k => if t.posted then s1 else ownAnswer selfAcct t.tag k [] s1
    | none => s1

/-- Move the queued transactions of a link, in their order. -/
def moveQueued (l : Nat) : List Txn → State → State
  | [], s => s
  | t :: ts, s =>
    let d := t.dest.getD (0, 0)
    moveQueued l ts <|
      match otherLink s l d.1 (if t.relay.isSome then none else some d.2) with
      | some o => relinkTo o t s
      | none => endTxn t (noteUnreachable (getRouteEnt s d.1).primary d.1 s)

/-- Queue a message that keeps its flow number: one relayed from link `i`, or one moved off a link (`i` 128)
(10 R300, R304). -/
def queueMessage (i o q : Nat) (m : Msg) (s : State) : State :=
  launch false { newTxn s i (112 + o) q (bodyBytes m.body) (if i = 128 then 2 else m.vc) s.gh.route.stamping m.posted m.body with
    dest := some (m.destSwitch, m.dest), relay := some m, srcSwitch := m.srcSwitch, srcIngress := m.srcIngress, tag := m.tag } s

/-- The messages with a flit unacknowledged, each once, with its queue. -/
def unackedMsgs : List ReplayFlit → List (Nat × Msg)
  | [] => []
  | f :: fs =>
    match f.msg with
    | some m => if fs.any (fun g => match g.msg with | some n => sameMsg m n | none => false) then unackedMsgs fs
                else (f.queue, m) :: unackedMsgs fs
    | none => unackedMsgs fs

/-- Move unacknowledged messages, whole. -/
def moveUnacked (l : Nat) : List (Nat × Msg) → State → State
  | [], s => s
  | (q, m) :: rest, s =>
    moveUnacked l rest <|
      match otherLink s l m.destSwitch (if m.srcSwitch = s.glb.switchId then some m.dest else none) with
      | some o => queueMessage 128 o q m s
      | none => endMessage false m (noteUnreachable (getRouteEnt s m.destSwitch).primary m.destSwitch s)

def resendAll : List (Nat × Bypass) → State → State
  | [], s => s
  | (sw, m) :: rest, s => resendAll rest (sendBypass sw m s)

/-- Every flow of the link moves at once (10 R303). -/
def moveFlows (l : Nat) : List (Nat × TxFlow) → State → State
  | [], s => s
  | (k, f) :: rest, s => moveFlows l rest (if f.link = some l then setFlow k { f with link := linkToward s (k / 1024) } s else s)

/-- Route entries whose primary is link `l` use their alternate if it works; entries that used `l` as alternate return
(10 R300, R312). -/
def useAlts (l : Nat) : List (Nat × RouteEnt) → State → State
  | [], s => s
  | (w, r) :: rest, s =>
    useAlts l rest <|
      if r.primary = 112 + l && linkOk s r.alt then setRouteEnt w { r with usingAlt := true } s
      else if r.alt = 112 + l && r.usingAlt then setRouteEnt w { r with usingAlt := false } s
      else s

/-- The cells that `n` units of a message of two header units take so far (10 R278, R283). -/
def partCells (n : Nat) : Nat := if n = 0 then 0 else max 1 (ceilDiv (n - 2) 4)

/-- The messages of a link's channels that are not whole are discarded, and their cells freed (10 R294, R300). -/
def dropPartial (l : Nat) : List Nat → State → State
  | [], s => s
  | v :: vs, s =>
    let x := getLink s l
    dropPartial l vs (shareCells true (112 + l) v (partCells (tget 0 x.partUnits v))
      (setLink l { x with partUnits := tput 0 x.partUnits v 0 } s))

/-- Lanes of a configured block or link count LOGICAL afresh (03 R102): those of link `l` that has not trained since it was
configured. -/
def relabelLink (l : Nat) (s : State) : State :=
  if (getLink s l).cfgSince then relabel (List.range' (oLane l) 8) s else s

/-- Move all traffic off a link that does not carry messages any more: bypass messages, then unacknowledged messages,
then its egress queues (10 R300). A partial message received on it is discarded. -/
def moveTraffic (l : Nat) (s : State) : State :=
  let x := getLink s l
  let by_ := x.bunacked.map (fun e => (e.2.1, e.2.2)) ++ x.bwait
  let s1 := dropPartial l (List.range 4) (setLink l { x with bunacked := [], bwait := [], unacked := [], bypassParts := [], replaying := 0 } s)
  let s2 := moveFlows l s.obl.txFlows (useAlts l s1.obl.routes s1)
  let s3 := resendAll by_ s2
  let s4 := moveUnacked l (unackedMsgs x.unacked) s3
  let s5 := moveQueued l (queuedAt s4 (112 + l)) s4
  { s5 with stw := { s5.stw with npwOut := s5.stw.npwOut.filter (fun e => e.2.1 != l) } }

/-- The link leaves ACTIVE: the scans of its O-lanes stop (03 R96). -/
def linkStops (l : Nat) (s : State) : State :=
  let s1 := abortScans (List.range' (oLane l) 8) s
  setLink l { getLink s1 l with txAsleep := false, rxAsleep := false } s1

/-- A link goes DOWN: width, rate and the drain end with it. -/
def linkDown (l : Nat) (s : State) : State :=
  let s1 := relabelLink l (settleLanes (List.range' (oLane l) 8) (setLinkRun l .down (linkStops l s)))
  dropLine 24 (unitCode 6 l) (setLink l { getLink s1 l with width := 0, rate := 0, forerunner := false, draining := false,
                                                            failedRetrains := 0, expiries := [], crcRun := 0 } s1)

/-- The link carried messages. -/
def linkLive (x : Link) : Bool := x.state == .active || x.state == .retrain || x.state == .init

/-- A link is broken: DOWN, BROKEN set, OBL_FAILOVER raised until its traffic has moved (10 R299, R300). -/
def breakLink (l cause : Nat) (s : State) : State :=
  let x := getLink s l
  let s1 := linkDown l (setLink l { x with broken := true, heldCause := cause, failovers := sat64 x.failovers } s)
  let s2 := if x.broken then s1 else linkEvent l s1
  dropLine 25 (unitCode 6 l) (updateReach (moveTraffic l (assertLine 25 (unitCode 6 l) none none s2)))

/-- A link leaves service: broken if it carried messages, else it only goes DOWN (10 R291, R299). -/
def linkOut (l cause : Nat) (s : State) : State :=
  if linkLive (getLink s l) then breakLink l cause s
  else setLink l { getLink (linkDown l s) l with heldCause := cause } (linkDown l s)

/-- A draining link holds nothing any more: it goes DOWN without being broken (10 R274). -/
def drainCheck (l : Nat) (s : State) : State :=
  let x := getLink s l
  if x.draining && x.unacked.isEmpty && x.bunacked.isEmpty && linkLive x then updateReach (moveTraffic l (linkDown l s)) else s

def execLinkDrainTimeout (l : Nat) (s : State) : Out :=
  inUnit "link" l Config.links (.next (if (getLink s l).draining then breakLink l 0 s else s))

/-! ## Retrain (10 R291, R297, R298) -/

/-- Lane `i` of a half that is retired. -/
def halfBad (s : State) (l : Nat) (high : Bool) : Bool := (halfLanes l 4 high).any (fun n => (getLane s n).retired)

/-- The width and half that the lanes in service allow (10 R291). -/
def linkShape (s : State) (l : Nat) : Nat × Bool :=
  if !(halfBad s l false) && !(halfBad s l true) then (8, false) else (4, halfBad s l false)

/-- The link's retrain begins (10 R291, R297). -/
def startRetrain (l : Nat) (s : State) : State :=
  let x := getLink s l
  let w := linkShape s l
  let s1 := setLink l { x with retrains := sat64 x.retrains, expiries := [], crcRun := 0, widthNext := w.1, highNext := w.2 }
    (linkStops l s)
  assertLine 24 (unitCode 6 l) none none (setLinkRun l .retrain s1)

/-- A trigger of R297: with a bypass message at the head of transmit and a receiver that has accepted a good flit within
1 µs, that message goes first, and the deferral counts (10 R298). -/
def retrainTrigger (l : Nat) (s : State) : State :=
  let x := getLink s l
  if x.state ≠ .active then s
  else if !x.bwait.isEmpty && decide (sinceNs s.time.localNs x.lastGood ≤ 1000) then
    startRetrain l (flushBypass l 1 (setLink l { x with defers := sat64 x.defers } s))
  else startRetrain l s

/-! ## Receiving (10 R277-R288) -/

/-- R285's rule for a CREDIT value. -/
def creditRule (granted credit : Nat) : Nat :=
  let d := (credit + 2 ^ 24 - granted) % 2 ^ 24
  if d ≠ 0 && decide (d ≤ 0x800000) then credit else granted

/-- An ACK within the unacknowledged range frees the flits it covers (10 R280). -/
def ackFlits (ack : Nat) (x : Link) : Link :=
  match x.unacked.findIdx? (fun f => f.seq == ack) with
  | some i => { x with unacked := x.unacked.drop (i + 1), txAcked := ack, replaying := x.replaying - (i + 1) }
  | none => x

/-- A BACK within the unacknowledged range (10 R288). -/
def ackBypass (back : Nat) (x : Link) : Link :=
  let n := bypassOut x
  let d := (back + 256 - x.btxAcked) % 256
  if d = 0 || n < d then x
  else
    { x with btxAcked := back
             bunacked := x.bunacked.filter (fun e => decide (d < (e.1 + 256 - x.btxAcked) % 256)) }

/-- What replay was for has arrived: OBL_REPLAY's line drops (15 R394). -/
def replayDone (l : Nat) (was : Nat) (s : State) : State :=
  if 0 < was && (getLink s l).replaying = 0 && (getLink s l).state = .active then dropLine 24 (unitCode 6 l) s else s

/-- ACK, BACK, CREDIT and CONG of a header that passed CRC (10 R279, R285). -/
def applyHdr (l : Nat) (h : FlitHdr) (s : State) : State :=
  let x := getLink s l
  let c := getCredit x (h.cvc % 4)
  let c1 := { c with granted := creditRule c.granted (h.credit % 2 ^ 24), congAt := if h.cong then some s.time.localNs else c.congAt }
  let x1 := setCredit (h.cvc % 4) c1 (ackBypass (h.back % 256) (ackFlits (h.ack % 4096) x))
  let s1 := setLink l { x1 with crcRun := 0, lastGood := s.time.localNs, rxAsleep := false } s
  let s2 := if x.rxAsleep then pauseScans false (linkLanes s1 l) s1 else s1
  refresh (112 + l) (drainCheck l (replayDone l x.replaying (flushWaiting l s2)))

/-- A flit or micro-flit that fails CRC; the eighth flit in a row starts a retrain (10 R279, R290, R297). -/
def badFlit (l : Nat) (run : Bool) (s : State) : State :=
  let x := getLink s l
  let s1 := setLink l { x with crcErr := sat64 x.crcErr, crcRun := if run then x.crcRun + 1 else x.crcRun } s
  if run && decide (8 ≤ x.crcRun + 1) then retrainTrigger l s1 else s1

/-- A received message is put in its cells, to wait for its flow (10 R301). -/
def holdMsg (l : Nat) (m : Msg) (s : State) : State :=
  noteFences { s with obl := { s.obl with heldMsgs := s.obl.heldMsgs ++ [⟨l, false, m⟩] } }

/-- Relay a whole message toward its destination (10 R302, R304). A switch that drains for a warm reset takes no new message for
its links: it keeps the message in its cells (01 R469; 10 R311). -/
def relayMsg (l : Nat) (m : Msg) (s : State) : State :=
  if warmDrains s then holdMsg l m s
  else match linkToward s m.destSwitch with
    | some o => queueMessage (112 + l) o (min m.tc 15) m (shareCells true (112 + l) m.vc (msgCells m) s)
    | none => endMessage false m (noteUnreachable (getRouteEnt s m.destSwitch).primary m.destSwitch (freeCells l m s))

/-- A message is a duplicate: behind its flow's number, or another copy of one that waits (10 R301). -/
def isDup (s : State) (m : Msg) : Bool :=
  (!(flagOf m 4) && flowBehind m.fseq (expected s m.srcSwitch m.srcIngress m.vc)) || s.obl.heldMsgs.any (fun h => sameMsg h.msg m)

/-- A whole message has been received into cells of its link's reserve, which return to the credit where it is discarded or ended
(10 R282, R283, R301, R304; 11 R313, R317). -/
def arrive (l : Nat) (m : Msg) (s : State) : State :=
  if 9 < m.mkind then
    endMessage true m (freeCells l m { s with stw := { s.stw with badMkind := sat64 s.stw.badMkind } })
  else if m.destSwitch ≠ s.glb.switchId then relayMsg l m s
  else if isDup s m then freeCells l m { s with obl := { s.obl with dup := sat64 s.obl.dup } }
  else holdMsg l m s

/-- A completion that returns over link `l` ends the count of R320's cells. -/
def completionBack (m : Msg) (s : State) : State :=
  match m.body with
  | .rsp _ _ _ => npwDone m.tag m.destSwitch s
  | .grant _ _ _ _ => npwDone m.tag m.destSwitch s
  | _ => s

/-- The units of a message (10 R278): its header units, and its data units. -/
def msgUnits (m : Msg) : Nat := hdrUnits m.mkind + m.dataUnits

/-- Units of one message that a flit brings on a channel: they are written into cells of the link's reserve, and the message
arrives once all its units have been accepted (10 R278, R282, R283). -/
def takePart (l v : Nat) (p : FlitPart) (s : State) : State :=
  let x := getLink s l
  let old := tget 0 x.partUnits v
  let n := old + p.units
  let free := shareCells true (112 + l) v (partCells old) s
  let put := fun (k : Nat) (s : State) => setLink l { getLink s l with partUnits := tput 0 (getLink s l).partUnits v k } s
  match (if p.whole.any (fun m => decide (msgUnits m = n)) then p.whole else none) with
  | some m =>
    let m1 := { m with vc := v }
    arrive l m1 (completionBack m1 (shareCells false (112 + l) v (msgCells m1) (put 0 free)))
  | none => put n (shareCells false (112 + l) v (partCells n) free)

/-- The parts of a flit's payload, in order: at most seven units. A message of kind 0 is none: it marks the rest as padding (10
R278; 11 R313). -/
def takeUnits (l v : Nat) : Nat → List FlitPart → State → State
  | _, [], s => s
  | left, p :: ps, s =>
    if left < p.units || p.units = 0 || p.whole.any (fun m => m.mkind == 0) then s
    else takeUnits l v (left - p.units) ps (takePart l v p s)

/-- The symbols that FEC corrects in one flit: at most one in each of its three codewords (10 R276). -/
def fecMost : Nat := 3

/-- A PAYLOAD flit (10 R276, R279). -/
def payloadFlit (l : Nat) (h : FlitHdr) (crcOk : Bool) (fec : Nat) (p : List FlitPart) (s : State) : State :=
  if (getLink s l).state ≠ .active then s
  else
    let s0 := setLink l { getLink s l with fecCorr := satAdd 64 (getLink s l).fecCorr (min fec fecMost) } s
    if !crcOk then badFlit l true s0
    else
      let s1 := applyHdr l h s0
      let x := getLink s1 l
      if x.state = .active && h.seq % 4096 = x.rxExpect then
        takeUnits l (h.vc % 4) 7 p (setLink l { x with rxExpect := (x.rxExpect + 1) % 4096, flitsRx := sat64 x.flitsRx } s1)
      else s1

def execPayloadFlit (l : Nat) (h : FlitHdr) (crcOk : Bool) (fecCorrected : Nat) (part : List FlitPart) (s : State) : Out :=
  inUnit "link" l Config.links (.next (payloadFlit l h crcOk fecCorrected part s))

/-- An IDLE flit (10 R277). -/
def idleFlit (l : Nat) (h : FlitHdr) (crcOk : Bool) (s : State) : State :=
  if (getLink s l).state ≠ .active then s else if crcOk then applyHdr l h s else badFlit l true s

def execIdleFlit (l : Nat) (h : FlitHdr) (crcOk : Bool) (s : State) : Out :=
  inUnit "link" l Config.links (.next (idleFlit l h crcOk s))

/-- The parts of a bypass message as they are relayed, oldest first. -/
def relayParts (parts : List MicroFlit) : List (List Word) := parts.map (·.content)

/-- An accepted micro-flit: the message is whole at its last part; one for another switch is relayed, and one for this
switch takes effect by the row of its kind (10 R288, R290). -/
def takeMicro (l : Nat) (mf : MicroFlit) (s : State) : State :=
  let x := getLink s l
  let parts := if mf.part = 0 then [mf] else x.bypassParts ++ [mf]
  let s1 := setLink l { x with brxExpect := (x.brxExpect + 1) % 256, bypassParts := if mf.last then [] else parts } s
  if mf.last && mf.dest != s.glb.switchId then sendBypass mf.dest (.relayed mf.mtype mf.src (relayParts parts)) s1 else s1

/-- A bypass micro-flit (10 R288, R290). -/
def microFlit (l : Nat) (mf : MicroFlit) (crcOk : Bool) (s : State) : State :=
  if (getLink s l).state ≠ .active then s
  else if !crcOk || mf.mtype = 0 || 9 < mf.mtype then badFlit l false s
  else
    let x := getLink s l
    let s1 := drainCheck l (flushWaiting l (setLink l { ackBypass (mf.back % 256) x with rxAsleep := false } s))
    if (getLink s1 l).state = .active && mf.bseq % 256 = x.brxExpect then takeMicro l mf s1 else s1

def execMicroFlit (l : Nat) (mf : MicroFlit) (crcOk : Bool) (s : State) : Out :=
  inUnit "link" l Config.links (inUnit "switch" mf.dest 32 (.next (microFlit l mf crcOk s)))

/-- The GAP that takes the place of a message (11 R318). One for a message that carried FLOW_RESTART restarts the flow at
the number after it (log entry 129). -/
def gapOf (m : Msg) : Msg :=
  { m with mkind := 9, flags := m.flags &&& 0x10#8, fseq := if flagOf m 4 then (m.fseq + 1) % 65536 else m.fseq
           pfence := 0, dataUnits := 0, body := .gap }

/-- The GAP that restarts a flow of this switch at its next number (11 R318). -/
def restartGap (m : Msg) (s : State) : Msg :=
  { gapOf m with flags := 0x10#8, fseq := (getFlow s (flowKey m.destSwitch m.srcIngress m.vc)).nextFseq }

def sameFlow (a b : Msg) : Bool :=
  a.srcSwitch == b.srcSwitch && a.srcIngress == b.srcIngress && a.destSwitch == b.destSwitch && a.vc == b.vc

/-- One message of each flow. -/
def perFlow : List (Nat × Msg) → List (Nat × Msg)
  | [] => []
  | (q, m) :: rest => if rest.any (fun e => sameFlow e.2 m) then perFlow rest else (q, m) :: perFlow rest

def endMessages : List (Nat × Msg) → State → State
  | [], s => s
  | (_, m) :: rest, s => endMessages rest (endMessage false m s)

/-- The word of message `m` in the replay buffer is lost: the message ends, and its GAP stands in its place (11 R318). -/
def gapMessage (l : Nat) (m : Msg) (s : State) : State :=
  let x := getLink s l
  let f := fun (g : ReplayFlit) => match g.msg with
    | some n => if sameMsg m n then { g with msg := some (gapOf m) } else g
    | none => g
  endMessage false m (setLink l { x with unacked := x.unacked.map f } s)

/-- The flow record's word is lost too: every unacknowledged message that this switch numbered ends, and a GAP restarts
each of their flows. A relayed message of the lost word ends without a GAP (11 R318; log entry 129). -/
def restartFlows (l : Nat) (m : Msg) (s : State) : State :=
  let x := getLink s l
  let mine := (unackedMsgs x.unacked).filter (fun e => e.2.srcSwitch == s.glb.switchId || sameMsg e.2 m)
  let gaps := (perFlow (mine.filter (fun e => e.2.srcSwitch == s.glb.switchId))).map (fun e =>
    (⟨x.txNext, e.2.vc, e.1, some (restartGap e.2 s)⟩ : ReplayFlit))
  let keep := x.unacked.filter (fun g => match g.msg with
    | some n => !(mine.any (fun e => sameMsg e.2 n))
    | none => false)
  endMessages mine (setLink l { x with unacked := gaps ++ keep } s)

/-- An uncorrectable word of the replay buffer breaks the link (11 R318; 15 R394). -/
def replayLost (l : Nat) (m : Option Msg) (record : Ecc) (s : State) : State :=
  let s1 := pulse 14 (unitCode 6 l) none none s
  breakLink l 0 (match m with
    | some m => if record == .uncorrectable then restartFlows l m s1 else gapMessage l m s1
    | none => s1)

/-- The flits are read from the replay buffer and sent again (10 R281; 15 R394). -/
def replayFlits (l : Nat) (hw : ReplayHw) (s : State) : State :=
  let x := getLink s l
  let send := fun (s : State) => sendFlits l x.unacked (resendBypass x.bunacked s)
  match x.unacked[hw.flit]? with
  | none => send s
  | some g =>
    match hw.ecc with
    | .ok => send s
    | .corrected => send (pulse 12 (unitCode 6 l) none none s)
    | .uncorrectable => replayLost l g.msg hw.record s

/-- The replay timer (10 R281, R297). -/
def replayTimer (l : Nat) (hw : ReplayHw) (s : State) : State :=
  let x := getLink s l
  if x.state ≠ .active || (x.unacked.isEmpty && x.bunacked.isEmpty) then s
  else
    let now := s.time.localNs
    let recent := x.expiries.filter (fun t => decide (sinceNs now t < 1000000)) ++ [now]
    let s1 := assertLine 24 (unitCode 6 l) none none
      (setLink l { x with replays := sat64 x.replays, expiries := recent, replaying := x.unacked.length } s)
    if x.cfg.retrainReplays ≤ recent.length then retrainTrigger l s1
    else replayFlits l hw s1

def execReplayTimer (l : Nat) (hw : ReplayHw) (s : State) : Out :=
  inUnit "link" l Config.links (.next (replayTimer l hw s))

/-- An in-use O-lane loses comma lock (10 R292, R297). -/
def commaLost (lane : Nat) (s : State) : State :=
  let l := linkOfLane lane
  if 448 ≤ lane && (getLink s l).state = .active && (linkLanes s l).contains lane then
    retrainTrigger l (setLane lane { getLane s lane with symbolLock := false } s)
  else s

def execCommaLockLost (lane : Nat) (s : State) : Out := inUnit "lane" lane Config.lanes (.next (commaLost lane s))

/-! ## Training (10 R291-R296) -/

/-- What this switch's INIT says (10 R290). -/
def initOf (l : Nat) (fresh : Bool) (s : State) : InitInfo :=
  let x := getLink s l
  ⟨if fresh then 0 else x.rxExpect, if fresh then 0 else x.brxExpect, fresh, s.glb.switchId, s.glb.mgrSel, true, l,
    if fresh then x.limitsNext else [x.vc0.adv, x.vc1.adv, x.vc2.adv, x.vc3.adv], s.cmd.ownEpoch⟩

/-- Ports and links other than PB0's train from bring-up phase 7 on (01 R39). -/
def linksBegun (s : State) : Bool :=
  !s.glb.inReset && (match s.glb.bringUp with
    | .phase n => decide (7 ≤ n)
    | .up => true
    | .failed => false)

/-- A link may train: enabled, in service, its reference present, not held down by THERMTRIP_N or by the opening of debug
(10 R291; 17 R435; 18 R444). -/
def linkCanTrain (s : State) (l : Nat) : Bool :=
  let x := getLink s l
  x.cfg.enable && !x.retired && !x.refLost && !x.held && !s.glb.thermTrip && linksBegun s

/-- A retrain restores lock and equalization, or fails (10 R291). -/
def retrainDone (l : Nat) (ok : Bool) (s : State) : State :=
  let x := getLink s l
  if x.state ≠ .retrain then s
  else if ok && !(halfBad s l x.highNext && x.widthNext = 4) then
    let s1 := setLinkRun l .init (setLink l { x with width := x.widthNext, high := x.highNext, failedRetrains := 0 } s)
    emit (.bypass x.peerSwitch (.init (initOf l false s1))) s1
  else
    let n := x.failedRetrains + 1
    if x.cfg.retrainTries ≤ n then breakLink l 4 s else setLink l { x with failedRetrains := n } s

def execRetrainDone (l : Nat) (ok : Bool) (s : State) : Out := inUnit "link" l Config.links (.next (retrainDone l ok s))

/-- One stage of full training (10 R291). -/
def trainStep (l : Nat) (st : TrainStep) (s : State) : State :=
  let x := getLink s l
  if !(linkCanTrain s l) then s
  else match st, x.state with
    | .lanesReady, .down => setLinkRun l .detect (setLink l { x with heldCause := 0 } s)
    | .signal, .detect => setLinkRun l .align s
    | .aligned w high rev inv, .align =>
      let full := linkShape s l
      let w1 := if w = 8 && full.1 = 8 then 8 else 4
      let h1 := if w1 = 8 then false else if full.1 = 8 then high else full.2
      if halfBad s l h1 then s
      else setLinkRun l .equalize (setLink l { x with width := w1, high := h1, cfgSince := false }
        (labelLanes (oLane l) 8 rev inv (List.range' (oLane l) 8) s))
    | .equalized, .equalize =>
      let s1 := setLinkRun l .identify (setLink l { x with rate := if x.cfg.force56 then 8 else 9, forerunner := x.cfg.force56 } s)
      emit (.bypass 32 (.init (initOf l true s1))) s1
    | .fail, .detect => linkDown l s
    | .fail, .align => linkDown l s
    | .fail, .equalize => linkDown l s
    | .fail, .identify => linkDown l s
    | _, _ => s

def execOblTrainingStep (l : Nat) (step : TrainStep) (s : State) : Out :=
  inUnit "link" l Config.links (.next (trainStep l step s))

/-- The cause that holds the link in IDENTIFY (10 R293), 0 for none. -/
def holdCause (s : State) (i : InitInfo) : Nat :=
  if i.switchId % 32 = s.glb.switchId then 1 else if i.mgrSel && s.glb.mgrSel then 2 else 0

/-- NPW_MAX within 64 to LIMIT3 − 64 (11 R330). -/
def npwClamp (limit3 n : Nat) : Nat := clampNat n 64 (max 64 (limit3 - 64))

/-- Counters after full training (10 R285, R294). -/
def freshCounters (i : InitInfo) (x : Link) : Link :=
  let c := fun (v : Nat) => (⟨i.adv.getD v 0 % 2 ^ 24, 0, none, x.limitsNext.getD v 64, x.limitsNext.getD v 64⟩ : Credit)
  { x with txNext := 0, txAcked := 0xFFF, rxExpect := 0, unacked := [], btxNext := 0, btxAcked := 0xFF, brxExpect := 0,
           bunacked := [], bypassParts := [], replaying := 0, expiries := [], crcRun := 0, failedRetrains := 0,
           cvc := 0, vc0 := c 0, vc1 := c 1, vc2 := c 2, vc3 := c 3 }

/-- Counters after a retrain: replay resumes at the peer's numbers, and credit is as the peer advertises (10 R294). -/
def resumeCounters (i : InitInfo) (x : Link) : Link :=
  let g := fun (v : Nat) (y : Link) => setCredit v { getCredit y v with granted := i.adv.getD v 0 % 2 ^ 24 } y
  ackBypass ((i.brxExpect + 255) % 256) (ackFlits ((i.rxExpect + 4095) % 4096) (g 3 (g 2 (g 1 (g 0 x)))))

/-- A switch with MGR_SEL 1 whose epoch is unsettled adopts a higher epoch (10 R306). -/
def adoptEpoch (e : Nat) (s : State) : State :=
  if s.glb.mgrSel && !s.obl.epochSettled && decide (s.cmd.ownEpoch < e) then
    sendEpochs (List.range 32) (discardStaged { s with cmd := { s.cmd with ownEpoch := e } })
  else s

/-- The lanes of a link come into use (03 R102). -/
def oLanesUp (l : Nat) (s : State) : State := lanesUp (getLink s l).rate (linkLanes s l) s

/-- A link is ACTIVE: lanes, reachability, returned and retired lanes, and what waits is sent (10 R291, R294, R306). -/
def linkActive (l : Nat) (s : State) : State :=
  let s1 := updateReach (oLanesUp l (setLinkRun l .active s))
  refresh (112 + l) (settleLanes (List.range' (oLane l) 8) (flushWaiting l s1))

/-- An INIT message (10 R293, R294, R296, R306). -/
def initMsg (l : Nat) (i : InitInfo) (s : State) : State :=
  let x := getLink s l
  match x.state with
  | .identify =>
    let c := holdCause s i
    if c ≠ 0 then setLinkRun l .held (setLink l { x with heldCause := c } s)
    else
      let fr := x.cfg.force56 || !i.native
      let y := { freshCounters i x with
        peerSwitch := i.switchId % 32, peerLink := i.link % 8, peerKnown := true, heldCause := 0, broken := false
        forerunner := fr, rate := if fr then 8 else 9, lastGood := s.time.localNs }
      let s1 := setStw l { getStw s l with npwMax := npwClamp y.vc3.limit (getStw s l).npwMax } s
      let s2 := setLinkRun l .init (setLink l { y with partUnits := [] } (adoptEpoch i.epoch (dropPartial l (List.range 4) s1)))
      linkActive l s2
  | .init =>
    if i.fresh then breakLink l 0 s
    else if x.peerKnown && (x.peerSwitch != i.switchId % 32 || x.peerLink != i.link % 8) then
      let s1 := updateReach (moveTraffic l (setLinkRun l .held (setLink l { x with heldCause := 3 } (linkStops l s))))
      dropLine 24 (unitCode 6 l) s1
    else
      let y := resumeCounters i x
      let s1 := setLinkRun l .active (setLink l { y with lastGood := s.time.localNs, replaying := 0 } (adoptEpoch i.epoch s))
      let s2 := sendFlits l y.unacked (resendBypass y.bunacked s1)
      drainCheck l (dropLine 24 (unitCode 6 l) (linkActive l s2))
  | _ => s

def execInit (l : Nat) (info : InitInfo) (s : State) : Out := inUnit "link" l Config.links (.next (initMsg l info s))

/-! ## Credit timeout, flows, sleep (10 R287, R295, R303) -/

/-- A message of channel `vc` waits at the head of a queue of the link for credit (10 R287). -/
def creditWaits (s : State) (l vc : Nat) : Bool :=
  (queuedAt s (112 + l)).any (fun t => txnVc t == vc && decide (avail (getCredit (getLink s l) vc) < t.cells))

/-- CONG = 1 was received in the last 10 µs (10 R287, R312). -/
def congSeen (now : Nat) (c : Credit) : Bool :=
  match c.congAt with
  | some t => decide (sinceNs now t ≤ 10000)
  | none => false

/-- The credit timeout fires (10 R287). -/
def creditTimeout (l vc : Nat) (s : State) : State :=
  let x := getLink s l
  if x.state = .active && creditWaits s l vc && !(congSeen s.time.localNs (getCredit x vc)) then
    breakLink l 5 (setLink l { x with creditTo := sat64 x.creditTo } s)
  else s

def execCreditTimeout (l vc : Nat) (s : State) : Out :=
  inUnit "link" l Config.links (inUnit "channel" vc 4 (.next (creditTimeout l vc s)))

/-- A message of the flow is queued here or unacknowledged (10 R303). -/
def flowBusy (s : State) (dest ingress vc : Nat) : Bool :=
  let mine := fun (m : Msg) => m.srcSwitch == s.glb.switchId && m.destSwitch == dest && m.srcIngress == ingress && m.vc == vc
  (List.range 8).any (fun l =>
    (queuedAt s (112 + l)).any (fun t => (t.dest.map (·.1)) == some dest && t.srcSwitch == s.glb.switchId
        && t.srcIngress == ingress && txnVc t == vc)
      || (getLink s l).unacked.any (fun f => match f.msg with | some m => mine m | none => false))

/-- Some flow toward the switch is on its alternate link. -/
def altUsed (s : State) (dest : Nat) : Bool :=
  s.obl.txFlows.any (fun e => decide (e.1 / 1024 = dest) && (match e.2.link with
    | some l => (getRouteEnt s dest).alt == 112 + l && (getRouteEnt s dest).primary != 112 + l
    | none => false))

/-- A flow reaches quiescence: its next message takes the link that its entry names (10 R303). -/
def flowQuiet (dest ingress vc : Nat) (s : State) : State :=
  if flowBusy s dest ingress vc then s
  else
    let k := flowKey dest ingress vc
    let s1 := setFlow k { getFlow s k with link := none } s
    let r := getRouteEnt s1 dest
    if r.usingAlt && !(altUsed s1 dest) && linkOk s1 r.primary then setRouteEnt dest { r with usingAlt := false } s1 else s1

def execFlowQuiescence (dest ingress vc : Nat) (s : State) : Out :=
  inUnit "switch" dest 32 (inUnit "ingress" ingress Config.egresses (inUnit "channel" vc 4 (.next (flowQuiet dest ingress vc s))))

/-- A direction may sleep (10 R286, R295). -/
def canSleep (s : State) (l : Nat) : Bool :=
  let x := getLink s l
  x.state == .active && x.cfg.sleepEn && !x.txAsleep && !x.draining && (queuedAt s (112 + l)).isEmpty && x.unacked.isEmpty
    && x.bunacked.isEmpty && x.bwait.isEmpty && !((List.range 4).any (sendsCong s l))

/-- A direction enters sleep; in forerunner mode both do (10 R295, R296). -/
def sleepEntry (l : Nat) (s : State) : State :=
  if !(canSleep s l) then s
  else
    let s1 := bypassOn l (getLink s l).peerSwitch (.sleep l) s
    let x := getLink s1 l
    let s2 := setLink l { x with txAsleep := true, rxAsleep := x.rxAsleep || x.forerunner, sleeps := sat64 x.sleeps } s1
    if x.forerunner then pauseScans true (linkLanes s2 l) s2 else s2

def execSleepEntry (l : Nat) (s : State) : Out := inUnit "link" l Config.links (.next (sleepEntry l s))

/-- SLEEP arrives: the peer's direction sleeps (10 R290, R296). -/
def sleepMsg (l : Nat) (s : State) : State :=
  let x := getLink s l
  if x.state ≠ .active then s
  else pauseScans true (linkLanes s l) (setLink l { x with rxAsleep := true, txAsleep := x.txAsleep || x.forerunner } s)

def execSleep (l : Nat) (s : State) : Out := inUnit "link" l Config.links (.next (sleepMsg l s))

/-- A sleeping direction wakes and resumes (10 R295, R296). -/
def wakeDirection (l : Nat) (s : State) : State :=
  let x := getLink s l
  if x.state = .active && x.txAsleep then
    let s1 := setLink l { x with txAsleep := false, rxAsleep := x.rxAsleep && !x.forerunner } s
    let s2 := if x.forerunner then pauseScans false (linkLanes s1 l) s1 else s1
    refresh (112 + l) (flushWaiting l s2)
  else s

def execDirectionWake (l : Nat) (s : State) : Out := inUnit "link" l Config.links (.next (wakeDirection l s))

/-! ## Heartbeats (10 R309) -/

/-- The manager switch sends HEARTBEAT to every worker that it reaches. -/
def beatAll : List Nat → State → State
  | [], s => s
  | w :: ws, s =>
    beatAll ws (if w != s.glb.switchId && s.obl.reach.getLsbD w then sendBypass w (.heartbeat s.cmd.ownEpoch s.obl.hbCount) s else s)

def execHeartbeatSend (s : State) : Out :=
  .next (if isManager s then
    beatAll (List.range 32) { s with obl := { s.obl with hbCount := (s.obl.hbCount + 1) % 2 ^ 32 } } else s)

/-- A HEARTBEAT reaches a worker: MGR_LOST clears (10 R309). -/
def execHeartbeat (_e : Word) (_count : Nat) (s : State) : Out :=
  .next (if s.glb.mgrSel then s else dropLine 27 (unitCode 0 0) { s with obl := { s.obl with mgrLost := false } })

/-- No HEARTBEAT for MGR_LOSS_MS (10 R309). -/
def execMgrLost (s : State) : Out :=
  .next (if s.glb.mgrSel then s else assertLine 27 (unitCode 0 0) none none { s with obl := { s.obl with mgrLost := true } })

/-! ## OBL_CONFIG (10 R273-R275) -/

/-- Lower a limit by at most `excess`, no lower than 64; what is left excess. -/
def lowerBy (excess v : Nat) : Nat × Nat := (v - min excess (v - 64), excess - min excess (v - 64))

/-- LIMITv as used: clamped, then lowered in the order 3, 0, 1, 2 until the sum is 8,192 (10 R274). -/
def limitsOf (w : Word) : List Nat :=
  let c := fun (v : Nat) => used w (16 * v + 15) (16 * v) 64 8192
  let a3 := lowerBy (c 0 + c 1 + c 2 + c 3 - 8192) (c 3)
  let a0 := lowerBy a3.2 (c 0)
  let a1 := lowerBy a0.2 (c 1)
  let a2 := lowerBy a1.2 (c 2)
  [a0.1, a1.1, a2.1, a3.1]

/-- The clamps of ARG1. -/
def limitClamps (w : Word) : List FieldClamp :=
  (List.range 4).filterMap (fun v =>
    if (limitsOf w).getD v 0 = fld w (16 * v + 15) (16 * v) then none
    else some ⟨40, false, 0, 16 * v + 15, 16 * v, fld w (16 * v + 15) (16 * v), (limitsOf w).getD v 0⟩)

def linkFields : List FieldSpec :=
  [(0, 15, 8, 1, 255), (0, 25, 16, 10, 640), (0, 45, 32, 10, 10000), (0, 55, 48, 1, 255), (0, 59, 56, 1, 15)]

/-- ENABLE written from 1 to 0: the link takes no new messages, its queued traffic fails over, and it drains; one that
carries nothing goes down at once (10 R274). -/
def startDrain (l : Nat) (s : State) : State :=
  if linkLive (getLink s l) then
    let s1 := setLink l { getLink s l with draining := true } s
    let s2 := moveQueued l (queuedAt s1 (112 + l)) (useAlts l s1.obl.routes s1)
    drainCheck l (updateReach s2)
  else linkDown l s

/-- OBL_CONFIG on a link (10 R274; 03 R89, R102). -/
def linkCfgBody (c : SeqCmd) (s : State) : CmdOut :=
  let d := c.desc
  let l := objIndex d.objectId % 8
  let x := getLink s l
  let cfg : LinkCfg := ⟨bit d.arg0 0, bit d.arg0 1, bit d.arg0 2, used d.arg0 15 8 1 255, used d.arg0 25 16 10 640,
    used d.arg0 45 32 10 10000, used d.arg0 55 48 1 255, used d.arg0 59 56 1 15⟩
  let s1 := setLink l { x with cfg := cfg, limitsNext := limitsOf d.arg1, draining := x.draining && !cfg.enable, held := x.held && !cfg.enable
                               cfgSince := true } s
  let s2 := if x.cfg.enable && !cfg.enable then startDrain l s1
    else if !x.cfg.enable && cfg.enable then endTests (List.range' (oLane l) 8) s1 else s1
  .done 0 (argClamps d linkFields ++ limitClamps d.arg1) (if linkLive (getLink s2 l) then s2 else relabelLink l s2)

def kindIs (k : Nat) (d : Desc) : Bool := objIndex d.objectId / 2 ^ 48 == k

/-- KIND 0 and every KIND that names no other object of OBL_CONFIG: BAD_OBJECT comes from here (10 R273; 02 R71). -/
def linkCfgSel (d : Desc) : Bool := !(kindIs 1 d) && !(kindIs 2 d)

def execOblConfigLink (seq : Nat) (s : State) : Out := .next (runOp 0x7005 linkCfgSel true linkCfgBody seq s)

/-- A link egress as used: 112-119, or 0xFF for none (10 R275). -/
def routeEgress (n : Nat) : Nat := if n = 0xFF then 0xFF else clampNat n 112 119

/-- OBL_CONFIG on a route entry (10 R275). -/
def routeCfgBody (c : SeqCmd) (s : State) : CmdOut :=
  let d := c.desc
  let w := objIndex d.objectId % 32
  let p := fld d.arg0 7 0
  let a := fld d.arg0 15 8
  if w = s.glb.switchId then .fail PRECONDITION s
  else
    let r := getRouteEnt s w
    let s1 := setRouteEnt w { r with primary := routeEgress p, alt := routeEgress a } s
    let s2 := setRouteEnt w { getRouteEnt s1 w with usingAlt := altUsed s1 w } s1
    .done 0 ((if routeEgress p = p then [] else [(⟨32, false, 0, 7, 0, p, routeEgress p⟩ : FieldClamp)])
        ++ (if routeEgress a = a then [] else [(⟨32, false, 0, 15, 8, a, routeEgress a⟩ : FieldClamp)])) (updateReach s2)

def execOblConfigRoute (seq : Nat) (s : State) : Out := .next (runOp 0x7005 (kindIs 1) true routeCfgBody seq s)

/-- OBL_CONFIG on the fabric parameters, applied on every switch (10 R275, R308). -/
def fabricCfgLocal (c : SeqCmd) (s : State) : CmdOut :=
  let d := c.desc
  .done 0 (argClamps d [(0, 15, 0, 10, 10000), (0, 31, 16, 1, 1000)])
    { s with obl := { s.obl with heartbeatUs := used d.arg0 15 0 10 10000, mgrLossMs := used d.arg0 31 16 1 1000,
                                 standbySwitch := fld d.arg0 36 32, standbyEn := bit d.arg0 40 } }

def execOblConfigFabric (seq : Nat) (answers : List SwitchAnswer) (s : State) : Out :=
  .next (runOp 0x7005 (kindIs 2) true (fun c s => fabricRun answers c s (fabricCfgLocal c s)) seq s)

/-! ## Reference clocks (03 R88) -/

/-- Mark the ports of the blocks listed. -/
def refPorts (lost : Bool) : List Nat → State → State
  | [], s => s
  | p :: ps, s =>
    let s1 := if lost then portFails p s else s
    refPorts lost ps (setPort p { getPort s1 p with refLost := lost } s1)

def refLinks (lost : Bool) : List Nat → State → State
  | [], s => s
  | l :: ls, s =>
    let s1 := setLink l { getLink s l with refLost := lost } s
    refLinks lost ls (if lost then linkOut l 0 s1 else s1)

/-- The ports and links of a quadrant (00 R15; 03 R88). -/
def quadPorts (q : Nat) : List Nat := (List.range 28).filter (fun b => blockQuadrant b == q) |>.flatMap (fun b => List.range' (4 * b) 4)
def quadLinks (q : Nat) : List Nat := (List.range 8).filter (fun l => linkQuadrant l == q)

/-- A quadrant's reference is lost: its ports and links go down (03 R88; 15 R394). -/
def refLost (q : Nat) (s : State) : State :=
  let s0 := { s with port := { s.port with refLost := tput false s.port.refLost q true } }
  refLinks true (quadLinks q) (refPorts true (quadPorts q) (assertLine 3 (unitCode 10 q) none none s0))

def execRefclkLost (q : Nat) (s : State) : Out := inUnit "quadrant" q 4 (.next (refLost q s))

/-- The reference returns: its ports and links may train again (03 R88). -/
def refBack (q : Nat) (s : State) : State :=
  let s0 := { s with port := { s.port with refLost := tput false s.port.refLost q false } }
  dropLine 3 (unitCode 10 q) (refLinks false (quadLinks q) (refPorts false (quadPorts q) s0))

def execRefclkReturn (q : Nat) (s : State) : Out := inUnit "quadrant" q 4 (.next (refBack q s))

end Sys2Proof.Machine
end

