-- ==== Sys2Proof/Machine/Stairwell.lean ====
section
/-! DEFINITION. Leaving the Great Hall, by a port or as an Obmulum message, and the release of messages at their
destination (04 R108, R112; 09 R253; 10 R277-R285; 11 R313-R330). -/

namespace Sys2Proof.Machine

/-! ## Messages (11 R313, R315, R319) -/

/-- A message that carries a fence: MKIND 1 on REQ or RSP, and MKIND 6-8 (11 R319). -/
def wantsFence (mkind vc : Nat) : Bool := (mkind == 1 && decide (vc ≤ 1)) || (decide (6 ≤ mkind) && decide (mkind ≤ 8))

def bodyLocked : Body → Bool
  | .req r _ => r.locked
  | _ => false

def bodyResync : Body → Bool
  | .signal r _ => r
  | _ => false

/-- TC of a message: its request's, else its queue's number. -/
def bodyTc (q : Nat) : Body → Nat
  | .req r _ => r.tc % 16
  | _ => q

/-- The message of a transaction that this switch numbers, and the flow after it (11 R313, R315, R319). -/
def numberMsg (t : Txn) (b : Body) (l : Nat) (s : State) : Msg × State :=
  let d := t.dest.getD (0, 0)
  let vc := bodyVc b
  let k := flowKey d.1 t.srcIngress vc
  let f := getFlow s k
  let fence := if wantsFence (bodyMkind b) vc then (getFlow s (flowKey d.1 t.srcIngress 3)).lastPosted else none
  let flags := b2n fence.isSome + 2 * b2n (bodyLocked b) + 4 * b2n (bodyPoison b) + 8 * b2n (decide (2 ≤ t.cells))
    + 16 * b2n f.restart + 32 * b2n (bodyResync b)
  let notice := if bodyMkind b = 5 then takeFree s else (0, s)
  let m : Msg :=
    { mkind := bodyMkind b, flags := BitVec.ofNat 8 flags, fseq := f.nextFseq, pfence := fence.getD 0, srcIngress := t.srcIngress
      srcSwitch := t.srcSwitch, dest := d.2, tc := bodyTc t.queue b, destSwitch := d.1, dataUnits := 4 * ceilDiv (bodyBytes b) 64
      notice := notice.1.toNat % 2 ^ 32, vc := vc, posted := t.posted, tag := t.tag, body := b }
  (m, setFlow k { f with nextFseq := (f.nextFseq + 1) % 65536, restart := false, link := some l
                         lastPosted := if t.posted && vc = 3 then some f.nextFseq else f.lastPosted } notice.2)

/-- A message whose data have been found uncorrectable: poison, and its flag (04 R108; 11 R313). -/
def poisonMsg (m : Msg) : Msg := { m with body := poisoned m.body, flags := m.flags ||| 4#8 }

/-- The message that leaves: a relayed or moved one as it is, else a newly numbered one; `bad` if its data are poisoned. -/
def messageOf (t : Txn) (bad : Bool) (l : Nat) (s : State) : Msg × State :=
  match t.relay with
  | some m => (if bad then poisonMsg m else m, s)
  | none => numberMsg t (if bad then poisoned t.body else t.body) l s

/-- Flits of a message as they enter the replay buffer (10 R280). -/
def newFlits (x : Link) (q : Nat) (m : Msg) : List ReplayFlit :=
  (List.range (bodyFlits m.body)).map (fun i => ⟨(x.txNext + i) % 4096, m.vc, q, some m⟩)

/-- Send a transaction on link `l` as a message (10 R277-R285; 11 R320, R331). -/
def sendMessage (l : Nat) (t : Txn) (bad : Bool) (s : State) : State :=
  let r := messageOf t bad l s
  let m := r.1
  let x := getLink r.2 l
  let fl := newFlits x t.queue m
  let c := getCredit x m.vc
  let s1 := setLink l (setCredit m.vc { c with consumed := (c.consumed + t.cells) % 2 ^ 24 }
    { x with txNext := (x.txNext + fl.length) % 4096, unacked := x.unacked ++ fl }) r.2
  let s2 := if isNpw t then { s1 with stw := { s1.stw with npwOut := s1.stw.npwOut ++ [(m.tag * 32 + m.srcSwitch, l, t.cells)] } } else s1
  let s3 := if t.relay.isNone && decide (6 ≤ m.mkind) && decide (m.mkind ≤ 8)
    then { s2 with stw := { s2.stw with sbSent := sat64 s2.stw.sbSent } } else s2
  sendFlits l fl s3

/-! ## EGRESS_SELECT (04 R108, R112, R121; 05 R153; 09 R253, R254) -/

/-- Requests that R320 delays count once each (11 R331). -/
def countNpw (e : Nat) (s : State) : State :=
  if 112 ≤ e ∧ e < 120 then
    let l := e - 112
    let x := getStw s l
    let late := (queuedAt s e).filter (fun t => npwHeld s l t && !(x.npwDelayed.contains t.id))
    let keep := x.npwDelayed.filter (fun n => (queuedAt s e).any (fun t => t.id == n))
    setStw l { x with npwWaits := satAdd 64 x.npwWaits late.length, npwDelayed := keep ++ late.map (·.id) } s
  else s

/-- A write that is posted at its target: any write of a unit of the switch to a PCIe port (05 R150; log entry 143). -/
def unitPosted (s : State) (t : Txn) : Bool :=
  match t.body with
  | .req r _ => ownUnit t.srcIngress && (match r.kind with | .memWr _ => true | _ => false) && decide (t.egress < 112)
      && (getPort s t.egress).proto == 0
  | _ => false

/-- A posted write that has left its queue counts in flight no more; one that no completion answers has no wait left
(05 R153; 08 R242). -/
def postedSent (t : Txn) (s : State) : State :=
  if unitPosted s t then unblock (answerId 128 t.id .cmp [] s)
  else if !t.posted then s
  else
    let s1 := hostDec t.host t.mapGen t.epoch s
    let plain := match t.body with | .req _ _ => decide (112 ≤ t.egress) || (getPort s t.egress).proto == 0 | _ => false
    if plain && s1.gh.waits.any (fun w => w.id == t.id && w.kind == .pcieWr) then unblock (answerId 128 t.id .cmp [] s1) else s1

/-- The home waits for its expander's answer (06 R178). -/
def noteExpander (t : Txn) (s : State) : State :=
  if t.relay.isSome then s
  else match t.body with
    | .homeRead dla => withDir (fun d => { d with expander := d.expander ++ [(t.id, dla, false)] }) s
    | .homeWrite dla _ _ _ _ => withDir (fun d => { d with expander := d.expander ++ [(t.id, dla, true)] }) s
    | _ => s

/-- The words of the transaction's cells that are read with an error. -/
def readErrs (t : Txn) (hw : ReadHw) : List WordRead := hw.words.filter (fun w => decide (w.cell < t.cells))

/-- The errors met in its words, each in its own cell and bank (04 R104, R105, R108). -/
def readEcc (t : Txn) : List WordRead → State → State
  | [], s => s
  | w :: ws, s =>
    let a := t.addrs.getD w.cell 0
    readEcc t ws (match w.ecc with
      | .ok => s
      | .corrected => bankCorrected a s
      | .uncorrectable => bankUncorrectable a s)

/-- An uncorrectable word holds a part of the header (`hdr`), or of the data (04 R108). -/
def badWord (hdr : Bool) (t : Txn) (hw : ReadHw) : Bool := (readErrs t hw).any (fun w => w.ecc == .uncorrectable && w.inHeader == hdr)

/-- ECC of the link memory, which keeps the order of the queues (15 R394). -/
def linkEcc (hw : ReadHw) (s : State) : State :=
  match hw.link with
  | .ok => s
  | .corrected => pulse 12 (unitCode 0 0) none none s
  | .uncorrectable => pulse 14 (unitCode 0 0) none none s

/-- A transaction whose header cannot be read ends as toward a port that has gone down (04 R108). -/
def endUnread (t : Txn) (s : State) : State :=
  match t.relay with
  | some m => endMessage false m s
  | none =>
    match t.body with
    | .homeRead dla => expanderAnswer selfAcct (t.id, dla, false) .poison [] s
    | .homeWrite dla _ _ _ _ => expanderAnswer selfAcct (t.id, dla, true) .cmp [] s
    | b =>
      match endKind false t.srcIngress b with
      | some k => if t.posted then s else ownAnswer selfAcct t.tag k [] s
      | none => s

/-- A transaction leaves by an egress that is not a link: a capture record is written into its ring, an answer reaches the
movers of its group, anything else is sent (04 R133; 08 R221; 02 R468). A poisoned record is sent as a poisoned write. -/
def sendOutward (e : Nat) (t : Txn) (s : State) : State :=
  match t.body with
  | .record addr ws false => offerPf s.cap.vectorEn s.cap.vector (hostWrite ⟨.pf, .capture, addr, ws⟩ s)
  | .record _ _ true => offerPf s.cap.vectorEn s.cap.vector (emit (.tx t) s)
  | .rsp _ k data => if 120 ≤ e ∧ e < 128 then lineAnswer (e - 120) t.tag k data s else emit (.tx t) s
  | _ => emit (.tx t) s

/-- The head of queue `q` leaves egress `e`; one whose header or link word is uncorrectable ends (04 R108, R112; 09 R254;
15 R394). -/
def sendHead (e q : Nat) (t : Txn) (hw : ReadHw) (s : State) : State :=
  let s1 := postedSent t (routeDec t.gen (unlink t (readEcc t (readErrs t hw) (linkEcc hw s))))
  if badWord true t hw || hw.link == .uncorrectable then refresh e (endUnread t s1)
  else
    let bad := badWord false t hw && decide (0 < bodyBytes (txnBody t))
    let s2 := noteExpander t s1
    afterSend e q t (if 112 ≤ e ∧ e < 120 then sendMessage (e - 112) t bad s2
      else sendOutward e (if bad then { t with body := poisoned t.body } else t) s2)

/-- An awake direction of a link with nothing to send sends an IDLE flit (10 R277). -/
def sendIdle (l : Nat) (s : State) : State :=
  let x := getLink s l
  if x.state = .active && !x.txAsleep then
    let h := nextHdr l x.txNext 0 s
    emit (.flit l h.1 none) h.2
  else s

/-- An egress selects and sends (09 R253); a link that has nothing to send sends an IDLE flit (10 R277). -/
def egressSelect (e : Nat) (hw : ReadHw) (s : State) : State :=
  let s1 := countNpw e (guardCount e (List.range 16) (refresh e s))
  match (best s1 e).bind (fun q => (headOf s1 e q).map (fun t => (q, t))) with
  | none => if 112 ≤ e ∧ e < 120 then sendIdle (e - 112) s1 else s1
  | some (q, t) => sendHead e q t hw s1

def execEgressSelect (e : Nat) (hw : ReadHw) (s : State) : Out := inUnit "egress" e Config.egresses (.next (egressSelect e hw s))

/-! ## Release (10 R301; 11 R315-R318) -/

/-- The held copy of a message: one whose every unit has been accepted (10 R282). -/
def findHeld (s : State) (l : Nat) (m : Msg) : Option HeldMsg := s.obl.heldMsgs.find? (fun h => h.link == l && sameMsg h.msg m)

/-- The flag FLOW_RESTART is dealt with. -/
def clearRestart (m : Msg) : Msg := { m with flags := m.flags &&& 0xEF#8 }

/-- A message with FLOW_RESTART: the flow's other held messages end, and its number is the one expected; the current
state of the bound signals goes to its source (11 R316, R329). -/
def restartFlow (h : HeldMsg) (s : State) : State :=
  let m := h.msg
  let mine := s.obl.heldMsgs.filter (fun x => x.msg.srcSwitch == m.srcSwitch && x.msg.srcIngress == m.srcIngress
    && x.msg.vc == m.vc && !(sameMsg x.msg m))
  let s1 := setExpected m.srcSwitch m.srcIngress m.vc m.fseq (endHeld mine s)
  let held := s1.obl.heldMsgs.map (fun x => if x.link == h.link && sameMsg x.msg m then { x with msg := clearRestart x.msg } else x)
  resync m.srcSwitch { s1 with obl := { s1.obl with heldMsgs := held } }

/-- The request of a message as it goes on here (10 R304). -/
def msgRequest (l : Nat) (m : Msg) (r : Request) (addr : Nat) : Request :=
  { r with ingress := 112 + l, route := .pid m.dest, level := 1, vf := none, addr := addr, tc := m.tc, locked := flagOf m 1
           poison := flagOf m 2 || r.poison, intx := none, unlock := false, tag := m.tag, remote := some (m.srcSwitch, m.srcIngress, m.tag) }

/-- An access of another switch at this home. -/
def msgHome (l : Nat) (m : Msg) (r : HomeReq) (id : Nat) : HomeReq :=
  { r with source := 112 + l, remote := true, ecc0 := .ok, ecc1 := .ok, tag := id, posted := m.posted, poison := flagOf m 2 || r.poison }

/-- The kind of request that a home access comes from, for its answer's form. -/
def homeReqKind (pcie : Bool) (k : HomeKind) (posted : Bool) : ReqKind :=
  if posted then .pcieWr
  else if pcie then (match k with | .ncWrite => .atomic | _ => .pcieRd)
  else match k with
    | .ncWrite => .memWr .I
    | .writeback _ => .memWr .I
    | .memInv => .memInv
    | .cleanEvict => .memClnEvict
    | _ => .memRd .I

/-- A released message still waits at a full home, or behind a posted write there (06 R179, R184); a request waits while
a warm reset drains the switch (01 R469), and a message for another switch is not for this one to release. -/
def mustWait (s : State) (l : Nat) (m : Msg) : Bool :=
  match m.body with
  | .req r a => warmDrains s || parkOf s (stampNow (msgRequest l m r a) s) none == .upstream
  | .home _ r k => warmDrains s || homeHere s r && homeFull s (msgHome l m r 0) k
  | .homeRead _ => warmDrains s
  | .homeWrite _ _ _ _ _ => warmDrains s
  | _ => false

/-- The account of a link's message: its cells stay charged to its channel for what the message becomes here (10 R283; 04
R111). -/
def msgAcct (l : Nat) (m : Msg) : Acct := (112 + l, m.vc)

/-- A home access that a policer may meter here as the request that it came from (09 R263). -/
def homeRequest (l : Nat) (m : Msg) (kind : ReqKind) (r : HomeReq) : Request :=
  { ingress := 112 + l, route := .pid m.dest, level := 1, vf := none, fetch := false, kind := kind, addr := r.off, len := r.len,
    tc := m.tc, tag := m.tag, poison := r.poison, locked := false, remote := some (m.srcSwitch, m.srcIngress, m.tag), intx := none,
    unlock := false, data := r.data, hdr := [] }

/-- A released request over a home's line: it waits here for the home's answer, and may be held by a policer before (06 R170; 09
R263). -/
def deliverHome (l : Nat) (m : Msg) (pcie : Bool) (r : HomeReq) (k : HomeKind) (s : State) : State :=
  if !(homeHere s r) then endMessage false m (freeCells l m s)
  else
    let id := s.gh.nextTxn
    let kind := homeReqKind pcie k m.posted
    let q := min m.tc 15
    let hr := msgHome l m r id
    let w : Wait :=
      { id := id, parent := id, ingress := 112 + l, queue := q, target := 128, gen := 0, host := none, mapGen := 0
        epoch := 0, kind := kind, done := none, line := none, shadow := false, domain := true, cells := 0, shared := false
        rtag := m.tag, dla := none, vf := none, remote := some (m.srcSwitch, m.srcIngress, m.tag), far := none }
    let t : Txn := { newTxn s (112 + l) 128 q (bodyBytes m.body) m.vc s.gh.route.stamping m.posted (.home pcie hr k) with
      srcSwitch := m.srcSwitch, srcIngress := m.srcIngress }
    admitRequest (homeRequest l m kind hr) t (nextId (addWait w (shareCells true (112 + l) m.vc (msgCells m) s))).2

/-- A home of another switch reads or writes an expander here (06 R170): the HDM-H device that its range names, or the access
ends as toward a port that is down (06 R164). -/
def deliverExpander (l : Nat) (m : Msg) (dla : Nat) (write poison : Bool) (off len : Nat) (data : List Word) (s : State) : State :=
  match rangeTarget (getDomain s (dlaDomain dla)).ranges (dlaOffset dla), expanderEgress s dla with
  | some (sw, did, base), some _ =>
    if sw ≠ s.glb.switchId then endMessage false m (freeCells l m s)
    else
      let r : Request :=
        { ingress := 112 + l, route := .pid did, level := 1, vf := none, fetch := false, kind := if write then .memWr .I else .memRd .I
          addr := base + off, len := len, tc := m.tc, tag := m.tag, poison := poison, locked := false
          remote := some (m.srcSwitch, m.srcIngress, m.tag), intx := none, unlock := false, data := data, hdr := [] }
      sendPiece (stampNow r s) false ⟨⟨base + off, len, data⟩, did, none, base + off, none, none, false⟩
        (shareCells true (112 + l) m.vc (msgCells m) s)
  | _, _ => endMessage false m (freeCells l m s)

/-- The port that a DEST_PID names here. -/
def pidPort (s : State) (did : Nat) : Option Nat :=
  match targetOf s (didEntry s s.gh.route.stamping did) 128 0 with
  | .go e none => if e < 112 then some e else none
  | _ => none

/-- A released locked read locks its port (11 R324). -/
def lockBy (m : Msg) (s : State) : State :=
  if !(flagOf m 1) then s
  else match pidPort s m.dest with
    | some p => lockPort p (m.srcSwitch, m.srcIngress) s
    | none => s

/-- The cells charged to a link's channel for transactions numbered from `before` on. -/
def recharged (s : State) (i v before : Nat) : Nat :=
  let mine := fun (t : Txn) => decide (before ≤ t.id) && t.ingress == i && t.fcc == v
  ((storedTxns s ++ s.gh.deferred).filter mine).foldl (fun a t => a + t.cells) 0

/-- The cells of a message that nothing charges any more return to the link's credit (10 R283). -/
def creditRest (l : Nat) (m : Msg) (before : Nat) (s : State) : State :=
  creditBack (112 + l) m.vc (msgCells m - recharged s (112 + l) m.vc before) s

/-- The snoop of another home reaches its host here, which will answer it in the same queue (06 R178; 04 R115). -/
def deliverSnoop (l : Nat) (m : Msg) (k : Snoop) (dla p : Nat) (s : State) : State :=
  let h := (getDomain s (dlaDomain dla)).participants.getD p (0, 0)
  let q := min m.tc 15
  homeMsg (msgAcct l m) (Config.hostPort h.2) q 0 none (.snoop k dla p)
    (withDir (fun d => { d with snoopsHere := d.snoopsHere ++ [(dla, p, q)] }) s)

/-- The home of a line answers the BIConflict of a host at another switch, in the queue of the host's request (06 R177; 04
R115). -/
def answerConflict (m : Msg) (r : HomeReq) (s : State) : State :=
  match linkToward s m.srcSwitch with
  | some o => launch false { newTxn s 128 (112 + o) (min m.tc 15) 0 2 s.gh.route.stamping false (.biConflictAck r.dla) with
      dest := some (m.srcSwitch, (takeFree s).1.toNat % 4096), tag := m.srcIngress } (takeFree s).2
  | none => s

/-- The home's grant reaches the requester here, which will acknowledge it to that home (06 R175). -/
def deliverGrant (l : Nat) (m : Msg) (b : Body) (s : State) : State :=
  match s.gh.waits.find? (fun w => w.id == m.tag && w.done.isNone) with
  | some w => homeAnswer (msgAcct l m) w (bodyBytes b) b (oweNotice w (hostDec w.host w.mapGen w.epoch (dropWait w.id s)))
  | none => s

/-- What a released message of MKIND 1-5 does (10 R304; 06 R175, R177, R178; 11 R317, R325). Its cells go to what it becomes
here, or return to credit. -/
def deliver (l : Nat) (m : Msg) (s : State) : State :=
  let off := shareCells true (112 + l) m.vc (msgCells m) s
  let n := s.gh.nextTxn
  match m.body with
  | .req r a =>
    let s1 := lockBy m off
    let x := stampNow (msgRequest l m r a) s1
    lookupRun x quietHw (stampInc x s1)
  | .home p r k => deliverHome l m p r k s
  | .rsp _ k data => creditRest l m n (ownAnswer (msgAcct l m) m.tag k data off)
  | .grant own shared data dla => creditRest l m n (deliverGrant l m (.grant own shared data dla) off)
  | .snoop k dla p => creditRest l m n (deliverSnoop l m k dla p off)
  | .biRsp dla p ans => birsp dla p ans (freeCells l m s)
  | .biConflict r => answerConflict m r (freeCells l m s)
  | .biConflictAck dla =>
    creditRest l m n (if m.tag < 112 && !(getPort off m.tag).linkUp then off
      else homeMsg (msgAcct l m) m.tag (min m.tc 15) 0 none (.biConflictAck dla) off)
  | .notice dla => noticed dla (freeCells l m s)
  | .homeRead dla => deliverExpander l m dla false false 0 64 [] s
  | .homeWrite dla o len p data => deliverExpander l m dla true (p || flagOf m 2) o len data s
  | .unlock =>
    let s1 := freeCells l m s
    (match pidPort s1 m.dest with
     | some p => unlockPort p (m.srcSwitch, m.srcIngress) s1
     | none => s1)
  | _ => freeCells l m s

/-- A message held here to be released here: not one that waits to be relayed (01 R469). -/
def heldHere (s : State) (l : Nat) (m : Msg) : Option HeldMsg :=
  (findHeld s l m).filter (fun h => h.msg.destSwitch == s.glb.switchId)

/-- Release a held message that its flow and its fence have reached (11 R317): `act` does what the message does. -/
def release1 (sel : Msg → Bool) (act : Nat → Msg → State → State) (l : Nat) (m : Msg) (s : State) : State :=
  match heldHere s l m with
  | none => s
  | some h =>
    if !(sel h.msg) then s
    else
      let s1 := if flagOf h.msg 4 then restartFlow h s else s
      let x := h.msg
      if x.fseq % 65536 = expected s1 x.srcSwitch x.srcIngress x.vc && fenceMet s1 x && !(mustWait s1 l x) then
        noteFences (act l (clearRestart x) (setExpected x.srcSwitch x.srcIngress x.vc (x.fseq + 1) (takeHeld h s1)))
      else s1

/-- A link, a switch and an ingress that exist. -/
def inMsg (l : Nat) (m : Msg) (k : Out) : Out :=
  inUnit "link" l Config.links (inUnit "source switch" m.srcSwitch 32 (inUnit "destination switch" m.destSwitch 32
    (inUnit "ingress" m.srcIngress Config.egresses (inUnit "channel" m.vc 4 k))))

/-- A message of MKIND 1-5 (11 R317). -/
def isTraffic (m : Msg) : Bool := decide (1 ≤ m.mkind) && decide (m.mkind ≤ 5)

def execMessageRelease (l : Nat) (m : Msg) (s : State) : Out := inMsg l m (.next (release1 isTraffic deliver l m s))

/-- A GAP message: its flow advances past it; with FLOW_RESTART its number is the one expected (11 R318). -/
def gapMsg (l : Nat) (m : Msg) (s : State) : State :=
  match heldHere s l m with
  | none => s
  | some h =>
    let x := h.msg
    if x.mkind ≠ 9 then s
    else if flagOf x 4 then noteFences (takeHeld h (restartFlow h (freeCells l x s)))
    else if x.fseq % 65536 = expected s x.srcSwitch x.srcIngress x.vc then
      noteFences (setExpected x.srcSwitch x.srcIngress x.vc (x.fseq + 1) (takeHeld h (freeCells l x s)))
    else s

def execGap (l : Nat) (m : Msg) (s : State) : Out := inMsg l m (.next (gapMsg l m s))

/-- A message with FLOW_RESTART restarts its flow; a GAP is then done with (11 R316, R318). -/
def flowRestart (l : Nat) (m : Msg) (s : State) : State :=
  match heldHere s l m with
  | none => s
  | some h =>
    if !(flagOf h.msg 4) then s
    else if h.msg.mkind = 9 then noteFences (takeHeld h (restartFlow h (freeCells l h.msg s)))
    else noteFences (restartFlow h s)

def execFlowRestart (l : Nat) (m : Msg) (s : State) : Out := inMsg l m (.next (flowRestart l m s))

/-! ## Signals (11 R327-R330) -/

/-- A released signal message counts (11 R331). -/
def signalIn (l : Nat) (m : Msg) (s : State) : State :=
  freeCells l m { s with stw := { s.stw with sbRecv := sat64 s.stw.sbRecv } }

/-- The key of a vPPB and of a wire of it. -/
def vppbKey (x : Signal) : Nat := x.vs % 64 * 128 + x.vppb % 128
def wireKey (x : Signal) : Nat := vppbKey x * 32 + x.signal % 32

/-- This host's switch binds the vPPB to that port of the source (11 R330). -/
def boundHost (s : State) (m : Msg) (x : Signal) : Bool :=
  let b := tget (⟨false, 0, 0⟩ : BindHost) s.stw.bindHost (vppbKey x)
  b.enable && b.switch == m.srcSwitch && b.port == x.port

/-- The host's switch keeps the signal's state and presents it (11 R328). -/
def wireIn (l : Nat) (m : Msg) (s : State) : State :=
  match m.body with
  | .signal _ x =>
    let s1 := signalIn l m s
    if boundHost s1 m x then
      emit (.signal m) { s1 with stw := { s1.stw with wires := tput 0 s1.stw.wires (wireKey x) x.state
                                                      wireSrc := tput 0 s1.stw.wireSrc (wireKey x) (m.srcSwitch + 1) } }
    else s1
  | _ => freeCells l m s

def signalOf (m : Msg) : Nat :=
  match m.body with
  | .signal _ x => x.signal
  | _ => 0

def isIntx (m : Msg) : Bool := m.mkind == 6 && decide (1 ≤ signalOf m) && decide (signalOf m ≤ 4)
def isSideband (m : Msg) : Bool := m.mkind == 7 && decide (8 ≤ signalOf m) && decide (signalOf m ≤ 10)
def isSidebandOut (m : Msg) : Bool := m.mkind == 8 && decide (16 ≤ signalOf m) && decide (signalOf m ≤ 17)

def execIntx (l : Nat) (m : Msg) (s : State) : Out := inMsg l m (.next (release1 isIntx wireIn l m s))

/-- A sideband signal of a slot reaches the host's switch (11 R327, R328). -/
def sidebandIn (l : Nat) (m : Msg) (s : State) : State := wireIn l m s

def execSideband (l : Nat) (m : Msg) (s : State) : Out := inMsg l m (.next (release1 isSideband sidebandIn l m s))

/-- The slot's switch binds the port to that host (11 R330). -/
def boundSlot (s : State) (m : Msg) (x : Signal) : Bool :=
  let b := tget (⟨false, 0, 0, 0⟩ : BindSlot) s.stw.bindSlot x.port
  b.enable && b.switch == m.srcSwitch && b.vs == x.vs && b.vppb == x.vppb

/-- PERST or the attention indicator at the slot's switch (11 R327). -/
def driveSlot (l : Nat) (m : Msg) (s : State) : State :=
  match m.body with
  | .signal _ x =>
    let s1 := signalIn l m s
    if !(boundSlot s1 m x) then s1
    else match portChan s1 x.port with
      | some c => if x.signal = 16 then hostPerst c (x.state != 0) s1 else setAttn c x.state s1
      | none => if x.signal = 16 then emit (.pin (.portPerstN x.port) (x.state == 0)) s1 else s1
  | _ => freeCells l m s

def execSidebandOut (l : Nat) (m : Msg) (s : State) : Out := inMsg l m (.next (release1 isSidebandOut driveSlot l m s))

/-! ## Locked sequences (11 R324-R326) -/

def execMrdlk (port owner ingress : Nat) (s : State) : Out :=
  inUnit "port" port Config.ports (inUnit "switch" owner 32 (inUnit "ingress" ingress Config.egresses
    (.next (lockPort port (owner, ingress) s))))

def execUnlock (port owner ingress : Nat) (s : State) : Out :=
  inUnit "port" port Config.ports (inUnit "switch" owner 32 (inUnit "ingress" ingress Config.egresses
    (.next (unlockPort port (owner, ingress) s))))

def execLockTimeout (port : Nat) (s : State) : Out :=
  inUnit "port" port Config.ports (.next (refresh port (breakLock port s)))

/-! ## STW_CONFIG (11 R330) -/

/-- The settings of a link. -/
def stwLinkBody (c : SeqCmd) (s : State) : CmdOut :=
  let d := c.desc
  let l := objIndex d.objectId % 8
  let hi := max 64 ((getLink s l).vc3.limit - 64)
  .done 0 (argClamps d [(0, 12, 0, 64, hi), (0, 25, 16, 1, 1000)])
    (refresh (112 + l) (setStw l { getStw s l with npwMax := used d.arg0 12 0 64 hi, lockToMs := used d.arg0 25 16 1 1000 } s))

/-- A binding on the host's switch. -/
def stwHostBody (c : SeqCmd) (s : State) : CmdOut :=
  let d := c.desc
  let k := objIndex d.objectId % 8192
  let b : BindHost := ⟨bit d.arg0 0, fld d.arg0 12 8, used d.arg0 22 16 0 111⟩
  .done 0 (argClamps d [(0, 22, 16, 0, 111)])
    { s with stw := { s.stw with bindHost := tput (⟨false, 0, 0⟩ : BindHost) s.stw.bindHost k b } }

/-- A binding on the slot's switch. -/
def stwSlotBody (c : SeqCmd) (s : State) : CmdOut :=
  let d := c.desc
  let p := objIndex d.objectId % 128
  let b : BindSlot := ⟨bit d.arg0 0, fld d.arg0 12 8, fld d.arg0 21 16, fld d.arg0 30 24⟩
  .done 0 [] { s with stw := { s.stw with bindSlot := tput (⟨false, 0, 0, 0⟩ : BindSlot) s.stw.bindSlot p b } }

/-- STW_CONFIG by KIND. -/
def stwBody (c : SeqCmd) (s : State) : CmdOut :=
  match objIndex c.desc.objectId / 2 ^ 48 with
  | 3 => stwLinkBody c s
  | 4 => stwHostBody c s
  | _ => stwSlotBody c s

def execStwConfig (seq : Nat) (s : State) : Out := .next (runOp 0x7006 anyDesc true stwBody seq s)

end Sys2Proof.Machine
end

