-- ==== Sys2Proof/Machine/Drain.lean ====
section
/-! DEFINITION. What a warm reset does before it proceeds, at the start of its drain interval (01 R469; 08 R248;
09 R271). -/

namespace Sys2Proof.Machine

/-- Every job, those that are queued first. -/
def allJobs (s : State) : List Job :=
  (s.move.classes.map (fun e => e.2.queue)).flatten ++ s.move.movers.filterMap (fun e => e.2.job)

/-- A running job stops once its lines in flight complete, and writes CANCELLED; a queued one goes without a record
(08 R248). -/
def stopJobs : List Job → State → State
  | [], s => s
  | j :: js, s => stopJobs js (if (jobMover s j.id).isSome then cancelJob j.id s else dropJob j.id s)

/-- Red requests held by policers are released in their order (09 R271): each to its queue, or to the home here. -/
def freeHeld : List HeldReq → State → State
  | [], s => s
  | h :: hs, s =>
    freeHeld hs (enter false h.txn (shareCells true h.txn.ingress h.txn.fcc h.txn.cells
      { s with sched := { s.sched with held := s.sched.held.filter (fun x => x.txn.id != h.txn.id) } }))

/-- The drain of a warm reset from `src` begins: from now on no ingress admits a new transaction, migrations that have
not swapped are undone, jobs stop, and held requests are released. -/
def drainStart (src : Nat) (s : State) : State :=
  let s1 := { s with glb := { s.glb with warm := .drain src } }
  let s2 := undoMigs J_CANCELLED (undoable s1 (fun _ => true)) s1
  let s3 := stopJobs (allJobs s2) s2
  freeHeld s3.sched.held s3

/-- A warm reset starts, unless one is in progress or the switch is in cold reset: it waits for the flash, then drains
(01 R469, 18 R450). -/
def warmStart (src : Nat) (s : State) : State :=
  if s.glb.inReset || s.glb.warm != .none then s
  else if s.sec.flashQ.isEmpty then drainStart src s
  else { s with glb := { s.glb with warm := .waitFlash src } }

end Sys2Proof.Machine
end

