-- ==== Sys2Proof/Machine/Security.lean ====
section
/-! DEFINITION. The boot flash and its queue, the image, calibration, attestation, IDE keys, debug, VDD_CORE and the
junction temperature (17 R422-R441; 18 R443, R444; 15 R394, R400). -/

namespace Sys2Proof.Machine

def withSec (f : Security → Security) (s : State) : State := { s with sec := f s.sec }
def withPwr (f : Power → Power) (s : State) : State := { s with pwr := f s.pwr }
def withFlt (f : Faults → Faults) (s : State) : State := { s with flt := f s.flt }
def withGlb (f : Glb → Glb) (s : State) : State := { s with glb := f s.glb }

/-! ## The flash queue (17 R428) -/

/-- The number by which a flash operation leaves on the SPI bus (log entry 5). -/
def flashCode : FlashKind → Nat
  | .imageCommit => 0
  | .calCommit _ => 1
  | .calRestore => 2
  | .keyErase => 3
  | .eraseSector _ => 4
  | .program _ => 5
  | .read _ => 6

/-- The operation at the head of the queue starts. -/
def flashStart (s : State) : State :=
  match s.sec.flashQ with
  | [] => s
  | op :: _ => emit (.flashRun (flashCode op.kind)) s

/-- A flash operation takes its turn: it starts at once if none runs (17 R428). -/
def flashPush (k : FlashKind) (seq : Option Nat) (s : State) : State :=
  let s1 := withSec (fun x => { x with flashQ := x.flashQ ++ [⟨k, seq⟩] }) s
  if s.sec.flashQ.isEmpty then flashStart s1 else s1

/-- Complete the command that a flash operation served: with OK, or with `code`. -/
def flashReply (seq : Option Nat) (ok : Bool) (code : Nat) (s : State) : State :=
  match seq.bind (findCmd s) with
  | none => s
  | some c => if ok then endWait c true 0 s else finishFail c code s

/-- A byte of the flash; an erased byte, and one that the model has not written, is 0xFF (log entry 16). -/
def flashByte (s : State) (a : Nat) : Byte := tget 0xFF#8 s.sec.flash a

/-- Write consecutive bytes. -/
def flashPuts (a : Nat) (l : List Byte) (s : State) : State :=
  withSec (fun x => { x with flash := tputs 0xFF#8 x.flash a l }) s

/-- Erase a range: its bytes are 0xFF. -/
def flashErase (a n : Nat) (s : State) : State :=
  withSec (fun x => { x with flash := x.flash.filter (fun e => !(decide (a ≤ e.1) && decide (e.1 < a + n))) }) s

/-- Byte `i` of the data buffer, little-endian in each word (17 R440). -/
def bufByte (s : State) (i : Nat) : Byte := BitVec.ofNat 8 ((tget 0 s.sec.flashBuf (i / 8)).toNat / 2 ^ (8 * (i % 8)))

/-- The flash address of byte `i` of a 256-byte program: within the page of `a` (log entry 41). -/
def pageByte (a i : Nat) : Nat := a / 256 * 256 + (a + i) % 256

/-- Program the buffer: a NOR flash only clears bits (log entry 41). -/
def programBytes (a : Nat) : List Nat → State → State
  | [], s => s
  | i :: is, s =>
    programBytes a is (withSec (fun x => { x with
      flash := tput 0xFF#8 x.flash (pageByte a i) (flashByte s (pageByte a i) &&& bufByte s i) }) s)

/-- Read 256 bytes into the buffer. -/
def readWord (s : State) (a : Nat) : Word := pack ((List.range 8).map (fun j => ((flashByte s (a + j)).toNat, 8 * j)))

def readWords (a : Nat) (s : State) : State :=
  withSec (fun x => { x with flashBuf := tputs 0 [] 0 ((List.range 32).map (fun w => readWord s (a + 8 * w))) }) s

/-- The flash address of the slot that did not boot (17 R422). -/
def otherSlot (s : State) : Nat := if s.sec.bootSlot = 0 then 0x400000 else 0

/-- The bytes of a slot record (17 R423). -/
def slotRecord (seq : Nat) : List Byte := (List.range 4).map (fun j => BitVec.ofNat 8 (seq / 2 ^ (8 * j))) ++ [0xA5#8]

/-- The image as read again from host memory has the hash that was staged: `aux` of its OBJ_COMMIT (17 R427). -/
def hashMatches (s : State) (seq : Option Nat) : Bool :=
  match seq.bind (findCmd s) with
  | some c => c.aux == 1
  | none => true

/-- The image commit ends: the slot is erased, and holds a record if the hash compare passed (17 R427). -/
def imageEnd (seq : Option Nat) (ok : Bool) (s : State) : State :=
  let n := (s.sec.bootSeq + 1) % 2 ^ 32
  let s1 := flashErase (otherSlot s) 0x400000 (withSec (fun x => { x with
    imageStage := if ok then none else x.imageStage, otherSeq := if ok then n else 0 }) s)
  flashReply seq ok PRECONDITION (if ok then flashPuts (otherSlot s + 0x3FF000) (slotRecord n) s1 else s1)

/-- What a flash operation leaves when it ends (17 R427-R429, R435, R438). A calibration commit whose programming fails
completes with UNIT_FAULT (log entry 44). -/
def flashEnd (op : FlashOp) (ok : Bool) (s : State) : State :=
  match op.kind with
  | .imageCommit => imageEnd op.seq (ok && hashMatches s op.seq) s
  | .calCommit l =>
    let s1 := if ok then withSec (fun x => { x with
        calOverlay := l, calInUse := true, calSeq := (x.calSeq + 1) % 2 ^ 32, calStage := none }) s
      else s
    flashReply op.seq ok UNIT_FAULT s1
  | .calRestore =>
    flashReply op.seq ok UNIT_FAULT (if ok then withSec (fun x => { x with calOverlay := [], calInUse := false }) s else s)
  | .keyErase => s
  | .eraseSector a => withSec (fun x => { x with flashErr := !ok }) (if ok then flashErase (a / 65536 * 65536) 65536 s else s)
  | .program a => withSec (fun x => { x with flashErr := !ok }) (if ok then programBytes a (List.range 256) s else s)
  | .read a => withSec (fun x => { x with flashErr := !ok }) (if ok then readWords a s else s)

/-- A warm reset that waits for the flash proceeds once no operation runs (01 R469, 17 R427). -/
def warmGoes (s : State) : State :=
  match s.glb.warm with
  | .waitFlash src => if s.sec.flashQ.isEmpty then drainStart src s else s
  | _ => s

/-- The running flash operation ends and the next starts (17 R428). -/
def flashOpDone (ok : Bool) (s : State) : State :=
  match s.sec.flashQ with
  | [] => s
  | op :: rest => warmGoes (flashStart (flashEnd op ok (withSec (fun x => { x with flashQ := rest }) s)))

def execFlashOpDone (ok : Bool) (s : State) : Out := .next (flashOpDone ok s)

/-! ## Recovery of a failed image (17 R429) -/

/-- The recovery registers act: the image has failed and the address lies in a slot. -/
def flashOpen (s : State) : Bool := s.glb.imageFail && decide (s.sec.flashAddr < 0x800000)

/-- A write of OP `op` to SEC_FLASH_CMD; a write that does not act is reported as a clamp. -/
def flashCmd (op : Nat) (k : Nat → FlashKind) (v : Word) (s : State) : State :=
  if fld v 1 0 ≠ op then s
  else if flashOpen s then flashPush (k s.sec.flashAddr) none s
  else discard .pf 0 0x1200020 v s

def execFlashEraseSector (v : Word) (s : State) : Out := .next (flashCmd 1 .eraseSector v s)

def execFlashProgram (v : Word) (s : State) : Out := .next (flashCmd 2 .program v s)

def execFlashRead (v : Word) (s : State) : Out := .next (flashCmd 3 .read v s)

/-! ## Image and calibration commands (17 R426, R436-R438) -/

/-- FLAGS.ADVANCE, SECURITY_VERSION and LENGTH of an image header (17 R423). -/
def imgAdvance (h : ImageHdr) : Bool := bit h.w0 56
def imgVersion (h : ImageHdr) : Nat := fld h.w1 31 0
def imgLength (h : ImageHdr) : Nat := fld h.w1 63 32

/-- An image verifies (17 R424): MAGIC and FORMAT match, LENGTH is legal, its key is that of a key slot that is not
revoked, the signature and the body's hash hold, and its version is at least the OTP minimum. -/
def imageVerifies (revoked : BitVec 4) (svMin : Nat) (h : ImageHdr) : Bool :=
  fld h.w0 31 0 == 0x36395650 && fld h.w0 47 32 == 1
    && decide (4096 ≤ imgLength h) && decide (imgLength h ≤ 4186112) && imgLength h % 4096 == 0
    && decide (fld h.w0 55 48 < 4) && !(revoked.getLsbD (fld h.w0 55 48)) && h.keyOk && h.sigOk && h.bodyOk
    && decide (svMin ≤ imgVersion h)

/-- IMAGE_UPDATE: the image as it is read, none for a failed read, is checked and staged (17 R426; log entry 10). -/
def imageBody (image : Option ImageHdr) (c : SeqCmd) (s : State) : CmdOut :=
  match image with
  | none => .fail DESC_FAULT s
  | some h =>
    if !(imageVerifies s.sec.keyRevoked s.sec.svMin h) then .fail PRECONDITION s
    else .done 0 [] (withSec (fun x => { x with
      imageStage := some ((fld c.desc.arg0 63 12) * 4096, fld c.desc.arg1 22 0, h.hash) }) s)

/-- The largest INSTANCE and PARAM of a calibration KIND (17 R437). -/
def calMax (kind : Nat) : Nat × Nat :=
  match kind with
  | 1 => (511, 2)
  | 2 => (15, 0)
  | 3 => (31, 3)
  | _ => (31, 0)

/-- The legal range of a calibration VALUE (17 R437). -/
def calRange (kind param : Nat) : Int × Int :=
  match kind, param with
  | 1, 0 => (0, 10)
  | 1, 1 => (0, 255)
  | 1, _ => (-32, 31)
  | 2, _ => (-500, 500)
  | 3, 3 => (-200, 200)
  | 3, _ => (-20000, 20000)
  | _, _ => (-20000, 0)

/-- A calibration entry as it is used: KIND, INSTANCE, PARAM and VALUE (17 R437). -/
def calUse (w0 w1 : Word) : Nat × Nat × Nat × Int :=
  let k := used w0 7 0 1 4
  let p := min (fld w0 31 24) (calMax k).2
  (k, min (fld w0 23 8) (calMax k).1, p, clampInt w1.toInt (calRange k p).1 (calRange k p).2)

def calKey (e : Nat × Nat × Nat × Int) : Nat := e.1 + e.2.1 * 2 ^ 8 + e.2.2.1 * 2 ^ 24

/-- One clamp of entry `i`, at byte `o` of it. -/
def calClamp (i o hi lo w u : Nat) : List FieldClamp := if w = u then [] else [⟨32, true, 16 * i + o, hi, lo, w, u⟩]

def calClamps (i : Nat) (w0 w1 : Word) : List FieldClamp :=
  let e := calUse w0 w1
  calClamp i 0 7 0 (fld w0 7 0) e.1 ++ calClamp i 0 23 8 (fld w0 23 8) e.2.1 ++ calClamp i 0 31 24 (fld w0 31 24) e.2.2.1
    ++ calClamp i 8 63 0 w1.toNat (tobits e.2.2.2 64)

/-- The entries of CAL_WRITE and their clamps, from entry `i`. -/
def calPuts : Nat → List (List Word) → List (Nat × Nat) → List (Nat × Nat) × List FieldClamp
  | _, [], t => (t, [])
  | i, g :: gs, t =>
    let e := calUse (nth g 0) (nth g 1)
    let r := calPuts (i + 1) gs (tins t (calKey e) (tobits e.2.2.2 64))
    (r.1, calClamps i (nth g 0) (nth g 1) ++ r.2)

/-- CAL_WRITE: entries merged into the staging copy, at most 1,024 in all (17 R437, R440; log entry 42). -/
def calBody (data : ReadData) (c : SeqCmd) (s : State) : CmdOut :=
  withData data s fun ws =>
    let n := used c.desc.arg1 10 0 1 1024
    let r := calPuts 0 ((List.range n).map (fun i => [nth ws (2 * i), nth ws (2 * i + 1)])) (s.sec.calStage.getD s.sec.calOverlay)
    if 1024 < r.1.length then .fail NO_RESOURCE s
    else .done 0 (argClamps c.desc [(1, 10, 0, 1, 1024)] ++ r.2) (withSec (fun x => { x with calStage := some r.1 }) s)

/-- CAL_RESTORE_FACTORY: the staging copy goes, and both copies are erased in their turn (17 R438). -/
def calRestoreBody (c : SeqCmd) (s : State) : CmdOut :=
  .wait [] (flashPush .calRestore (some c.seq) (withSec (fun x => { x with calStage := none }) s))

def execCalRestoreFactory (seq : Nat) (s : State) : Out := .next (runOp 0xA005 anyDesc true calRestoreBody seq s)

/-! ## IDE keys and attestation (17 R430-R433) -/

/-- IDE_FAIL drops once no stream is insecure (15 R394). -/
def ideClears (s : State) : State := if s.sec.insecure.isEmpty then dropLine 8 (unitCode 0 0) s else s

/-- Stream directions of IDE: for each port link IDE and 8 selective streams, each in both directions (03 R80; 17 R432).
Direction `d` of stream `i` of port p is numbered 18p + 2i + d, link IDE being stream 0 (log entry 149). -/
def ideStreams : Nat := 112 * 9 * 2

/-- Every IDE key and session secret is zeroized; the streams that held a key are insecure (17 R433). -/
def zeroize (s : State) : State :=
  withSec (fun x => { x with insecure := x.keyed.foldl insNat x.insecure, keyed := [], keySet := [], sessions := 0 }) s

/-- An SPDM request and its answer; digests, certificates and signatures are free values (17 R430, R431; log entry 10). -/
def spdm (op : SpdmOp) (s : State) : State :=
  let f := takeFree s
  match op with
  | .getMeasurements i => if i = 6 then emit (.spdm (w64 (b2n s.sec.meas6))) s else emit (.spdm f.1) f.2
  | .keyExchange =>
    emit (.spdm f.1) (if s.sec.sessions < 8 then withSec (fun x => { x with sessions := x.sessions + 1 }) f.2 else f.2)
  | .endSession => emit (.spdm f.1) (withSec (fun x => { x with sessions := x.sessions - 1 }) f.2)
  | .keyProg k =>
    emit (.spdm f.1) (if s.sec.sessions = 0 || decide (ideStreams ≤ k) then f.2
      else ideClears (withSec (fun x => { x with keyed := insNat x.keyed k, insecure := x.insecure.filter (· != k) }) f.2))
  | .setCertificate k =>
    emit (.spdm f.1) (if 1 ≤ k ∧ k ≤ 3 then withSec (fun x => { x with keyStore := true }) f.2 else f.2)
  | .other => emit (.spdm f.1) f.2

def execSpdmRequest (op : SpdmOp) (s : State) : Out := .next (spdm op s)

/-- K_SET_GO: the stream's other key set is used; it fails on a stream that is insecure or holds no key (17 R432). -/
def kSetGo (k : Nat) (s : State) : State :=
  if s.sec.keyed.contains k && !(s.sec.insecure.contains k) then
    withSec (fun x => { x with keySet := tput false x.keySet k (!(tget false x.keySet k)) }) s
  else s

def execKSetGo (stream : Nat) (s : State) : Out := .next (kSetGo stream s)

/-- A stream fails its integrity or sequence check: it is insecure, and IDE_FAIL is raised (17 R432; 15 R394). -/
def ideFail (k : Nat) (s : State) : State :=
  if !(s.sec.keyed.contains k) || s.sec.insecure.contains k then s
  else
    let s1 := withSec (fun x => { x with insecure := insNat x.insecure k }) s
    if asserted s 8 (unitCode 0 0) then pulse 8 (unitCode 0 0) none none s1 else assertLine 8 (unitCode 0 0) none none s1

def execIdeFail (stream : Nat) (s : State) : Out := .next (ideFail stream s)

/-! ## Debug and the thermal trip (17 R434, R435; 18 R444) -/

/-- Hold down every port listed, as PORT_RESET with HOLD 1 does (03 R79). -/
def holdPorts : List Nat → State → State
  | [], s => s
  | p :: ps, s => holdPorts ps (holdPort p (fun x => { x with held := true, capRate := 0 }) s)

/-- Take every link listed down and hold it until OBL_CONFIG enables it. -/
def holdLinks : List Nat → State → State
  | [], s => s
  | l :: ls, s => holdLinks ls (setLink l { getLink (linkOut l 0 s) l with held := true } (linkOut l 0 s))

/-- Take every port and link down (17 R435, 18 R444). -/
def holdAllPorts (s : State) : State := holdLinks (List.range Config.links) (holdPorts (allPorts s) s)

/-- DBG_CHALLENGE: a nonce, unless debug is locked or fused off (17 R434). -/
def dbgChallenge (s : State) : State :=
  if s.sec.debugFuse || s.sec.debugLocked then s
  else
    let f := takeFree s
    emit (.tap f.1 false) (withSec (fun x => { x with nonce := some f.1, nonces := x.nonces + 1 }) f.2)

def execDbgChallenge (s : State) : Out := .next (dbgChallenge s)

/-- What is queued at the egresses listed ends, as toward a port that has gone down. -/
def endEgresses : List Nat → State → State
  | [], s => s
  | e :: es, s => endEgresses es (endEgress e s)

/-- The directory cache is discarded: its sets are suspect, and lines that no transaction holds are unknown
(17 R435, 06 R186; log entry 43). -/
def discardDir (s : State) : State :=
  let sets := s.dir.cached
  let lines := s.dir.lines.filter (fun e => !(sets.contains (dirSet s e.1)) || e.2.txn.isSome)
  { s with dir := { s.dir with lines := lines, cached := [], suspect := sets.foldl insNat s.dir.suspect } }

/-- Invasive debug opens (17 R435; 15 R394, R400). -/
def openDebug (s : State) : State :=
  let s1 := flashPush .keyErase none (withSec (fun x => { x with keyStore := false }) (zeroize (holdAllPorts s)))
  let s2 := discardDir (endEgresses (List.range' 120 9) s1)
  let s3 := withFlt (fun x => { x with debug := true }) (withGlb (fun g => { g with debugOpened := true }) s2)
  emit (.tap 0 false) (assertLine 35 (unitCode 0 0) none none (withSec (fun x => { x with meas6 := true }) s3))

/-- DBG_RESPONSE: a valid one opens debug; a wrong one counts, and the third locks (17 R434). -/
def dbgResponse (valid : Bool) (s : State) : State :=
  if s.sec.debugFuse || s.sec.debugLocked then s
  else if valid && s.sec.nonce.isSome then openDebug (withSec (fun x => { x with nonce := none }) s)
  else withSec (fun x => { x with
    nonce := none, debugFails := min 3 (x.debugFails + 1), debugLocked := decide (2 ≤ x.debugFails) }) s

def execDbgResponse (valid : Bool) (s : State) : Out := .next (dbgResponse valid s)

/-- A sensor reads 120 °C for 100 µs (18 R444). -/
def thermtrip (s : State) : State :=
  if s.glb.thermTrip then s
  else emit (.pin .thermtripN false) (holdAllPorts (withGlb (fun g => { g with thermTrip := true }) s))

def execThermtrip (sensor : Nat) (s : State) : Out := inUnit "thermal sensor" sensor 16 (.next (thermtrip s))

/-- The junction rises above 105 °C (15 R394, R400). -/
def tempHigh (s : State) : State := assertLine 2 (unitCode 0 0) none none (withFlt (fun x => { x with temp := true }) s)

def execTempHigh (sensor : Nat) (s : State) : Out := inUnit "thermal sensor" sensor 16 (.next (tempHigh s))

/-- The junction falls below 100 °C. -/
def execTempHighClear (s : State) : Out := .next (dropLine 2 (unitCode 0 0) s)

/-! ## VDD_CORE (01 R26, R27; 17 R439) -/

/-- The slow-corner rate in ppm of itself. -/
def slowRate : Nat := 1000000

/-- The voltage and the LOW_US count of the next pass (17 R439). -/
def vddNext (p : Power) (ppm : Nat) : Nat × Nat :=
  let t := slowRate + p.guardKppm * 1000
  let n : Nat × Nat :=
    if p.fixed then (p.fixedMv, p.lowUs)
    else if ppm < t then (p.targetMv + 10, 0)
    else if t + 20000 < ppm then
      (if 10000 ≤ p.lowUs + 100 then (p.targetMv - 5, 0) else (p.targetMv, p.lowUs + 100))
    else (p.targetMv, 0)
  (clampNat n.1 p.vminMv p.vmaxMv, n.2)

/-- VDD_CORE is in its range (15 R394). -/
def vddInRange (mv : Nat) : Bool := decide (620 ≤ mv) && decide (mv ≤ 850)

/-- One pass of the loop, from the end of phase 1 (17 R439). -/
def vddLoop (ppm monitor : Nat) (ack : Bool) (readback : Nat) (s : State) : State :=
  if s.glb.bringUp == .phase 1 || s.glb.inReset then s
  else
    let n := vddNext s.pwr ppm
    let s1 := emit (.avs n.1) (withPwr (fun p => { p with
      targetMv := n.1, lowUs := n.2, steps := if n.1 = p.targetMv then p.steps else sat64 p.steps
      avsOk := ack, avsErr := if ack then p.avsErr else sat64 p.avsErr, vddMv := if ack then readback % 1024 else p.vddMv
      rateMin := min ppm 0xFFFFFFFF, monitor := monitor }) s)
    let s2 := if ack && vddInRange readback then dropLine 1 (unitCode 0 0) s1 else s1
    if slowRate ≤ ppm then dropLine 0 (unitCode 0 0) s2 else s2

def execVddCoreLoop (ppm monitor : Nat) (ack : Bool) (readback : Nat) (s : State) : Out :=
  inUnit "rate monitor" monitor 32 (.next (vddLoop ppm monitor ack readback s))

/-- A monitor reads below the slow-corner rate for more than 1 ms (01 R27). -/
def execCoreRateLow (monitor : Nat) (s : State) : Out :=
  inUnit "rate monitor" monitor 32 (.next (assertLine 0 (unitCode 0 0) none none s))

/-- No AVSBus acknowledgement for 1 ms (`none`), or a readback of VDD_CORE outside its range (15 R394, R400). -/
def supplyFault (readback : Option Nat) (s : State) : State :=
  match readback with
  | none => assertLine 1 (unitCode 0 0) none none s
  | some mv =>
    if vddInRange mv then s
    else assertLine 1 (unitCode 0 0) none none (withFlt (fun x => { x with supply := true })
      (withPwr (fun p => { p with vddMv := mv % 1024 }) s))

def execSupply (readback : Option Nat) (s : State) : Out := .next (supplyFault readback s)

end Sys2Proof.Machine
end

