-- ==== Sys2Proof/Machine/Commit.lean ====
section
/-! DEFINITION. OBJ_COMMIT and OBJ_ABORT of every staged object, and the end of a generation's publication
(02 R69, R71; 04 R122; 05 R143, R147, R153; 07 R199; 09 R261; 12 R340; 17 R427, R438). -/

namespace Sys2Proof.Machine

/-- Publish the staged routing table as the next generation (04 R120, R122). -/
def routeCommit (publishing : Option Nat) (s : State) : State :=
  match s.gh.routeStage with
  | none => s
  | some r => { s with gh := { s.gh with route := genCommit r publishing s.gh.route, routeStage := none } }

/-- A table's publication is under way: the command completes when every ingress stamps the new generation. -/
def publish (code : Nat) (f : State → State) (s : State) : CmdOut := if code ≠ 0 then .fail code s else .wait [] (f s)

/-- Commit of a routing table: none staged, or a fifth resident generation (04 R122). -/
def routeCode (s : State) : Nat :=
  if s.gh.routeStage.isNone then PRECONDITION else if genFull s.gh.route then NO_RESOURCE else 0

/-- OBJ_COMMIT of the image: the flash is written in its turn; `hashOk` is the later compare (17 R427). -/
def imageCommit (c : SeqCmd) (hashOk : Bool) (s : State) : CmdOut :=
  if s.sec.imageStage.isNone then .fail PRECONDITION s
  else .wait [] (flashPush .imageCommit (some c.seq) (setAux c.seq (b2n hashOk) s))

/-- OBJ_COMMIT of the calibration overlay (17 R438). -/
def calCommit (c : SeqCmd) (s : State) : CmdOut :=
  match s.sec.calStage with
  | none => .fail PRECONDITION s
  | some l => .wait [] (flashPush (.calCommit l) (some c.seq) s)

/-- OBJ_COMMIT's own part, by the class of the object (02 R69). -/
def commitBody (hashOk : Bool) (c : SeqCmd) (s : State) : CmdOut :=
  let i := objIndex c.desc.objectId
  match objClass c.desc.objectId with
  | 1 => publish (routeCode s) (routeCommit (some c.seq)) s
  | 2 => publish (winCommitCode s i) (winCommit c.seq i) s
  | 3 => publish (mapCommitCode s i (issuerVf c)) (mapCommit c.seq i (issuerVf c)) s
  | 5 => if (getSlot s i).stage.isNone then .fail PRECONDITION s else .done 0 [] (commitSprig i s)
  | 9 => if (getEgress s (i % 2 ^ 48)).gclStage.isNone then .fail PRECONDITION s else .done 0 [] (gclCommit (i % 2 ^ 48) s)
  | _ => if i = 1 then calCommit c s else imageCommit c hashOk s

def execObjCommit (seq : Nat) (hashOk : Bool) (s : State) : Out :=
  .next (runOp 4 anyDesc true (commitBody hashOk) seq s)

/-- The staging copy that this issuer's commands fill is discarded (02 R69, 12 R340). -/
def abortStage (c : SeqCmd) (s : State) : State :=
  let i := objIndex c.desc.objectId
  match objClass c.desc.objectId with
  | 1 => { s with gh := { s.gh with routeStage := none } }
  | 2 => setHost i { getHost s i with winStage := none } s
  | 3 => putStage i (issuerVf c) ⟨[], 0⟩ s
  | 5 => setSlot i { getSlot s i with stage := none } s
  | 9 => setEgress (i % 2 ^ 48) { getEgress s (i % 2 ^ 48) with gclStage := none } s
  | _ => if i = 1 then withSec (fun x => { x with calStage := none }) s else withSec (fun x => { x with imageStage := none }) s

def execObjAbort (seq : Nat) (s : State) : Out := .next (runOp 5 anyDesc false (fun c s => .done 0 [] (abortStage c s)) seq s)

/-- Every port, link and internal endpoint stamps the new generation of the table that `c` names. -/
def stampNew (c : SeqCmd) (s : State) : State :=
  let i := objIndex c.desc.objectId
  match objClass c.desc.objectId with
  | 1 => { s with gh := { s.gh with route := genPublished s.gh.route } }
  | 2 => setHost i { getHost s i with win := genPublished (getHost s i).win } s
  | _ => setHost i { getHost s i with map := genPublished (getHost s i).map } s

/-- The publication that a waiting OBJ_COMMIT began. -/
def publishingOf (s : State) (c : SeqCmd) : Option Nat :=
  let i := objIndex c.desc.objectId
  match objClass c.desc.objectId with
  | 1 => s.gh.route.publishing
  | 2 => (getHost s i).win.publishing
  | 3 => (getHost s i).map.publishing
  | _ => none

/-- The OBJ_COMMIT of a table completes: no transaction is stamped with an older generation any more (04 R122, 05 R153). -/
def commitDone (seq : Nat) (s : State) : State :=
  match findCmd s seq with
  | none => s
  | some c =>
    if c.stage == .waiting && c.desc.opcode == 4#16 && publishingOf s c == some seq
    then wakeTables (endWait c true 0 (stampNew c s)) else s

def execGenerationCommitDone (seq : Nat) (s : State) : Out := .next (commitDone seq s)

end Sys2Proof.Machine
end

