-- ==== Sys2Proof/Machine/Vf.lean ====
section
/-! DEFINITION. Virtual functions: creation, destruction, Function Level Reset, mailboxes, doorbells, and configuration
requests (12 R332-R350; 03 R100, R101; 01 R40; 15 R395). -/

namespace Sys2Proof.Machine

/-! ## States (12 R333) -/

/-- VF `v` is enabled. -/
def vfEnabled (s : State) (v : Nat) : Bool := s.vf.enable && decide (v < s.vf.numVfs)

/-- VF_STATEv.STATE. A VF without an object is ABSENT or UNCREATED by VF Enable and NumVFs. -/
def vfShown (s : State) (v : Nat) : VfRun :=
  if vfExists (getVf s v) then (getVf s v).state else if vfEnabled s v then .uncreated else .absent

/-- The VF's BARs decode and act: CREATED, and in no Function Level Reset. -/
def vfOpen (s : State) (v : Nat) : Bool := (getVf s v).state == .created && !(getVf s v).flr

/-- An edge on line 160 with the VF's summary bit (13 R351). -/
def vfStateEdge (v : Nat) (s : State) : State :=
  eventEdge 160 { s with evt := { s.evt with
    vfState := tput 0 s.evt.vfState (v / 64) (tget 0 s.evt.vfState (v / 64) ||| (1#64 <<< (v % 64))) } }

/-- An edge on line 161 with the VF's summary bit (13 R351). -/
def vfMbEdge (v : Nat) (s : State) : State :=
  eventEdge 161 { s with evt := { s.evt with
    vfMb := tput 0 s.evt.vfMb (v / 64) (tget 0 s.evt.vfMb (v / 64) ||| (1#64 <<< (v % 64))) } }

/-! ## VF_CREATE (12 R334-R336) -/

/-- The range-checked fields of the record, as words of it; ranges that depend on other fields use their used values. -/
def vfFields (ws : List Word) : List FieldSpec :=
  let vc := used (nth ws 0) 15 8 4 64
  let pc := used (nth ws 1) 23 16 0 64
  let target := fun (t : Nat) => (3 + t, 27, 16, fld (nth ws (3 + t)) 11 0, 4095)
  [(0, 7, 0, 0, 63), (0, 15, 8, 4, 64), (0, 31, 16, 0, 8192 - vc), (0, 39, 32, 1, 64), (0, 47, 40, 0, 63),
   (0, 63, 48, 1, 4096), (1, 15, 0, 0, 4096 - pc), (1, 23, 16, 0, 64), (1, 63, 48, 0, 16384), (2, 31, 0, 0, 1048576),
   (2, 47, 32, 0, 1024), target 0, target 1, target 2, target 3, (7, 17, 0, 1, 128000), (7, 56, 32, 128, 16777216)]

/-- SHAPER as used: 0-511, or none for 0xFFFF. -/
def vfShaper (ws : List Word) : Option Nat := if fld (nth ws 1) 47 32 = 0xFFFF then none else some (min 511 (fld (nth ws 1) 47 32))

def vfClamps (ws : List Word) : List FieldClamp :=
  let w := fld (nth ws 1) 47 32
  dataClamps 0 ws (vfFields ws)
    ++ (if w = 0xFFFF ∨ w ≤ 511 then [] else [(⟨32, true, 8, 47, 32, w, 511⟩ : FieldClamp)])

/-- The valid TARGET ranges. -/
def vfTargets (ws : List Word) : List (Nat × Nat) :=
  (List.range' 3 4).filterMap (fun k =>
    if bit (nth ws k) 32 then some (fld (nth ws k) 11 0, used (nth ws k) 27 16 (fld (nth ws k) 11 0) 4095) else none)

/-- The VF as its record describes it (12 R336). `x` gives the configuration space's Bus Master Enable and mask. -/
def vfOf (ws : List Word) (x : Vf) (epoch : Nat) : Vf :=
  { Vf.reset with
    state := .created, host := used (nth ws 0) 7 0 0 63, vecCount := used (nth ws 0) 15 8 4 64,
    vecBase := used (nth ws 0) 31 16 0 (8192 - used (nth ws 0) 15 8 4 64), ringSlots := used (nth ws 0) 39 32 1 64,
    cls := used (nth ws 0) 47 40 0 63, jobsMax := used (nth ws 0) 63 48 1 4096,
    polCount := used (nth ws 1) 23 16 0 64, polBase := used (nth ws 1) 15 0 0 (4096 - used (nth ws 1) 23 16 0 64),
    shaper := vfShaper ws, mapStage := used (nth ws 1) 63 48 0 16384, heatMax := used (nth ws 2) 31 0 0 1048576,
    dirWaits := used (nth ws 2) 47 32 0 1024, targets := vfTargets ws, shapeRate := used (nth ws 7) 17 0 1 128000,
    shapeBurst := used (nth ws 7) 56 32 128 16777216, instEpoch := epoch, bme := x.bme, funcMask := x.funcMask }

/-- Two ranges share a number. -/
def overlap (a n b m : Nat) : Bool := decide (a < b + m) && decide (b < a + n)

/-- The VFs with an object. -/
def vfObjects (s : State) : List (Nat × Vf) := s.vf.vfs.filter (fun e => vfExists e.2)

/-- A named vector, policer or shaper is reserved, or a pool lacks the amount asked (12 R336). -/
def vfLacks (s : State) (x : Vf) : Bool :=
  (vfObjects s).any (fun e => overlap x.vecBase x.vecCount e.2.vecBase e.2.vecCount
      || overlap x.polBase x.polCount e.2.polBase e.2.polCount || (x.shaper.isSome && x.shaper == e.2.shaper))
    || decide (Config.ringSlots < (vfObjects s).foldl (fun a e => a + e.2.ringSlots) 0 + x.ringSlots)
    || decide (Config.vfStage < vfStaged s + x.mapStage) || decide (stageFree s < x.mapStage)

/-- Set the vectors listed to masked, with no held message; `fresh` also resets their coalescers (12 R336, R338). -/
def maskVecs (fresh : Bool) : List Nat → State → State
  | [], s => s
  | v :: vs, s =>
    let c := if fresh then Coalescer.reset else { getVec s v with collected := 0, startedAt := 0, heldMsg := false }
    let s1 := setVec v c s
    maskVecs fresh vs { s1 with evt := { s1.evt with unmasked := tput false s1.evt.unmasked v false } }

/-- The instance shaper of a VF, full (12 R336; 09 R256). -/
def vfShape (x : Vf) (s : State) : State :=
  match x.shaper with
  | none => s
  | some n =>
    let y : Shaper := ⟨true, x.shapeRate, x.shapeBurst, Int.ofNat (x.shapeBurst * 1000), s.time.localNs⟩
    { s with sched := { s.sched with vfShapers := tput Shaper.reset s.sched.vfShapers n y } }

/-- VF_CREATE (12 R336). -/
def vfCreateBody (data : ReadData) (c : SeqCmd) (s : State) : CmdOut :=
  let v := objIndex c.desc.objectId
  if vfExists (getVf s v) then .fail VERSION_CONFLICT s
  else withData data s fun ws =>
    let x := vfOf ws (getVf s v) s.vf.instNext
    if !(vfEnabled s v) then .fail PRECONDITION s
    else if vfLacks s x then .fail NO_RESOURCE s
    else
      let s1 := maskVecs true (List.range' x.vecBase x.vecCount) (vfShape x (setVf v x s))
      .done (w64 s.vf.instNext) (vfClamps ws) { s1 with vf := { s1.vf with instNext := (s.vf.instNext + 1) % 2 ^ 64 } }

/-! ## Stopping a VF: Function Level Reset and orphaning (12 R333, R338) -/

/-- The jobs of a VF, queued and held. -/
def vfJobList (s : State) (v : Nat) : List Job :=
  (s.move.classes.map (fun e => e.2.queue.filter (fun j => j.submitter == .vf v))).flatten
    ++ s.move.movers.filterMap (fun e => e.2.job.bind (fun j => if j.submitter == .vf v then some j else none))

/-- Jobs go without records. -/
def dropJobs : List Job → State → State
  | [], s => s
  | j :: js, s => dropJobs js (dropJob j.id (dropLines j.id s))

/-- The VF's sequenced commands complete internally, without completions (12 R338). -/
def silence (v : Nat) (s : State) : State :=
  { s with cmd := { s.cmd with inflight := s.cmd.inflight.map (fun c =>
      if c.origin == .ring (.tenant v) then { c with origin := .silent v } else c) } }

/-- The vectors that a VF reserves. -/
def vfVecs (x : Vf) : List Nat := if vfExists x then List.range' x.vecBase x.vecCount else []

/-- What a Function Level Reset does to a VF with an object (12 R338). -/
def vfStop (v : Nat) (s : State) : State :=
  let x := getVf s v
  let s1 := dropJobs (vfJobList s v) (silence v s)
  let s2 := putStage x.host (some v) ⟨[], 0⟩ s1
  let s3 := setVf v { x with
    ring := CmdRing.reset, evq := EventRing.reset, clamps := 0, resetSeen := false, toMgrFull := false, toVfFull := false,
    mbOut := [], mbIn := [], funcMask := false, bme := false, instEpoch := s2.vf.instNext } s2
  let s4 := { s3 with vf := { s3.vf with instNext := (s3.vf.instNext + 1) % 2 ^ 64 } }
  maskVecs false (vfVecs x) { s4 with host := { s4.host with held := s4.host.held.filter (fun w => w.fn != .vf v) } }

/-- A Function Level Reset begins. During DESTROYING it completes at once; an ABSENT or ORPHANED VF answers no
configuration request (12 R333, R337, R338). -/
def flrStart (v : Nat) (s : State) : State :=
  match vfShown s v with
  | .absent => s
  | .orphaned => s
  | .destroying => vfStateEdge v s
  | .uncreated => setVf v { getVf s v with bme := false, funcMask := false, flr := true } (vfStateEdge v s)
  | .created => setVf v { getVf (vfStop v (vfStateEdge v s)) v with flr := true } (vfStop v (vfStateEdge v s))

def execFunctionLevelReset (vf : Nat) (s : State) : Out := inUnit "VF" vf Config.vfs (.next (flrStart vf s))

/-- The reset ends once the commands sequenced before it have completed; jobs they queued go (12 R338). -/
def flrEnd (v : Nat) (s : State) : State :=
  if !(getVf s v).flr || s.cmd.inflight.any (fun c => c.origin == .silent v) then s
  else
    let s1 := dropJobs (vfJobList s v) s
    setVf v { getVf s1 v with flr := false } s1

def execFunctionLevelResetEnd (vf : Nat) (s : State) : Out := inUnit "VF" vf Config.vfs (.next (flrEnd vf s))

/-- CREATED VFs that are not enabled any more become ORPHANED (12 R333). -/
def orphan : List Nat → State → State
  | [], s => s
  | v :: vs, s =>
    orphan vs <|
      if (getVf s v).state == .created && !(vfEnabled s v)
      then setVf v { getVf (vfStop v (vfStateEdge v s)) v with state := .orphaned, flr := false } (vfStop v (vfStateEdge v s)) else s

/-- VF Enable and NumVFs change (12 R333). -/
def sriovWrite (enable : Bool) (numVfs : Nat) (s : State) : State :=
  orphan (tkeys s.vf.vfs) { s with vf := { s.vf with enable := enable, numVfs := min numVfs Config.vfs } }

def execVfEnableClear (enable : Bool) (numVfs : Nat) (s : State) : Out := .next (sriovWrite enable numVfs s)

/-- The configuration spaces of the PF and the VFs and their MSI-X tables return to their reset values (12 R470). -/
def configReset (s : State) : State :=
  let f := fun (x : Vf) => { x with bme := false, funcMask := false }
  { s with
    host := { s.host with pfBme := false, funcMask := false }
    vf := { s.vf with vfs := tmapAll Vf.reset f (tkeys s.vf.vfs) s.vf.vfs }
    evt := { s.evt with
      unmasked := []
      vec := tmapAll Coalescer.reset (fun c => { c with heldMsg := false }) (tkeys s.evt.vec) s.evt.vec } }

/-- A conventional reset of the PF alone (12 R470). -/
def execPfConventionalReset (s : State) : Out := .next (sriovWrite false 0 (configReset s))

/-! ## VF_DESTROY (12 R337) -/

/-- A window entry names the VF with VF_VALID set, in a committed or a staged table. -/
def vfNamed (s : State) (v : Nat) : Bool :=
  let names := fun (t : WinTable) => t.entries.any (fun e => e.2.vfValid && e.2.vf == v)
  s.win.hosts.any (fun e => names (genCurrent ⟨0, 0, []⟩ e.2.win) || (match e.2.winStage with
    | some t => names t
    | none => false))

def vfDestroyBody (c : SeqCmd) (s : State) : CmdOut :=
  let v := objIndex c.desc.objectId
  if vfNamed s v then .fail PRECONDITION s
  else .wait [] (setVf v { getVf s v with state := .destroying, instEpoch := 0, destroySeq := some c.seq } s)

/-- Queued jobs go without records; running jobs stop and write CANCELLED (12 R337). -/
def cancelJobs : List Job → State → State
  | [], s => s
  | j :: js, s => cancelJobs js (if j.started then cancelJob j.id s else dropJob j.id s)

/-- Nothing is done for the VF any more: no job, and no level-2 access in flight. -/
def vfIdle (s : State) (v : Nat) : Bool := (vfJobList s v).isEmpty && !(s.gh.waits.any (fun w => w.vf == some v))

/-- The VF's object is gone: its staging set is discarded, its resources return, its version is 0 (12 R337). -/
def vfGone (v : Nat) (s : State) : State :=
  let x := getVf s v
  let s1 := maskVecs false (vfVecs x) (putStage x.host (some v) ⟨[], 0⟩ s)
  setVer (objKey 0xC v) 0 (setVf v { Vf.reset with bme := x.bme, funcMask := x.funcMask } s1)

/-- The later steps of a VF_DESTROY, as far as they can go now (12 R337; log entry 45). -/
def destroyGoes (seq : Nat) (s : State) : State :=
  match findCmd s seq with
  | none => s
  | some c =>
    let v := objIndex c.desc.objectId
    if !(c.stage == .waiting && (getVf s v).destroySeq == some seq) then s
    else if s.cmd.inflight.any (fun x => x.origin == .ring (.tenant v) || x.origin == .silent v) then s
    else
      let s1 := cancelJobs (vfJobList s v) s
      if vfIdle s1 v then endWait c false 0 (vfGone v s1) else s1

/-- VF_DESTROY is held back while the VF is in a Function Level Reset; on a VF that is being destroyed it goes on with
the steps of R337 (log entry 45). -/
def vfDestroy (seq : Nat) (s : State) : State :=
  match findCmd s seq with
  | none => s
  | some c =>
    if objClass c.desc.objectId == 0xC && (getVf s (objIndex c.desc.objectId)).flr && c.stage == .ready then s
    else destroyGoes seq (runOp 0x8002 anyDesc false vfDestroyBody seq s)

def execVfDestroy (seq : Nat) (s : State) : Out := .next (vfDestroy seq s)

/-! ## Tenant doorbells and mailboxes (12 R343, R344, R347) -/

def execVfSqTail (vf : Nat) (v : Word) (s : State) : Out :=
  inUnit "VF" vf Config.vfs (.next (if vfOpen s vf then sqTailWrite (.tenant vf) v s else s))

def execVfCqHead (vf : Nat) (v : Word) (s : State) : Out :=
  inUnit "VF" vf Config.vfs (.next (if vfOpen s vf then cqHeadWrite (.tenant vf) v s else s))

/-- EQ_HEAD accepts the value: the CQ_HEAD rule with PRODUCED and the event ring's size. -/
def eqAccepts (g : EventRing) (h : Nat) : Bool :=
  decide ((g.produced + 2 ^ 32 - h) % 2 ^ 32 ≤ 2 ^ g.sizeLog2) && !(behind g.eqHead h)

def eqHeadWrite (v : Nat) (w : Word) (s : State) : State :=
  let x := getVf s v
  if eqAccepts x.evq (fld w 31 0) then setVf v { x with evq := { x.evq with eqHead := fld w 31 0 } } s
  else clampAccess (.vf v) 3 0x10 31 0 (w64 (fld w 31 0)) (w64 x.evq.eqHead) s

def execEqHead (vf : Nat) (v : Word) (s : State) : Out :=
  inUnit "VF" vf Config.vfs (.next (if vfOpen s vf then eqHeadWrite vf v s else s))

/-- MB_SEND: the outbound mailbox is sent; a send while it is full is reported as a clamp. -/
def mbSend (v : Nat) (w : Word) (s : State) : State :=
  let x := getVf s v
  if !(bit w 0) then s
  else if x.toMgrFull then discard (.vf v) 3 0x18 w s
  else vfMbEdge v (setVf v { x with toMgrFull := true } s)

def execMbSend (vf : Nat) (v : Word) (s : State) : Out :=
  inUnit "VF" vf Config.vfs (.next (if vfOpen s vf then mbSend vf v s else s))

/-- MB_DONE: the inbound mailbox is released. -/
def mbDone (v : Nat) (w : Word) (s : State) : State :=
  let x := getVf s v
  if bit w 0 && x.toVfFull then vfMbEdge v (setVf v { x with toVfFull := false } s) else s

def execMbDone (vf : Nat) (v : Word) (s : State) : Out :=
  inUnit "VF" vf Config.vfs (.next (if vfOpen s vf then mbDone vf v s else s))

/-- BAR0 offset of VF_MB_CTRL. -/
def vfMbCtrl : Nat := 0xD01008

/-- IN_DOORBELL: the mailbox of VF_SEL is sent (12 R347). -/
def inDoorbell (w : Word) (s : State) : State :=
  let x := getVf s s.vf.sel
  if !(bit w 0) || !(vfExists x) then s
  else if x.toVfFull then clampAccess .pf 0 vfMbCtrl 0 0 1 0 s
  else vfEvent s.vf.sel 2 0 0 (setVf s.vf.sel { x with toVfFull := true } s)

/-- OUT_FULL written 0: the outbound mailbox of VF_SEL is released (12 R347). -/
def outClear (w : Word) (s : State) : State :=
  let x := getVf s s.vf.sel
  if !(bit w 2) && x.toMgrFull then vfEvent s.vf.sel 3 0 0 (setVf s.vf.sel { x with toMgrFull := false } s) else s

/-- A write to VF_MB_CTRL acts on both fields (12 R350). -/
def mbCtrlWrite (w : Word) (s : State) : State := outClear w (inDoorbell w s)

def execVfInDoorbell (v : Word) (s : State) : Out :=
  .next (if imageDead s then discard .pf 0 vfMbCtrl v s else mbCtrlWrite v s)

def execVfOutFullClear (v : Word) (s : State) : Out :=
  .next (if imageDead s then discard .pf 0 vfMbCtrl v s else mbCtrlWrite v s)

/-! ## Tenant ring registers (12 R343, R346, R349) -/

def execVfCringCtrlWrite (vf : Nat) (v : Word) (s : State) : Out :=
  inUnit "VF" vf Config.vfs (.next (if vfOpen s vf then ringCtrlWrite (.tenant vf) v s else s))

/-- VF_EVQ_CTRL: SIZE_LOG2 6-16, VECTOR within the VF's own vectors; ENABLE from 0 to 1 zeroes the positions. -/
def evqCtrlWrite (v : Nat) (w : Word) (s : State) : State :=
  let x := getVf s v
  let g := x.evq
  let start := !g.enable && bit w 0
  let vec := clampNat (fld w 21 16) 0 (x.vecCount - 1)
  let g1 := { g with enable := bit w 0, sizeLog2 := used w 5 1 6 16, vector := vec, vectorEn := bit w 32,
                     produced := if start then 0 else g.produced, eqHead := if start then 0 else g.eqHead }
  clampIf (fld w 21 16 != vec) (.vf v) 0x48 21 16 (fld w 21 16) vec
    (clampIf (fld w 5 1 != used w 5 1 6 16) (.vf v) 0x48 5 1 (fld w 5 1) (used w 5 1 6 16) (setVf v { x with evq := g1 } s))

def execVfEvqCtrlWrite (vf : Nat) (v : Word) (s : State) : Out :=
  inUnit "VF" vf Config.vfs (.next (if vfOpen s vf then evqCtrlWrite vf v s else s))

/-! ## Configuration requests (03 R100, R101; 01 R40; 12 R332, R333; 15 R395) -/

/-- Completion status of a configuration request, as PCIe codes it. -/
def cfgOk : Nat := 0
def cfgUr : Nat := 1
def cfgCrs : Nat := 2

def fnMaskSet (f : Fn) (on : Bool) (s : State) : State :=
  match f with
  | .pf => { s with host := { s.host with funcMask := on } }
  | .vf v => setVf v { getVf s v with funcMask := on } s

/-- The global vector of entry `k` of a function's MSI-X table; none for an entry that the PF's table does not hold
(12 R335). -/
def entryVec (s : State) (f : Fn) (k : Nat) : Option Nat :=
  match f with
  | .pf => if k < Config.vectors && (vecOwner s k).isNone then some k else none
  | .vf v => if vfExists (getVf s v) && k < (getVf s v).vecCount then some ((getVf s v).vecBase + k) else none

/-- Mask or unmask an entry; a message that nothing holds any more is sent (13 R360). -/
def setEntryMask (n : Nat) (on : Bool) (s : State) : State :=
  releaseVecs [n] { s with evt := { s.evt with unmasked := tput false s.evt.unmasked n (!on) } }

/-- The exit latency that a port advertises for a power state, in nanoseconds (03 R97). -/
def exitLatency (st : PwrState) : Nat :=
  match st with
  | .l0 => 0
  | .l0p _ => 2000
  | .l1 => 4000
  | .l11 => 20000
  | .l12 => 70000
  | .l2 => 0

/-- The hot-plug slot status that a port engine presents of the bound channel: Power Fault Detected is bit 1 and Presence Detect
State bit 6, as PCIe numbers them (03 R100; 14 R376; log entry 139). -/
def slotStatus (s : State) (port : Nat) : Nat :=
  match portChan s port with
  | some c => 2 * b2n (getChan s c).powerFault + 64 * b2n (getChan s c).seated
  | none => 0

/-- The value of a field of a port's configuration space (03 R80, R97, R100; 14 R376). -/
def fieldValue (s : State) (port : Nat) (f : CfgField) : Nat :=
  let x := getPort s port
  match f with
  | .exitLatency st => exitLatency st
  | .aer => x.aer.toNat
  | .acs => x.acs.toNat
  | .maxPayload => x.maxPayload
  | .maxRead => x.maxRead
  | .slotStatus => slotStatus s port

/-- The effect of a configuration write on what the spec describes (03 R80, R100; 12 R332, R333; 13 R360; 15 R395; 14 R376; 11
R327). The payload size is at most 512 bytes and the read request size at most 4,096, codes 2 and 5; ACS is on downstream
ports. -/
def cfgEffect (port : Nat) (f : Fn) (op : CfgOp) (s : State) : State :=
  match op with
  | .read _ => s
  | .other _ _ => s
  | .doe => s
  | .field _ => s
  | .aerClear m => setPort port { getPort s port with aer := (getPort s port).aer &&& ~~~m } s
  | .acs v => if (getPort s port).cfg.role % 2 = 1 then setPort port { getPort s port with acs := v } s else s
  | .maxPayload n => setPort port { getPort s port with maxPayload := min n 2 } s
  | .maxRead n => setPort port { getPort s port with maxRead := min n 5 } s
  | .powerFaultClear => (match portChan s port with
    | some c => setChan c { getChan s c with powerFault := false } s
    | none => s)
  | .busMaster on => if on then flushRecords f (setBme f true s) else setBme f false s
  | .functionMask on => releaseVecs (tkeys s.evt.vec) (fnMaskSet f on s)
  | .entryMask k on => match entryVec s f k with
    | some n => setEntryMask n on s
    | none => s
  | .sriov enable n => if f = .pf then sriovWrite enable n s else s
  | .dpcEnable on => setPort port { getPort s port with dpcEnabled := on } s
  | .attnInd v => match portChan s port with
    | some c => setAttn c v s
    | none => s
  | .slotSignal vs vppb signal v => sendOut vs vppb signal v false s

/-- A read of configuration space or a DOE mailbox whose value the spec does not lay out (log entry 7). -/
def cfgValue (op : CfgOp) : Bool :=
  match op with
  | .read _ => true
  | .doe => true
  | _ => false

/-- Serve a configuration or DOE request. -/
def cfgServe (port : Nat) (f : Fn) (op : CfgOp) (s : State) : State :=
  let gone : Bool := match f with
    | .pf => false
    | .vf v => vfShown s v == .absent || vfShown s v == .orphaned
  if f = .pf && port == s.host.pfPort && !s.glb.ready then emit (.cfgRsp port cfgCrs 0) s
  else if gone then emit (.cfgRsp port cfgUr 0) s
  else if cfgValue op then emit (.cfgRsp port cfgOk (takeFree s).1) (takeFree s).2
  else if let .field x := op then emit (.cfgRsp port cfgOk (w64 (fieldValue s port x))) s
  else emit (.cfgRsp port cfgOk 0) (cfgEffect port f op s)

/-- A configuration request waits while its port's engine restarts (03 R101). -/
def configRequest (port : Nat) (f : Fn) (op : CfgOp) (s : State) : State :=
  if (getPort s port).engRestarting
  then setPort port { getPort s port with heldCfgReqs := (getPort s port).heldCfgReqs ++ [(f, op)] } s
  else cfgServe port f op s

def execConfigRequest (port : Nat) (fn : Fn) (op : CfgOp) (s : State) : Out :=
  inUnit "port" port Config.ports (match fn with
    | .pf => .next (configRequest port fn op s)
    | .vf v => inUnit "VF" v Config.vfs (.next (configRequest port fn op s)))

def cfgServeAll (port : Nat) : List (Fn × CfgOp) → State → State
  | [], s => s
  | (f, op) :: rest, s => cfgServeAll port rest (cfgServe port f op s)

/-- The slow-path work that waited for a port engine (01 R36; 03 R100). -/
def engineWork (p : Nat) : List EngWork → State → State
  | [], s => s
  | w :: ws, s =>
    engineWork p ws (match w with
      | .log n => engineLog p n s
      | .malformed r => malformed r s
      | .dpc => triggerDpc p s)

/-- A port engine has restarted from the image: its line drops, and what waited for it is done (01 R36; 03 R101; 13 R351). -/
def engineBack (p : Nat) (s : State) : State :=
  let x := getPort s p
  if !x.engRestarting then s
  else
    let s1 := setPort p { x with engRunning := true, engRestarting := false, engRestarts := satAdd 32 x.engRestarts 1,
                                 heldCfgReqs := [], engWork := [] } s
    cfgServeAll p x.heldCfgReqs (engineWork p x.engWork (portEvent p (dropLine 6 (unitCode 13 p) s1)))

def execPortEngineRestartDone (port : Nat) (s : State) : Out := inUnit "port" port Config.ports (.next (engineBack port s))

end Sys2Proof.Machine
end

