-- ==== Sys2Proof/Machine/Fetch.lean ====
section
/-! DEFINITION. What the switch reads in host memory for itself: descriptors, argument data, sprigs and images, each translated
and checked where its address lies in an aperture (02 R55, R62; 05 R139-R141, R150, R151). -/

namespace Sys2Proof.Machine

/-! ## Reads of the switch's own (05 R139, R140) -/

/-- The part of a range in each 4 KiB page that it touches: address and bytes. -/
def pageParts (addr len : Nat) : List (Nat × Nat) :=
  let first := addr / 4096
  (List.range ((addr + max 1 len - 1) / 4096 + 1 - first)).map (fun j =>
    let a := max addr ((first + j) * 4096)
    (a, min (addr + max 1 len) ((first + j + 1) * 4096) - a))

/-- The read of one page's part, in the host address space of function `f`: at level 0 for a manager ring, at level 2 for the ring of
a VF; a fetch of descriptors or of engine code needs X (05 R139, R141). -/
def ownReq (s : State) (f : Fn) (fetch : Bool) (p : Nat × Nat) : Request :=
  { ingress := 128, route := spaceRoute s f 0 0, level := (match f with | .pf => 0 | .vf _ => 2),
    vf := (match f with | .pf => none | .vf v => some v), fetch := fetch, kind := .pcieRd, addr := p.1, len := p.2, tc := 0, tag := 0,
    poison := false, locked := false, remote := none, intx := none, unlock := false, data := [], hdr := [] }

/-- No byte of the range lies inside the aperture of the function's host: the read goes up to the host, where windows play no part
(05 R140). -/
def readUp (s : State) (f : Fn) (fetch : Bool) (addr len : Nat) : Bool :=
  (pageParts addr len).all (fun p => (stampNow (ownReq s f fetch p) s).host.isNone)

/-- Translate, check and count the parts in an aperture; the read fails where one is refused (05 R150, R151). -/
def ownRead (f : Fn) (fetch : Bool) : List (Nat × Nat) → Bool × State → Bool × State
  | [], x => x
  | p :: ps, (ok, s) =>
    let r := ownReq s f fetch p
    let x := stampNow r s
    let l := checkAll s x none
    ownRead f fetch ps (ok && stopOf r l == .no, heatParts x false false l (noteResults x l s))

/-- The function for which a command's reads are made: that of its ring (05 R139). -/
def cmdFn (c : SeqCmd) : Fn :=
  match issuerVf c with
  | some v => .vf v
  | none => .pf

/-- Where a command's argument data lies, and how many bytes: 0 for a command that reads none. -/
abbrev ArgRange := Desc → Nat × Nat

/-- A command's part with its argument data read: `data` is what the memory holds, or none where the read fails there; one that the
windows refuse fails too. -/
def readArg (fetch : Bool) (range : ArgRange) (data : ReadData) (body : ReadData → SeqCmd → State → CmdOut) (c : SeqCmd) (s : State) :
    CmdOut :=
  let a := range c.desc
  if a.2 = 0 || readUp s (cmdFn c) fetch a.1 a.2 then body data c s
  else
    let r := ownRead (cmdFn c) fetch (pageParts a.1 a.2) (true, s)
    body (if r.1 then data else none) c r.2

/-! ## Descriptors (02 R55, R62, R63) -/

/-- Fetch the next descriptor of a ring; `none` is a read that fails at the host (02 R55, R62; 05 R140). -/
def fetch (r : RingId) (d : Option Desc) (s : State) : State :=
  if !mayFetch s r then s
  else
    let g := getRing s r
    let s1 := setRing r { g with fetched := (g.fetched + 1) % 2 ^ 32 } s
    let a := descAddr g g.fetched
    if readUp s (ringFn r) true a 64 then takeDesc r g d s1
    else
      let x := ownRead (ringFn r) true (pageParts a 64) (true, s1)
      takeDesc r g (if x.1 then d else none) x.2

def execDescriptorFetch (ring : RingId) (d : Option Desc) (s : State) : Out :=
  match ring with
  | .mring m => inUnit "manager ring" m 2 (.next (fetch ring d s))
  | .tenant v => inUnit "VF" v 2048 (.next (fetch ring d s))

/-! ## Commands with argument data (02 R69; 04 R118; 05 R146; 06 R163; 07 R200; 08 R226; 09 R261; 12 R336; 17 R426, R437) -/

/-- COUNT words at ARG2; none with COUNT 0. -/
def rtRange : ArgRange := fun d => (fld d.arg2 63 3 * 8, 8 * fld d.arg3 14 0)
def mapRange : ArgRange := fun d => (fld d.arg2 63 3 * 8, 8 * fld d.arg3 15 0)
def gclRange : ArgRange := fun d => if bit d.arg0 16 then (0, 0) else (fld d.arg2 63 3 * 8, 8 * min (fld d.arg0 40 32) (256 - fld d.arg0 7 0))

/-- The record of a domain: its counts, eight ranges and the participants (06 R163). -/
def defineRange : ArgRange := fun d => (fld d.arg1 63 6 * 64, 2184)

def codeRange : ArgRange := fun d => (fld d.arg0 63 3 * 8, codeBytes d)
def dataRange : ArgRange := fun d => (fld d.arg2 63 3 * 8, dataBytes d)

/-- The descriptors of moves: 64 bytes each (08 R224, R226). -/
def moveRange : ArgRange := fun d => (fld d.arg0 63 6 * 64, 64 * used d.arg1 6 0 1 64)

def vfRange : ArgRange := fun d => (fld d.arg0 63 6 * 64, 64)
def calRange16 : ArgRange := fun d => (fld d.arg0 63 4 * 16, 16 * used d.arg1 10 0 1 1024)
def imageRange : ArgRange := fun d => (fld d.arg0 63 12 * 4096, fld d.arg1 22 0)

def execRtWrite (seq : Nat) (data : ReadData) (s : State) : Out :=
  .next (runOp 0x1001 anyDesc false (readArg false rtRange data rtBody) seq s)

def execMapWrite (seq : Nat) (data : ReadData) (s : State) : Out :=
  .next (runOp 0x2004 anyDesc false (readArg false mapRange data mapBody) seq s)

def execGclWrite (seq : Nat) (data : ReadData) (s : State) : Out :=
  .next (runOp 0x6004 anyDesc false (readArg false gclRange data gclBody) seq s)

def execDefine (seq : Nat) (data : ReadData) (answers : List SwitchAnswer) (s : State) : Out :=
  .next (runOp 0x3001 (opIs 0) true (readArg false defineRange data (fun d => defineBody d answers)) seq s)

/-- The code and the initial data are fetched as engine code is: with X (05 R141; 07 R200). -/
def execSprigLoad (seq : Nat) (code data : ReadData) (s : State) : Out :=
  .next (runOp 0x4001 anyDesc false
    (readArg true codeRange code (fun cw => readArg true dataRange data (fun dw => loadBody cw dw))) seq s)

def execMoveSubmit (seq : Nat) (data : ReadData) (s : State) : Out :=
  .next (runOp 0x5002 anyDesc true (readArg false moveRange data submitBody) seq s)

def execVfCreate (seq : Nat) (data : ReadData) (s : State) : Out :=
  .next (runOp 0x8001 anyDesc true (readArg false vfRange data vfCreateBody) seq s)

def execCalWrite (seq : Nat) (data : ReadData) (s : State) : Out :=
  .next (runOp 0xA004 anyDesc false (readArg false calRange16 data calBody) seq s)

/-- The image is read whole; a part that the windows refuse makes the read fail (17 R426). -/
def imageArg (image : Option ImageHdr) (c : SeqCmd) (s : State) : CmdOut :=
  readArg false imageRange (image.map (fun _ => [])) (fun d => imageBody (d.bind (fun _ => image))) c s

def execImageUpdate (seq : Nat) (image : Option ImageHdr) (s : State) : Out := .next (runOp 0xA006 anyDesc false (imageArg image) seq s)

end Sys2Proof.Machine
end

