-- ==== Sys2Proof/Machine/Events.lean ====
section
/-! DEFINITION. Event registers, routes and coalescers (13 R351-R363). -/

namespace Sys2Proof.Machine

/-- Offer an occurrence of each line listed. -/
def offerLines : List Nat → State → State
  | [], s => s
  | n :: ns, s => offerLines ns (offerLine n s)

/-- The lines of register `r` whose bits are set in `w`, rising. -/
def linesIn (r : Nat) (w : Word) : List Nat := (bitsOf w.toNat 64).map (fun j => 64 * r + j)

/-- A write to EVT_PENDr: a bit set from 0 to 1 while unmasked offers one occurrence (13 R352, R353). -/
def pendWrite (r : Nat) (v : Word) (s : State) : State :=
  let old := tget 0 s.evt.pend r
  let mask := tget (BitVec.allOnes 64) s.evt.mask r
  offerLines (linesIn r (v &&& ~~~old &&& ~~~mask)) { s with evt := { s.evt with pend := tput 0 s.evt.pend r v } }

/-- A write to EVT_MASKr: a bit changed from 1 to 0 while pending offers one occurrence (13 R352, R353). -/
def maskWrite (r : Nat) (v : Word) (s : State) : State :=
  let old := tget (BitVec.allOnes 64) s.evt.mask r
  offerLines (linesIn r (old &&& ~~~v &&& tget 0 s.evt.pend r))
    { s with evt := { s.evt with mask := tput (BitVec.allOnes 64) s.evt.mask r v } }

def execEvtPendWrite (r : Nat) (v : Word) (s : State) : Out :=
  inUnit "event register" r 64 (.next (if imageDead s then discard .pf 0 (0xE00000 + 8 * r) v s else pendWrite r v s))

def execEvtMaskWrite (r : Nat) (v : Word) (s : State) : Out :=
  inUnit "event register" r 64 (.next (if imageDead s then discard .pf 0 (0xE00200 + 8 * r) v s else maskWrite r v s))

/-- A coalescer's timer reaches TIME (13 R359). -/
def execCoalescerTimer (vec : Nat) (s : State) : Out :=
  inUnit "vector" vec Config.vectors (.next (if 0 < (getVec s vec).collected then fireVec vec s else s))

/-- An MSI-X entry is unmasked: a held message is sent once nothing else holds it (13 R360). -/
def execMsixUnmask (vec : Nat) (s : State) : Out := inUnit "vector" vec Config.vectors (.next (setEntryMask vec false s))

/-- VEC_CONFIG on a line (13 R361). -/
def vecLineBody (c : SeqCmd) (s : State) : CmdOut :=
  let n := objIndex c.desc.objectId % 2 ^ 48
  let r := tget LineRoute.reset s.evt.route n
  .done 0 [] { s with evt := { s.evt with
    route := tput LineRoute.reset s.evt.route n { r with vector := fld c.desc.arg0 12 0, hostEn := bit c.desc.arg0 16 } } }

/-- Every KIND but a vector's: one that names no object gives BAD_OBJECT here (02 R61, R71). -/
def vecLineSel (d : Desc) : Bool := !(kindIs 1 d)

def execVecConfigLine (seq : Nat) (s : State) : Out := .next (runOp 0x8003 vecLineSel true vecLineBody seq s)

/-- A batch meets COUNT_MAX or TIME (13 R359, R361). -/
def vecDue (s : State) (c : Coalescer) : Bool :=
  decide (0 < c.collected) && (decide (c.countMax ≤ c.collected) || decide (500 * c.timeHalfUs ≤ sinceNs s.time.localNs c.startedAt))

/-- VEC_CONFIG on a vector (13 R361). -/
def vecVectorBody (c : SeqCmd) (s : State) : CmdOut :=
  let n := objIndex c.desc.objectId % 2 ^ 48
  let x := { getVec s n with countMax := used c.desc.arg0 10 0 1 1024, timeHalfUs := used c.desc.arg0 29 16 1 16000 }
  let s1 := setVec n x s
  .done 0 (argClamps c.desc [(0, 10, 0, 1, 1024), (0, 29, 16, 1, 16000)]) (if vecDue s x then fireVec n s1 else s1)

def execVecConfigVector (seq : Nat) (s : State) : Out := .next (runOp 0x8003 (kindIs 1) true vecVectorBody seq s)

end Sys2Proof.Machine
end

