-- ==== Sys2Proof/Machine/Headers.lean ====
section
/-! DEFINITION. The header units of a Stairwell message as words (11 R313, R314, R327), which mirror capture records of a
transaction that came over a link (04 R132). -/

namespace Sys2Proof.Machine

/-- Header unit 0 as two words (11 R313). -/
def unit0Words (m : Msg) : List Word :=
  [pack [(m.mkind, 0), (m.flags.toNat, 8), (m.fseq, 16), (m.pfence, 32), (m.srcIngress, 48), (m.srcSwitch, 56)],
   pack [(m.dest, 0), (m.tc, 12), (m.destSwitch, 16), (m.dataUnits, 24), (m.notice, 32)]]

/-- Header unit 1 of MKIND 1-4: ADDRESS, REQ_ID, TAG in its low 14 bits and the protocol opcode; the remaining three bytes
are the protocol's own fields (11 R314). -/
def unit1Words (address reqId tag opcode fields : Nat) : List Word :=
  [w64 address, pack [(reqId, 0), (tag % 16384, 16), (opcode, 32), (fields, 40)]]

/-- The content unit of MKIND 6-8 (11 R327). -/
def signalWords (x : Signal) : List Word :=
  [pack [(x.signal, 0), (x.state, 8), (x.port, 16), (x.channel, 32), (x.vs, 40), (x.vppb, 48)], pack [(x.changes, 0)]]

/-- The address that unit 1 carries (11 R314). -/
def bodyAddr : Body → Nat
  | .req _ a => a
  | .home _ r _ => r.dla
  | .grant _ _ _ dla => dla
  | .snoop _ dla _ => dla
  | .biRsp dla _ _ => dla
  | .biConflict r => r.dla
  | .biConflictAck dla => dla
  | .notice dla => dla
  | .homeRead dla => dla
  | .homeWrite dla _ _ _ _ => dla
  | _ => 0

/-- The header of a message that came over a link: unit 0 and, where it has one, unit 1, whose REQ_ID, opcode and protocol
fields the spec does not give here: free values (log entry 28). -/
def msgHeader (m : Msg) (s : State) : List Word × State :=
  match m.body with
  | .signal _ x => (unit0Words m ++ signalWords x, s)
  | b =>
    if hdrUnits m.mkind = 1 then (unit0Words m ++ [0, 0], s)
    else
      let f := takeFree s
      (unit0Words m ++ unit1Words (bodyAddr b) (fld f.1 15 0) m.tag (fld f.1 39 32) (fld f.1 63 40), f.2)

end Sys2Proof.Machine
end

