-- ==== Sys2Proof/Machine/Migrations.lean ====
section
/-! DEFINITION. Live migration and the commit unit: PAGE_MIGRATE, the steps of a migration, and the proposals of the
sprigs (07 R210-R217; 08 R237-R247). -/

namespace Sys2Proof.Machine

/-! ## The watchdog -/

def execMoverWatchdog (m : Nat) (s : State) : Out := inUnit "mover" m 64 (.next (unblock (revoke m s)))

/-! ## Starting a migration (08 R239, R240) -/

/-- What a migration is asked for: the host, page and destination. -/
structure MigAsk where
  host : Nat
  page : Nat
  did : Nat
  explicit : Option Nat
  keepOld : Bool
  cls : Nat
  statusAddr : Nat
  event : Bool
  tag : BitVec 32

/-- The committed entry of a page, valid only inside the aperture. -/
def pageEntry (s : State) (h page : Nat) : MapEnt :=
  let t := winNow s h
  if inAperture t page then mapLookup (mapNow s h) (page - aperPage t) else MapEnt.none

/-- The page that the migration moves: for a 2 MiB page its first 4 KiB page (08 R239). -/
def askPage (s : State) (a : MigAsk) : Nat := if (pageEntry s a.host a.page).huge then a.page / 512 * 512 else a.page

/-- The destination's device page (address / 4 KiB), if there is one: named, or from the pool (08 R230, R239). -/
def askDest (s : State) (a : MigAsk) : Option Nat :=
  let huge := (pageEntry s a.host a.page).huge
  match a.explicit with
  | some p => some (if huge then p / 512 * 512 else p)
  | none => poolPick s a.did huge

/-- The lowest free migration slot. -/
def freeMig (s : State) : Option Nat := (List.range Config.migrations).find? (fun k => (getMig s k).isNone)

/-- The committed DID entry. -/
def didNow (s : State) (did : Nat) : Word := tget 0 (genCurrent ⟨[], []⟩ s.gh.route).did did

/-- A device page lies in a range of a defined domain. -/
def pageInDomain (s : State) (did page : Nat) : Bool :=
  let x := expanderOf s s.gh.route.current did
  (domainOf s x.1 x.2 (page * 4096)).isSome

/-- The committed window of a page is shared. -/
def sharedNow (s : State) (h page : Nat) : Bool :=
  match winFind (winNow s h) page with
  | some w => w.shared
  | none => false

/-- A precondition of PAGE_MIGRATE fails (08 R240). -/
def migPrecondition (s : State) (a : MigAsk) : Bool :=
  let e := pageEntry s a.host a.page
  let page := askPage s a
  let n := if e.huge then 512 else 1
  !e.valid || migratingAt s a.host page n || sharedNow s a.host page
    || pageInDomain s e.did e.pfn || !(bit (didNow s a.did) 0)
    || (match askDest s a with
        | some p => pageInDomain s a.did p
            || (a.explicit.isSome && a.did == e.did && decide (p < e.pfn + n) && decide (e.pfn < p + n))
        | none => false)

/-- The failing code of a migration, 0 where it may start (08 R240). -/
def migCode (s : State) (a : MigAsk) : Nat :=
  let n := if (pageEntry s a.host a.page).huge then 512 else 1
  if mapLockedAt (winNow s a.host) (askPage s a) n then LOCKED
  else if migPrecondition s a then PRECONDITION
  else if (freeMig s).isNone || (askDest s a).isNone then NO_RESOURCE
  else 0

/-- Start the migration: slot and destination are taken, and the heat entry's LAST_MOVE is set (08 R240, R243). The
slot and the destination page. -/
def migStart (a : MigAsk) (p : Option PropRef) (s : State) : (Nat × Nat) × State :=
  let e := pageEntry s a.host a.page
  let page := askPage s a
  let k := (freeMig s).getD 0
  let dest := (askDest s a).getD 0
  let m : Migration :=
    { state := .mark, host := a.host, page := page, huge := e.huge, oldEnt := e, destDid := a.did, destPfn := dest,
      fromPool := a.explicit.isNone, keepOld := a.keepOld, cls := a.cls, statusAddr := a.statusAddr, event := a.event,
      tag := a.tag, copied := [], revoked := 0, poisonLines := 0, firstBad := 0, undoStatus := 0, gen := none,
      proposal := p, waiting := [] }
  let s1 := if a.explicit.isNone then poolTakePage e.huge dest s else s
  ((k, dest), stampMove a.host page e.huge (setMig k (some m) s1))

/-- RESULT: the destination address with the slot number in [7:0] (08 R240). -/
def migResult (r : Nat × Nat) : Word := w64 (r.2 * 4096 + r.1)

/-- The arguments of PAGE_MIGRATE (08 R239). -/
def askOf (d : Desc) : MigAsk :=
  { host := objIndex d.objectId % 64, page := fld d.arg0 51 12, did := fld d.arg1 11 0,
    explicit := if bit d.arg1 16 then some (fld d.arg2 55 12) else none, keepOld := bit d.arg1 17, cls := fld d.arg1 29 24,
    statusAddr := fld d.arg3 63 5 * 32, event := bit d.arg3 0, tag := d.tag }

def DWELL : Nat := 0x22

/-- The page lies within DWELL_EPOCHS of its last move (07 R213, R215). -/
def dwells (s : State) (h page : Nat) : Bool :=
  let huge := (pageEntry s h page).huge
  let last := lastMove s h page huge
  last != 0xFFFF && decide ((s.tel.epoch + 65536 - last % 65536) % 65536 < s.sage.limits.dwellEpochs)

/-- A forwarded command that runs a proposal of this switch: FLAGS bit 7 says so (07 R212; log entry 34). -/
def propCmd (c : SeqCmd) : Bool :=
  c.desc.flags.getLsbD 7 && (match c.origin with
    | .fromManager _ => true
    | _ => false)

/-- PAGE_MIGRATE (08 R239, R240). One that runs a proposal of this switch is held to DWELL_EPOCHS here, where the page's heat
entry is (07 R213; log entry 144). -/
def pageMigrateBody (c : SeqCmd) (s : State) : CmdOut :=
  let a := askOf c.desc
  let code := if propCmd c && dwells s a.host (askPage s a) then DWELL else migCode s a
  if code ≠ 0 then .fail code s
  else
    let huge := (pageEntry s a.host a.page).huge
    let low := fld c.desc.arg2 20 12
    let r := migStart a none s
    .done (migResult r.1)
      (if huge && a.explicit.isSome && low != 0 then [⟨48, false, 0, 20, 12, low, 0⟩] else []) r.2

/-- PAGE_MIGRATE changes the map only by swaps, so the version stays (08 R240). -/
def execPageMigrate (seq : Nat) (s : State) : Out := .next (runOp 0x5001 anyDesc false pageMigrateBody seq s)

/-! ## The steps of a migration (08 R243) -/

/-- MARK: the generation that marks the page is committed. -/
def markCommit (k : Nat) (s : State) : State :=
  match getMig s k with
  | some m => if m.state == .mark then commitMigs m.host s else s
  | none => s

def execMigrationMarkCommitted (k : Nat) (s : State) : Out := inUnit "migration" k 256 (.next (markCommit k s))

/-- No access to host `h` stamped with a map generation older than `g` is in flight, writes counting until their
completion reaches the switch (08 R243). -/
def writesDone (s : State) (h g : Nat) : Bool :=
  genFenced g (getHost s h).map
    && !(s.gh.waits.any (fun w => w.host == some h && w.kind == .pcieWr && older g w.mapGen))

/-- FENCE: the copy job is queued once the older accesses have drained. -/
def fenceDrained (k : Nat) (s : State) : State :=
  match getMig s k with
  | some m =>
    if m.state == .fence && writesDone s m.host (m.gen.getD 0) then queueCopy k m (setMig k (some { m with state := .copy }) s)
    else s
  | none => s

def execMigrationFenceDrained (k : Nat) (s : State) : Out := inUnit "migration" k 256 (.next (fenceDrained k s))

/-- A copied line's destination write has completed, or an access of it has failed, and the line ends (08 R242, R243,
R246); `tag` is that of its accesses on the mover. -/
def migLineCopied (k line mover tag : Nat) (s : State) : State :=
  match (getMover s mover).lines.find? (fun l => l.tag == tag) with
  | some l =>
    match l.stage with
    | .ended w r => if l.mig = some k && l.off = 64 * line then unblock (finishLine mover l w r s) else s
    | _ => s
  | none => s

def execMigrationLineCopied (k line mover tag : Nat) (s : State) : Out :=
  inUnit "migration" k 256 (inUnit "mover" mover 64 (.next (migLineCopied k line mover tag s)))

/-- SWAP: the generation with the new location is committed. -/
def swapCommit (k : Nat) (s : State) : State :=
  match getMig s k with
  | some m => if m.state == .swap then commitMigs m.host s else s
  | none => s

def execMigrationSwapCommitted (k : Nat) (s : State) : Out := inUnit "migration" k 256 (.next (swapCommit k s))

/-- Generations of the host's map older than `g` are no longer resident. -/
def onlySince (s : State) (h g : Nat) : Bool := (getHost s h).map.slots.all (fun e => !(older g e.2.gen))

/-- A write that holds the block of a line of the page was stamped before generation `g` (08 R243). -/
def pageWrites (s : State) (k g : Nat) : Bool :=
  s.gh.waits.any (fun w => (match w.line with | some (j, _) => j == k | none => false) && writes w.kind && older g w.mapGen)

/-- SETTLE ends: the old page returns to its pool unless KEEP_OLD, and the migration ends OK (08 R243, R245). -/
def settled (k : Nat) (s : State) : State :=
  match getMig s k with
  | some m =>
    if m.state == .settle && onlySince s m.host (m.gen.getD 0) && !(pageWrites s k (m.gen.getD 0)) then
      finishMig k 0 (if m.keepOld then s else poolGive m.oldEnt.did m.huge m.oldEnt.pfn s)
    else s
  | none => s

def execMigrationSettled (k : Nat) (s : State) : Out := inUnit "migration" k 256 (.next (settled k s))

/-- Every request that waits in the middle of its path. -/
def parked (s : State) : List Stamped :=
  s.win.fills ++ s.win.hosts.flatMap (fun e => e.2.waiting)
    ++ s.move.migs.flatMap (fun e => ((e.2.map (·.waiting)).getD []).map (·.req))

/-- A write of host `h` stamped before generation `g` has not completed (08 R243). -/
def olderWrites (s : State) (h g : Nat) : Bool :=
  s.gh.waits.any (fun w => w.host == some h && writes w.kind && older g w.mapGen)
    || (storedTxns s ++ s.gh.deferred).any (fun t => t.host == some h && t.posted && older g t.mapGen)
    || (parked s).any (fun x => x.host == some h && writes x.req.kind && older g x.mapGen)

/-- UNDO ends: the original entry is committed, the writes stamped before it and those of the copy have completed; the
destination page returns to its pool, except after DEST_FAILED (08 R243, R246). -/
def undoDone (k : Nat) (s : State) : State :=
  match getMig s k with
  | some m0 =>
    if m0.state != .undo then s
    else
      let s1 := if m0.gen.isNone then commitMigs m0.host s else s
      match (getMig s1 k).bind (·.gen) with
      | some g =>
        if !(olderWrites s1 m0.host g) && (copyingLines s1 k).isEmpty then
          finishMig k m0.undoStatus
            (if m0.fromPool && m0.undoStatus != J_DEST then poolGive m0.destDid m0.huge m0.destPfn s1 else s1)
        else s1
      | none => s1
  | none => s

def execMigrationUndoDone (k : Nat) (s : State) : Out := inUnit "migration" k 256 (.next (undoDone k s))

/-! ## The commit unit (07 R211-R217) -/

def KIND_DENIED : Nat := 0x20
def RATE_LIMITED : Nat := 0x21

/-- KIND of a proposal. -/
def propKind (p : Proposal) : Nat := fld p.word0 7 0

/-- The proposal is denied by its kind. -/
def kindDenied (s : State) (p : Proposal) : Bool :=
  propKind p == 0 || decide (5 < propKind p) || !(s.sage.limits.allow.getLsbD (propKind p - 1))

/-- The accepted proposals of a slot in this epoch; a slot of another switch has a key of its own. -/
def propsOf (s : State) (key : Nat) : Nat := tget 0 s.sage.propThisEpoch key

/-- The key of a slot of this switch or of switch `sw`. -/
def slotKey (sw slot : Nat) : Nat := sw * 32 + slot

/-- Proposal-started migrations in progress (07 R215). -/
def propMigs (s : State) : Nat := (migsOf s (fun m => m.proposal.isSome)).length

/-- The proposal at the head of a slot's queue, if the commit unit takes it now: it is of the kinds given, and the slot
is the next in round-robin order that has one (07 R211). -/
def headProp (s : State) (slot : Nat) (p : Proposal → Bool) : Option Proposal :=
  let turn := ((List.range 32).map (fun j => (s.sage.turn + j) % 32)).find? (fun k => !(getSlot s k).props.isEmpty)
  if turn == some slot then
    match (getSlot s slot).props with
    | x :: _ => if p x then some x else none
    | [] => none
  else none

/-- The proposal that a row presents to the command sequencer: the one that the commit unit has taken and that waits there,
else the head of the slot's queue, which gets the next arrival number (07 R211; 02 R63). It comes with the slot's adopted
epoch. -/
def presented (s : State) (slot : Nat) (p : Proposal → Bool) : Option (PropRef × Nat) :=
  match s.sage.taken with
  | some t => if t.1.slot == slot && p t.1.prop then some t else none
  | none => (headProp s slot p).map (fun x => (⟨slot, s.cmd.seqNext, x, s.tel.epoch⟩, (getSlot s slot).epoch))

/-- The commit unit takes the proposal: it leaves its queue with its arrival number. One that waits there is taken already. -/
def takeProp (slot : Nat) (s : State) : State :=
  if s.sage.taken.isSome then { s with sage := { s.sage with taken := none } }
  else
    let x := getSlot s slot
    let s1 := setSlot slot { x with props := x.props.tail } s
    { s1 with cmd := { s1.cmd with seqNext := (s1.cmd.seqNext + 1) % 2 ^ 64 }, sage := { s1.sage with turn := (slot + 1) % 32 } }

/-- Run the proposal of a row, if its turn has come: it waits at the commit unit behind an earlier command on its object, and
where `waits` says so (07 R211, R214). -/
def propRow (slot : Nat) (p : Proposal → Bool) (waits : State → PropRef × Nat → Bool) (run : PropRef × Nat → State → State)
    (s : State) : State :=
  match presented s slot p with
  | none => s
  | some t =>
    let s1 := takeProp slot s
    let busy := match propKey t.1.prop with
      | some k => keyBusy s1 t.1.seq k
      | none => false
    if busy || waits s1 t then { s1 with sage := { s1.sage with taken := some t } } else run t s1

/-- No wait of its own. -/
def noWait (_ : State) (_ : PropRef × Nat) : Bool := false

/-- Count an accepted proposal of a slot of this switch (07 R215). -/
def countSlot (slot : Nat) (s : State) : State :=
  let k := slotKey s.glb.switchId slot
  { s with sage := { s.sage with propThisEpoch := tput 0 s.sage.propThisEpoch k (propsOf s k + 1) } }

/-- The epoch that the proposal carries, its slot's adopted epoch, is stale (07 R213). -/
def propStale (s : State) (t : PropRef × Nat) : Bool := t.2 != s.cmd.ownEpoch

/-- A rate limit on proposals of a slot. -/
def slotLimited (s : State) (key : Nat) : Bool := decide (s.sage.limits.propPerEpoch ≤ propsOf s key)

/-! ### MIGRATE -/

/-- The migration that a proposal asks for (08 R239). -/
def askOfProp (s : State) (p : Proposal) : MigAsk :=
  { host := fld p.a 5 0, page := fld p.a 51 12, did := fld p.b 11 0, explicit := none, keepOld := false,
    cls := s.sage.limits.migClass, statusAddr := 0, event := false, tag := BitVec.ofNat 32 (propTag p) }

/-- Too many migrations were started or run (07 R215). -/
def migLimited (s : State) : Bool :=
  decide (s.sage.limits.migPerEpoch ≤ s.sage.migThisEpoch) || decide (s.sage.limits.migConcurrent ≤ propMigs s)

/-- The status of a MIGRATE of this switch, 0 where it starts (07 R213). -/
def migrateStatus (s : State) (t : PropRef × Nat) : Nat :=
  let a := askOfProp s t.1.prop
  if kindDenied s t.1.prop then KIND_DENIED
  else if propStale s t then EPOCH_STALE
  else if slotLimited s (slotKey s.glb.switchId t.1.slot) || migLimited s then RATE_LIMITED
  else if dwells s a.host (askPage s a) then DWELL
  else migCode s a

/-- Apply a MIGRATE on the switch that holds the map and admits it (07 R213). -/
def migrateHere (t : PropRef × Nat) (s : State) : State :=
  let st := migrateStatus s t
  if st ≠ 0 then propResult t.1 st false 0 s
  else
    let g := migStart (askOfProp s t.1.prop) (some t.1) s
    let s1 := { g.2 with sage := { g.2.sage with migThisEpoch := g.2.sage.migThisEpoch + 1 } }
    propResult t.1 0 false (w64 (g.1.2 * 4096)) (countSlot t.1.slot s1)

/-- A worker forwards a MIGRATE to the manager switch (07 R212). -/
def migrateAway (t : PropRef × Nat) (s : State) : State :=
  let p := t.1.prop
  sendBypass s.obl.mgrSwitch (.propFwd t.1.slot [p.word0, p.a, p.b, p.c, w64 t.2])
    { s with sage := { s.sage with forwarded := s.sage.forwarded ++ [t.1] } }

def execMigrate (slot : Nat) (s : State) : Out :=
  inUnit "Sage slot" slot 32 (.next (propRow slot (fun p => propKind p == 1) noWait
    (if s.glb.mgrSel then migrateHere else migrateAway) s))

/-- The status of a MIGRATE of worker `src` at the manager switch before it is forwarded, 0 where it goes on (07 R212,
R213). -/
def remoteStatus (s : State) (src slot epoch : Nat) (p : Proposal) : Nat :=
  if kindDenied s p then KIND_DENIED
  else if epoch ≠ s.cmd.ownEpoch then EPOCH_STALE
  else if slotLimited s (slotKey src slot) || migLimited s then RATE_LIMITED
  else 0

/-- The descriptor of the PAGE_MIGRATE that runs a worker's MIGRATE (08 R239, R241). -/
def remoteDesc (s : State) (src : Nat) (p : Proposal) : Desc :=
  { opcode := 0x5001#16, flags := 0, tag := BitVec.ofNat 32 (propTag p), ownEpoch := w64 s.cmd.ownEpoch,
    objectId := pack [(src, 59), (3, 52), (fld p.a 5 0, 0)], expectVersion := 0, arg0 := p.a,
    arg1 := pack [(fld p.b 11 0, 0), (s.sage.limits.migClass, 24)], arg2 := 0, arg3 := 0 }

/-- A worker's MIGRATE arrives at the manager switch's commit unit, which runs it as a forwarded PAGE_MIGRATE (07 R212,
08 R241). -/
def propFwd (src slot epoch : Nat) (ws : List Word) (s : State) : State :=
  if !s.glb.mgrSel then s
  else
    let p : Proposal := ⟨nth ws 0, nth ws 1, nth ws 2, nth ws 3⟩
    let st := remoteStatus s src slot epoch p
    let seq := s.cmd.seqNext
    let s1 := { s with cmd := { s.cmd with seqNext := (seq + 1) % 2 ^ 64 } }
    if st ≠ 0 then remoteResult src slot s.tel.epoch p ⟨0, BitVec.ofNat 16 st, false, 0, 0, seq, 0, 0⟩ s1
    else
      let c : SeqCmd := ⟨seq, .commit src slot s.tel.epoch p, 0, remoteDesc s src p, .forwarded, 0, 0⟩
      settle { s1 with cmd := { s1.cmd with inflight := s1.cmd.inflight ++ [c] } }

def execPropFwd (src slot epoch : Nat) (words : List Word) (s : State) : Out :=
  inUnit "switch" src 32 (inUnit "Sage slot" slot 32 (.next (propFwd src slot epoch words s)))

/-- The migration that a proposal of this switch started here: the one of its page that no proposal has yet. -/
def linkProposal (t : PropRef) (s : State) : State :=
  match migOf s (fld t.prop.a 5 0) (fld t.prop.a 51 12) with
  | some (k, m) => if m.proposal.isNone then setMig k (some { m with proposal := some t }) s else s
  | none => s

/-- The forwarded proposal of a slot with this TAG. -/
def forwardedProp (s : State) (slot tag : Nat) : Option PropRef :=
  s.sage.forwarded.find? (fun e => e.slot == slot && propTag e.prop == tag)

def dropForwarded (e : PropRef) (s : State) : State :=
  { s with sage := { s.sage with forwarded := s.sage.forwarded.filter (fun x => x != e) } }

/-- The answer to a forwarded proposal arrives (07 R212). A MIGRATE that has started ends with a second result at its
own switch. -/
def propAnswer (status tag slot : Nat) (s : State) : State :=
  match forwardedProp s slot tag with
  | none => s
  | some e =>
    let s1 := dropForwarded e s
    let s2 := if status ≤ 1 then linkProposal e s1 else s1
    let dest := match migOf s (fld e.prop.a 5 0) (fld e.prop.a 51 12) with
      | some (_, m) => m.destPfn * 4096
      | none => 0
    propResult e status false (if status ≤ 1 then w64 dest else 0) s2

def execPropRes (status tag slot : Nat) (s : State) : Out :=
  inUnit "Sage slot" slot 32 (.next (propAnswer status tag slot s))

/-- No answer within 10 ms: TIMEOUT (07 R212). -/
def execProposalTimeout (slot tag : Nat) (s : State) : Out :=
  inUnit "Sage slot" slot 32 (.next (propAnswer TIMEOUT tag slot s))

/-! ### SPLIT -/

/-- The status of a SPLIT, 0 where it is applied (07 R213). -/
def splitStatus (s : State) (t : PropRef × Nat) : Nat :=
  let p := t.1.prop
  let h := fld p.a 5 0
  let page := fld p.a 51 12 / 512 * 512
  let e := pageEntry s h page
  if kindDenied s p then KIND_DENIED
  else if propStale s t then EPOCH_STALE
  else if slotLimited s (slotKey s.glb.switchId t.1.slot) then RATE_LIMITED
  else if dwells s h page then DWELL
  else if mapLockedAt (winNow s h) page 512 then LOCKED
  else if !e.valid || !e.huge || migratingAt s h page 512 then PRECONDITION
  else if leafFree s = 0 then NO_RESOURCE
  else 0

/-- SPLIT as a map swap: the 2 MiB entry becomes a leaf of the same addresses (05 R145; 07 R214). -/
def splitPage (h page : Nat) (s : State) : State :=
  let off := page - aperPage (winNow s h)
  let m := mapNow s h
  let m1 := tput Region.invalid m (off / 512) (.leaf (leafOf (tget Region.invalid m (off / 512))))
  markSwapped h page 512 (mapSwap h m1 s)

/-- A SPLIT waits at the commit unit while a fifth map generation would be needed (07 R214). -/
def splitWaits (s : State) (t : PropRef × Nat) : Bool := splitStatus s t == 0 && genFull (getHost s (fld t.1.prop.a 5 0)).map

def runSplit (t : PropRef × Nat) (s : State) : State :=
  let h := fld t.1.prop.a 5 0
  let page := fld t.1.prop.a 51 12 / 512 * 512
  let st := splitStatus s t
  if st ≠ 0 then propResult t.1 st false 0 s
  else propResult t.1 0 false 0 (countSlot t.1.slot (splitPage h page (stampMove h page true s)))

def execSplit (slot : Nat) (s : State) : Out :=
  inUnit "Sage slot" slot 32 (.next (propRow slot (fun p => propKind p == 2) splitWaits runSplit s))

/-! ### WEIGHT and POLICER -/

/-- The object of a WEIGHT or POLICER: a queue or a policer of this switch. -/
def knobExists (s : State) (kind : Nat) (o : Word) : Bool :=
  let idx := objIndex o
  objClass o == 9 && objSwitch o == s.glb.switchId && idx / 2 ^ 48 == kind && objExists s 9 idx
    && (kind != 0 || decide (idx % 256 < 16))

/-- The status of a WEIGHT or POLICER before its clamps (07 R213). -/
def knobStatus (s : State) (kind : Nat) (t : PropRef × Nat) : Nat :=
  let p := t.1.prop
  if kindDenied s p then KIND_DENIED
  else if propStale s t then EPOCH_STALE
  else if !(knobExists s kind p.a) then BAD_OBJECT
  else if slotLimited s (slotKey s.glb.switchId t.1.slot)
      || decide (s.sage.limits.knobPerEpoch ≤ tget 0 s.sage.knobThisEpoch (objIndex p.a)) then RATE_LIMITED
  else 0

/-- A value clamped into [base >> SPAN, base << SPAN] and the field's range (07 R214). -/
def spanClamp (s : State) (base v lo hi : Nat) : Nat :=
  clampNat (clampNat v (base / 2 ^ s.sage.limits.span) (base * 2 ^ s.sage.limits.span)) lo hi

/-- The report record of a proposal's clamp: SOURCE 2, as a clamped command argument; `off` is the byte offset of the
word in the proposal (02 R73, 07 R214; log entry 40). -/
def knobClamp (seq off hi : Nat) (v u : Nat) (s : State) : State :=
  if v = u then s else clamp ⟨2, hi, 0, seq % 2 ^ 32, w64 off, w64 v, w64 u⟩ s

/-- Count an applied knob: the object's version and its changes in this epoch (07 R211, R215). -/
def countKnob (slot : Nat) (o : Word) (s : State) : State :=
  let n := objIndex o
  let s1 := countSlot slot (bumpVer (objKey 9 n) s)
  { s1 with sage := { s1.sage with knobThisEpoch := tput 0 s1.sage.knobThisEpoch n (tget 0 s1.sage.knobThisEpoch n + 1) } }

/-- WEIGHT (07 R210, R214). -/
def runWeight (t : PropRef × Nat) (s : State) : State :=
  let p := t.1.prop
  let st := knobStatus s 0 t
  if st ≠ 0 then propResult t.1 st false 0 s
  else
    let k := qkey (objIndex p.a % 65536 / 256) (objIndex p.a % 256)
    let u := spanClamp s (tget 64 s.sage.baseWeight k) p.b.toNat 1 4095
    let s1 := knobClamp t.1.seq 16 63 p.b.toNat u (countKnob t.1.slot p.a (setWeight k u s))
    propResult t.1 (if u = p.b.toNat then 0 else 1) false (w64 u) s1

def execWeight (slot : Nat) (s : State) : Out :=
  inUnit "Sage slot" slot 32 (.next (propRow slot (fun p => propKind p == 3) noWait runWeight s))

/-- POLICER (07 R210, R214). -/
def runPolicer (t : PropRef × Nat) (s : State) : State :=
  let p := t.1.prop
  let st := knobStatus s 1 t
  if st ≠ 0 then propResult t.1 st false 0 s
  else
    let n := objIndex p.a % 4096
    let base := tget (128000, 128000) s.sage.baseRates n
    let cir := spanClamp s base.1 p.b.toNat 1 128000
    let pir := max cir (spanClamp s base.2 p.c.toNat 1 128000)
    let s1 := setPolicer n (policerRates cir pir (policerFill s.time.localNs (getPolicer s n))) s
    let s2 := knobClamp t.1.seq 24 63 p.c.toNat pir (knobClamp t.1.seq 16 63 p.b.toNat cir (countKnob t.1.slot p.a s1))
    propResult t.1 (if cir = p.b.toNat && pir = p.c.toNat then 0 else 1) false (w64 cir) s2

def execPolicer (slot : Nat) (s : State) : Out :=
  inUnit "Sage slot" slot 32 (.next (propRow slot (fun p => propKind p == 4) noWait runPolicer s))

/-! ### NOTE -/

/-- The status of a NOTE, or of a proposal of no kind (07 R213). -/
def noteStatus (s : State) (t : PropRef × Nat) : Nat :=
  if kindDenied s t.1.prop then KIND_DENIED
  else if propStale s t then EPOCH_STALE
  else if slotLimited s (slotKey s.glb.switchId t.1.slot) then RATE_LIMITED
  else 0

/-- NOTE is logged and not applied; a proposal of no kind is refused in the same way (07 R210, R213). -/
def runNote (t : PropRef × Nat) (s : State) : State :=
  let st := noteStatus s t
  propResult t.1 st false 0 (if st = 0 then countSlot t.1.slot s else s)

def execNote (slot : Nat) (s : State) : Out :=
  inUnit "Sage slot" slot 32 (.next (propRow slot (fun p => propKind p == 0 || decide (5 ≤ propKind p)) noWait runNote s))

end Sys2Proof.Machine
end

