-- ==== Sys2Proof/Machine/Placement.lean ====
section
/-! DEFINITION. What the default placement sprig proposes each epoch, and the mailbox messages that configure it (07 R218).
The image gives its code as it gives any sprig's, and the core of 07 R204-R207 runs it; these are the rules that code
follows, over the heat table, the egress summaries, the maps and the pools that it reads. -/

namespace Sys2Proof.Machine

/-- The parameters 0-6 of SET_PARAM (07 R218), by number. -/
def placeDefault (k : Nat) : Nat :=
  match k with
  | 0 => 64
  | 1 => 50
  | 2 => 90
  | 3 => 3
  | 4 => 16
  | 5 => 4096
  | _ => 1

/-- What the manager has configured: the near and far sets of each host, and the parameters set (07 R218). -/
structure PlaceCfg where
  near : Tbl (List Nat)
  far : Tbl (List Nat)
  params : Tbl (Option Nat)
deriving DecidableEq, Repr

/-- After cold reset every set is empty and every parameter at its default (07 R218). -/
def PlaceCfg.reset : PlaceCfg := ⟨[], [], []⟩

def placeParam (c : PlaceCfg) (k : Nat) : Nat := (tget none c.params k).getD (placeDefault k)

/-- The DIDs of a SET_NEAR or SET_FAR message: words 1-7 with bit 63 set (07 R218). -/
def placeDids (words : List Word) : List Nat :=
  (((words.drop 1).take 7).filter (fun w => bit w 63)).map (fun w => fld w 11 0)

/-- An accepted mailbox message, TYPE in word 0 bits [7:0] (07 R218). -/
def placeMessage (words : List Word) (c : PlaceCfg) : PlaceCfg :=
  let w := words.headD 0
  match fld w 7 0 with
  | 1 => { c with near := tput [] c.near (fld w 13 8) (placeDids words) }
  | 2 => { c with far := tput [] c.far (fld w 13 8) (placeDids words) }
  | 3 => { c with params := tput none c.params (fld w 15 8) (some (nth words 1).toNat) }
  | _ => c

/-- The answer to a message: outbound word 0 and word 1 (07 R218). -/
def placeAnswer (words : List Word) (accepted : Bool) : Word × Word :=
  (w64 (fld (words.headD 0) 7 0 ||| 0x80), w64 (b2n (!accepted)))

/-- The egress of a DID, and whether its summary of the last epoch counts as saturated: BACKLOG_US at SAT_PCT percent of
the epoch or more (07 R218). -/
def placeEgress (s : State) (did : Nat) : Nat := fld (didEntry s s.gh.route.current did) 9 2
def placeBacklog (s : State) (did : Nat) : Nat := (tget Summary.reset s.tel.summary (placeEgress s did)).backlogUs
def placeSaturated (s : State) (c : PlaceCfg) (did : Nat) : Bool :=
  decide (placeParam c 2 * s.tel.cfg.epochMs * 1000 ≤ placeBacklog s did * 100)

/-- The DID of a list that `better` prefers to every other, the lowest on a tie (07 R218). -/
def placeBest (better : Nat → Nat → Bool) (l : List Nat) : Option Nat :=
  l.foldl (fun best d => match best with
    | none => some d
    | some b => if better d b || (!(better b d) && decide (d < b)) then some d else some b) none

/-- The DID with the most free pool pages. -/
def placeRoomiest (s : State) (l : List Nat) : Option Nat := placeBest (fun a b => decide (poolPages s b < poolPages s a)) l

/-- The DID to which a page of a host is mapped. -/
def placeDid (s : State) (e : Heat) : Nat := fld (mapRead s e.host (e.page * 4096)) 15 4

/-- Promotion: the destination of a hot page, none where it is not proposed (07 R218). -/
def placePromote (s : State) (c : PlaceCfg) (e : Heat) : Option Nat :=
  let near := tget [] c.near e.host
  if decide (placeParam c 0 ≤ heatLoad s e) && !(near.contains (placeDid s e))
  then placeRoomiest s (near.filter (fun d => !(placeSaturated s c d))) else none

/-- Demotion: the destination of a page met in the scan of the heat slots (07 R218). -/
def placeDemote (s : State) (c : PlaceCfg) (e : Heat) : Option Nat :=
  let d := placeDid s e
  if (tget [] c.near e.host).contains d && decide (placeParam c 1 ≤ heatAge s e) && decide (poolPages s d < placeParam c 5)
  then placeRoomiest s (tget [] c.far e.host) else none

/-- The heat slots that one epoch's scan reads: 65,536 from where the last stopped (07 R218). -/
def placeScan (s : State) (start : Nat) : List Nat :=
  (List.range 65536).map (fun i => (start + i) % 2 ^ (heatBits s + 3))

/-- Spreading: the destination of a page of a DID whose egress has been saturated for `epochs` consecutive epochs, `moved`
of whose pages it has already proposed in this one: the least-saturated DID of the same set (07 R218). -/
def placeSpread (s : State) (c : PlaceCfg) (epochs moved : Nat) (e : Heat) : Option Nat :=
  let d := placeDid s e
  let near := tget [] c.near e.host
  let far := tget [] c.far e.host
  let set := if near.contains d then near else if far.contains d then far else []
  if near.isEmpty || decide (epochs < placeParam c 3) || decide (placeParam c 4 ≤ moved) then none
  else placeBest (fun a b => decide (placeBacklog s a < placeBacklog s b)) (set.filter (fun x => x != d))

/-- Whether a page is skipped until it reappears in the hot ring: its last result was DWELL, LOCKED or PRECONDITION
(07 R218). -/
def placeSkips (lastStatus : Nat) : Bool := [0x0022, 0x0015, 0x0014].contains lastStatus

/-- The proposal for a page: MIGRATE to `did` with a TAG of the sprig's, nothing while ENABLE is 0 (07 R210, R218). -/
def placeProposal (c : PlaceCfg) (tag : Nat) (e : Heat) (did : Option Nat) : Option Proposal :=
  match did with
  | none => none
  | some d =>
    if placeParam c 6 = 0 then none
    else some ⟨pack [(1, 0), (tag % 65536, 16)], pack [(e.host, 0), (e.page, 12)], w64 d, 0⟩

end Sys2Proof.Machine
end

