-- ==== Sys2Proof/Machine/Units.lean ====
section
/-! DEFINITION. Units out of service and back, and FLT_STATUS (15 R392, R401-R404; 04 R126, R127; 08 R249; 10 R303). -/

namespace Sys2Proof.Machine

/-- The KIND and NUMBER of a unit (15 R401). -/
def unitKind (u : Nat) : Nat := u / 4096
def unitNo (u : Nat) : Nat := u % 4096

/-- The unit of a class 0x0F command. -/
def unitOf (c : SeqCmd) : Nat := objIndex c.desc.objectId % 65536

/-- A unit is retired, or on its way out of service (15 R402; 04 R126). -/
def unitLeaving (s : State) (u : Nat) : Bool :=
  s.flt.retired.contains u ||
    (match unitKind u with
     | 1 => (getLane s (unitNo u)).retired
     | 3 => bankLeaving s (unitNo u)
     | 7 => (getChan s (unitNo u)).retired
     | _ => false)

/-- Movers in service. -/
def moversLeft (s : State) : Nat :=
  ((List.range 64).filter (fun m => (getMover s m).state != .retired && (getMover s m).state != .selfTest)).length

/-- Power domain MVg of a mover is powered down while all eight movers of its group are retired (08 R249). -/
def settleGroup (m : Nat) (s : State) : State :=
  let d := mvDomain (moverDomain m)
  let gone := (groupMovers (moverDomain m)).all (fun x => (getMover s x).state == .retired)
  { s with pwr := { s.pwr with down := if gone then insNat s.pwr.down d else s.pwr.down.filter (fun x => x != d) } }

/-- A lane leaves: its port retrains through Recovery, or its link at x4, if it is up (15 R403). -/
def laneRetire (l : Nat) (s : State) : State :=
  let s1 := setLane l { getLane s l with retired := true } s
  if l < 448 then
    match portOfLane s l with
    | some p => if (getPort s p).linkUp then enterRecovery p s1 else unitOut (unitCode 1 l) s1
    | none => unitOut (unitCode 1 l) s1
  else
    let k := linkOfLane l
    match (getLink s k).state with
    | .active => startRetrain k s1
    | .retrain => s1
    | .init => s1
    | _ => unitOut (unitCode 1 l) s1

/-- A mover leaves: its job goes back as at a preemption (08 R249). -/
def moverRetire (m : Nat) (s : State) : State :=
  let s1 := dropLine 22 (unitCode 4 m) (if (getMover s m).state == .granted then releaseMover m s else s)
  settleGroup m (setMover m { getMover s1 m with state := .retired, job := none } s1)

/-- A Sage core leaves: its slot stops, keeping its code and TRIG_EN (15 R403). -/
def coreRetire (k : Nat) (s : State) : State :=
  let live := slotLive (getSlot s k)
  let s1 := stopSlot k s
  setSlot k { getSlot s1 k with retired := true, wasRunning := live } s1

/-- A link leaves: broken if it carries messages (15 R403). -/
def linkRetire (l : Nat) (s : State) : State :=
  let s1 := linkOut l 6 s
  setLink l { getLink s1 l with retired := true } s1

/-- A slot channel leaves: off, then LOCKED_OUT once it has discharged (15 R403). -/
def chanRetire (c : Nat) (s : State) : State :=
  let s1 := slotOff c (setChan c { getChan s c with retired := true } s)
  match (getChan s1 c).state with
  | .stopping => s1
  | .tripped => s1
  | _ => chanOut c s1

/-- UNIT_RETIRE's own part (15 R402, R403). -/
def unitRetireBody (c : SeqCmd) (s : State) : CmdOut :=
  let u := unitOf c
  let n := unitNo u
  if unitLeaving s u then .fail PRECONDITION s
  else match unitKind u with
    | 1 => .wait [] (laneRetire n s)
    | 2 => .wait [] (unitOut u (holdPort n (fun x => { x with retired := true }) s))
    | 3 => if banksLeft s ≤ Config.minBanks then .fail PRECONDITION s else .wait [] (bankRetire n s)
    | 4 => if moversLeft s ≤ 1 then .fail PRECONDITION s else .wait [] (unitOut u (moverRetire n s))
    | 5 => .wait [] (unitOut u (coreRetire n s))
    | 6 => .wait [] (unitOut u (linkRetire n s))
    | _ => .wait [] (chanRetire n s)

/-- UNIT_RETIRE completes at once if its unit is out of service already. -/
def unitRetireEnd (seq : Nat) (s : State) : State :=
  match findCmd s seq with
  | none => s
  | some c => if c.stage == .waiting && s.flt.retired.contains (unitOf c) then endWaits true (unitWaiters s 0xA001 (unitOf c)) s else s

def execUnitRetire (seq : Nat) (s : State) : Out :=
  .next (unitRetireEnd seq (runOp 0xA001 anyDesc false unitRetireBody seq s))

/-- A unit has passed its test and waits to join (15 R403). -/
def unitJoining (u : Nat) (s : State) : State := withFlt (fun x => { x with joining := insNat x.joining u }) s

/-- UNIT_RETURN's own part: `ok` is the outcome of the self-test (15 R402, R403). A lane's test ends with it (03 R89), and a mover's
STATE reads self-test until it joins (08 R250). -/
def unitReturnBody (ok : Bool) (c : SeqCmd) (s : State) : CmdOut :=
  let u := unitOf c
  let n := unitNo u
  if !(s.flt.retired.contains u) then .fail PRECONDITION s
  else if !ok then .fail UNIT_FAULT (pulse 36 u none none s)
  else match unitKind u with
    | 1 => .wait [] (unitJoining u (endTest n s))
    | 3 => .wait [] (bankReturn n s)
    | 4 => .wait [] (unitJoining u (settleGroup n (setMover n { getMover s n with state := .selfTest } s)))
    | 6 => .wait [] (unitJoining u (setLink n { getLink s n with retired := false } s))
    | 7 =>
      let x := getChan s n
      .wait [] (putChan n { x with retired := false, retryCount := 0, wiringLock := false
                                   state := if x.seated then .landing else unseatedState x } s)
    | _ => .wait [] (unitJoining u s)

/-- A bank joins between two pair admissions and a slot channel after its checks: both at once (15 R403). -/
def unitReturnEnd (seq : Nat) (s : State) : State :=
  match findCmd s seq with
  | none => s
  | some c =>
    if c.stage == .waiting && c.desc.opcode.toNat == 0xA002 && (unitKind (unitOf c) == 3 || unitKind (unitOf c) == 7)
    then unitIn (unitOf c) s else s

def execUnitReturn (seq : Nat) (testOk : Bool) (s : State) : Out :=
  .next (unitReturnEnd seq (runOp 0xA002 anyDesc false (unitReturnBody testOk) seq s))

/-- The queues of a returning port start at its current virtual time (09 R254). -/
def freshQueues (e : Nat) : List Nat → State → State
  | [], s => s
  | q :: qs, s =>
    let v := (getEgress s e).vtime
    freshQueues e qs (setSchedQ (qkey e q) { getSchedQ s (qkey e q) with start := v, finish := v } s)

/-- A lane joins: its port or link retrains to its full width, or it is in service at once (15 R403). -/
def laneJoin (l : Nat) (s : State) : State :=
  let s1 := setLane l { getLane s l with retired := false } s
  if l < 448 then
    match portOfLane s l with
    | some p => if (getPort s p).linkUp then enterRecovery p s1 else unitIn (unitCode 1 l) s1
    | none => unitIn (unitCode 1 l) s1
  else
    let k := linkOfLane l
    match (getLink s k).state with
    | .active => startRetrain k s1
    | .retrain => s1
    | .init => s1
    | _ => unitIn (unitCode 1 l) s1

/-- A Sage core joins: its slot restarts if it was running at the retire (15 R403). -/
def coreJoin (k : Nat) (s : State) : State :=
  let x := getSlot s k
  let s1 := setSlot k { x with retired := false, wasRunning := false } s
  if x.wasRunning then startAndCheck k s1 else s1

/-- A returned unit joins traffic, at the next epoch boundary or decision point (15 R403). -/
def unitJoin (u : Nat) (s : State) : State :=
  let n := unitNo u
  if !(s.flt.joining.contains u) then s
  else match unitKind u with
    | 1 => laneJoin n s
    | 2 => unitIn u (freshQueues n (List.range 16) (releasePort n (fun x => { x with retired := false }) s))
    | 4 => unitIn u (setMover n { getMover s n with state := .idle } s)
    | 5 => unitIn u (coreJoin n s)
    | _ => unitIn u s

def execUnitJoin (unit : Nat) (s : State) : Out := inUnit "unit" unit 65536 (.next (unitJoin unit s))

/-! ## FLT_STATUS (15 R390, R392) -/

/-- FLT_LINES. -/
def fltLines (s : State) : Word := w64 (maskOf ((List.range 37).filter (fun k => lineUp s k)))

/-- A write to FLT_STATUS: a 0 clears a class whose line is not asserted, and is refused otherwise (15 R392). -/
def fltStatusWrite (v : Word) (s : State) : State :=
  let refused := s.flt.status &&& ~~~v &&& fltLines s
  withFlt (fun x => { x with status := x.status &&& (v ||| fltLines s),
                             clearRefused := satAdd 64 x.clearRefused (ones refused.toNat 64) }) s

def execFltStatusWrite (v : Word) (s : State) : Out := .next (fltStatusWrite v s)

end Sys2Proof.Machine
end

