-- ==== Sys2Proof/Machine/Thyme.lean ====
section
/-! DEFINITION. The Thyme time service: sources, states, steps, pulses, exchanges and settings (16 R407-R421; 09 R262). -/

namespace Sys2Proof.Machine

def withTime (f : Thyme → Thyme) (s : State) : State := { s with time := f s.time }

/-- Nanoseconds in a second. -/
def second : Nat := 1000000000

/-! ## Error and status (16 R410, R416) -/

/-- The error of the selected source (16 R410). -/
def sourceErr (t : Thyme) : Nat := if t.source = 1 then 20 else if t.source = 2 then 50 else t.peerErr + 20

/-- What is left of the last measured offset. -/
def offsetLeft (t : Thyme) : Nat :=
  match t.stepPending with
  | some d => d.natAbs
  | none => t.slewLeft.natAbs

/-- ERR_NS (16 R416). -/
def errNow (t : Thyme) : Nat :=
  min 0xFFFFFFFF (match t.state with
    | .free => 0xFFFFFFFF
    | .acquire => sourceErr t + offsetLeft t
    | .locked => sourceErr t
    | .holdover => t.holdErr + ceilDiv (sinceNs t.localNs t.holdStart * t.cfg.holdPpb) second)

/-- The code of a state (16 R421). -/
def thymeCode : ThymeState → Nat
  | .free => 0
  | .acquire => 1
  | .locked => 2
  | .holdover => 3

/-- The units' lines of fault class TIME_REF come from the switch (15 R394). -/
def timeUnit : Nat := unitCode 0 0

/-! ## Frequency (16 R414) -/

/-- A frequency correction that the spec does not state, within SLEW_PPM (log entry 7). -/
def steer (s : State) : State :=
  let f := takeFree s
  let lim := f.2.time.cfg.slewPpm * 1000
  withTime (fun t => { t with ratePpb := Int.ofNat (f.1.toNat % (2 * lim + 1)) - Int.ofNat lim }) f.2

/-! ## Measurements (16 R413-R415) -/

/-- Thyme reaches LOCKED: TIME_REF drops. -/
def lockThyme (s : State) : State := dropLine 32 timeUnit (withTime (fun t => { t with state := .locked }) s)

/-- The states that a measurement leads to. -/
def thymeNext (off : Int) (s : State) : State :=
  match s.time.state with
  | .acquire => if off.natAbs ≤ 50 then lockThyme s else s
  | .locked => if 1000 < off.natAbs then withTime (fun t => { t with state := .acquire }) s else steer s
  | _ => s

/-- A measured offset: slewed away up to 1 µs, stepped beyond it, or while a step is pending, or by SET, whatever its
size (16 R414, R415, R417). The step of a SET at a whole second of Thyme keeps its amount (log entry 46). -/
def thymeMeasure (off : Int) (bySet : Bool) (s : State) : State :=
  let steps := bySet || decide (1000 < off.natAbs) || s.time.stepPending.isSome
  if s.time.stepAfter ≠ 0 && !bySet then thymeNext off (withTime (fun t => { t with offset := off }) s)
  else thymeNext off (withTime (fun t => { t with
    offset := off, stepPending := if steps then some off else none, slewLeft := if steps then 0 else off, stepAfter := 0 }) s)

/-! ## Sources (16 R410, R411, R413) -/

def srcValid (t : Thyme) (k : Nat) : Bool := decide (1 ≤ k) && decide (k ≤ 3) && t.valid.getLsbD (k - 1)

/-- The order of the sources that this switch may select: the manager switch never selects FABRIC. -/
def srcOrder (s : State) : List Nat :=
  [s.time.cfg.prio0, s.time.cfg.prio1, s.time.cfg.prio2].filter (fun k => k != 0 && !(k == 3 && s.glb.mgrSel))

/-- The first valid source of the order. -/
def firstValid (s : State) : Option Nat := (srcOrder s).find? (srcValid s.time)

/-- The rank of a source; one that is not in the order ranks last. -/
def srcRank (s : State) (k : Nat) : Nat := ((srcOrder s).findIdx? (fun x => x == k)).getD 3

/-- Select a source: an edge on line 480, and on 483 from HOLDOVER; Thyme is in ACQUIRE (16 R411, R413). -/
def selectSrc (k : Nat) (s : State) : State :=
  let back := s.time.state == .holdover
  let s1 := eventEdge 480 (withTime (fun t => { t with source := k, state := .acquire, slewLeft := 0 }) s)
  if back then eventEdge 483 s1 else s1

/-- The selected source is lost and none is valid (16 R413, R416). -/
def holdover (s : State) : State :=
  let e := errNow s.time
  let s1 := steer (withTime (fun t => { t with
    state := .holdover, source := 0, stepPending := none, stepAfter := 0, slewLeft := 0, holdStart := t.localNs, holdErr := e,
    holdovers := sat64 t.holdovers }) s)
  assertLine 32 timeUnit none none (eventEdge 481 (eventEdge 480 s1))

/-- Choose among the valid sources: at once without a selected one, and after 10 s of validity in place of one that ranks
below (16 R411). -/
def reselect (s : State) : State :=
  match firstValid s with
  | none => s
  | some k =>
    if s.time.source = 0 then selectSrc k s
    else if srcRank s k < srcRank s s.time.source
        && decide (10 * second ≤ sinceNs s.time.localNs (tget 0 s.time.validSince k)) then selectSrc k s
    else s

/-- A source becomes valid. -/
def gainSrc (k : Nat) (s : State) : State :=
  if srcValid s.time k then s
  else withTime (fun t => { t with
    valid := t.valid ||| (1#3 <<< (k - 1)), validSince := tput 0 t.validSince k t.localNs }) s

/-- A source is lost (16 R410, R413). -/
def loseSrc (k : Nat) (s : State) : State :=
  let s1 := withTime (fun t => { t with
    valid := t.valid &&& ~~~(1#3 <<< (k - 1)), validSince := tput 0 t.validSince k 0 }) s
  if k = 0 ∨ s.time.source ≠ k then s1
  else match firstValid s1 with
    | some j => selectSrc j s1
    | none => holdover s1

/-- A source loses its reference: no PPS_IN edge in 1.5 s, unanswered exchanges, a peer that is gone (16 R410). -/
def sourceLost (k : Nat) (s : State) : State :=
  if !(srcValid s.time k) then s
  else loseSrc k (withTime (fun t => if k = 3 then { t with goodSyncs := 0 } else { t with goodEdges := 0 }) s)

def execSourceLost (kind : Nat) (s : State) : Out := inUnit "time source" kind 4 (.next (sourceLost kind s))

/-- TIME_FREQ_IN is absent for 10 µs or outside ±100 ppm (16 R410). -/
def execTimeFreqInLoss (s : State) : Out := .next (loseSrc 1 (withTime (fun t => { t with freqOk := false }) s))

/-! ## PPS_IN (16 R410, R417, R418) -/

/-- The offset that an edge at compensated Thyme time `e` shows: from the armed second, or from the nearest one. -/
def ppsOffset (e : Nat) (armed : Option Nat) : Int :=
  match armed with
  | some n => Int.ofNat (n * second) - Int.ofNat e
  | none => Int.ofNat ((e + second / 2) / second * second) - Int.ofNat e

/-- A PPS source is selected. -/
def ppsSelected (t : Thyme) : Bool := t.source == 1 || t.source == 2

/-- An edge within 10 µs of 1 s after the last one. -/
def edgeGood (t : Thyme) : Bool :=
  let d := sinceNs t.localNs t.ppsInLocal
  decide (second - 10000 ≤ d) && decide (d ≤ second + 10000)

/-- A PPS_IN edge is timestamped, counts toward validity, and measures the offset of a selected PPS source. -/
def ppsIn (freqOk : Bool) (s : State) : State :=
  let e := s.time.now - s.time.cfg.ppsInCompNs
  let s1 := withTime (fun t => { t with
    goodEdges := if edgeGood t then min 4 (t.goodEdges + 1) else 1
    ppsInLast := e, ppsInLocal := t.localNs, freqOk := freqOk }) s
  let s2 := if 4 ≤ s1.time.goodEdges then gainSrc 2 s1 else s1
  let s3 := if 4 ≤ s1.time.goodEdges && freqOk && s.glb.timeRef != 0 then gainSrc 1 s2 else s2
  let s4 := reselect (if freqOk then s3 else loseSrc 1 s3)
  if ppsSelected s4.time then
    thymeMeasure (ppsOffset e s4.time.setArmed) s4.time.setArmed.isSome s4 |> withTime (fun t => { t with setArmed := none })
  else s4

def execPpsIn (freqOk : Bool) (s : State) : Out := .next (ppsIn freqOk s)

/-! ## Steps and pulses (16 R415, R417, R419; 09 R262) -/

/-- Thyme has reached a whole second of `n` nanoseconds within the last tick of the local time base. -/
def atSecond (n : Nat) : Bool := decide (n % second < 2)

/-- Every egress with a gate list realigns: its gates are closed for the guard band before the first cycle start of the
stepped time, where the list starts at entry 0; the cycle in progress runs on by elapsed time, `d` being the step (09 R262). -/
def realignAll (d : Int) : List (Nat × Egress) → State → State
  | [], s => s
  | (e, x) :: rest, s =>
    realignAll d rest <|
      if x.gcl.enable then
        let s1 := setEgress e { x with realignAt := some (cycleStart x.gcl (s.time.now + guardNs s e)), gclShift := x.gclShift + d } s
        refresh e { s1 with sched := { s1.sched with realign := satAdd 64 s1.sched.realign 1 } }
      else s

/-- PPS_OUT starts a pulse. -/
def startPulse (s : State) : State :=
  if s.time.cfg.ppsOutEn then emit (.pin .ppsOut true) (withTime (fun t => { t with ppsOutLast := t.now, ppsHigh := true }) s) else s

/-- The instant of a pending step (16 R415). -/
def stepNow (t : Thyme) (d : Int) : Bool :=
  decide (t.ppsOutLast + second / 2 ≤ t.now) && decide (t.stepAfter ≤ t.now) && atSecond ((Int.ofNat t.now + d).toNat)

/-- A pending step is applied at its instant (16 R415, R417). -/
def thymeStep (s : State) : State :=
  match s.time.stepPending with
  | none => s
  | some d =>
    if !(stepNow s.time d) then s
    else
      let s1 := withTime (fun t => { t with
        now := (Int.ofNat t.now + d).toNat % 2 ^ 64, subNs := 0, stepPending := none, slewLeft := 0, steps := sat64 t.steps
        setArmed := if t.stepAfter = 0 then t.setArmed else none, stepAfter := 0 }) s
      eventEdge 482 (realignAll d s1.sched.egress (startPulse s1))

def execThymeStep (s : State) : Out := .next (thymeStep s)

/-- A pulse at a whole second of Thyme, unless a step is pending (16 R415, R419). -/
def execPpsOutPulse (s : State) : Out :=
  .next (if s.time.stepPending.isNone && atSecond s.time.now then startPulse s else s)

/-! ## FABRIC exchanges (16 R412) -/

/-- The link toward the manager switch that this switch uses now. -/
def fabricLink (s : State) : Option Nat := linkToward s s.obl.mgrSwitch

/-- A worker sends a REQ to its peer; five unanswered ones in a row lose FABRIC (16 R410, R412). -/
def syncExchange (s : State) : State :=
  if s.glb.mgrSel then s
  else
    let s1 := if s.time.missedSyncs = 0 then s else withTime (fun t => { t with goodSyncs := 0 }) s
    let s2 := if 5 ≤ s1.time.missedSyncs then sourceLost 3 s1 else s1
    match fabricLink s2 with
    | none => s2
    | some l =>
      let t := s2.time
      bypassOn l (getLink s2 l).peerSwitch (.timeReq t.syncSeq t.now (thymeCode t.state) (errNow t))
        (withTime (fun t => { t with syncSeq := (t.syncSeq + 1) % 65536, missedSyncs := t.missedSyncs + 1 }) s2)

def execSyncExchange (s : State) : Out := .next (syncExchange s)

/-- A REQ arrives on link `l` and is answered, in every state (16 R412). -/
def timeReq (l src seq : Nat) (s : State) : State :=
  bypassOn l src (.timeRsp seq s.time.now (thymeCode s.time.state) (errNow s.time) s.time.now) s

def execTimeReq (l src : Nat) (_tx : Word) (seq : Nat) (s : State) : Out :=
  inUnit "link" l Config.links (inUnit "switch" src 32 (.next (timeReq l src seq s)))

/-- The offset of an exchange (16 R412). -/
def syncOffset (t1 t2 t3 t4 : Word) : Int := Int.tdiv ((t2 - t1).toInt - (t4 - t3).toInt) 2

/-- An exchange that counts toward validity: answered within 1 ms, with a round trip below 100 µs, by a peer that is not
in FREE (16 R410). -/
def syncGood (t1 t2 t3 t4 : Word) (state : Nat) : Bool :=
  decide ((t4 - t1).toInt ≤ 1000000) && decide ((t4 - t1).toInt - (t3 - t2).toInt < 100000) && state != 0

/-- A RSP arrives: the exchange counts, and measures the offset of a selected FABRIC (16 R410-R414). -/
def timeRsp (seq : Nat) (t1 t2 t3 t4 : Word) (state err : Nat) (s : State) : State :=
  if s.glb.mgrSel || seq != (s.time.syncSeq + 65535) % 65536 || s.time.missedSyncs = 0 then s
  else
    let ok := syncGood t1 t2 t3 t4 state
    let s1 := withTime (fun t => { t with
      missedSyncs := 0, goodSyncs := if ok then min 4 (t.goodSyncs + 1) else 0, peerErr := err % 2 ^ 32 }) s
    if state = 0 then sourceLost 3 s1
    else
      let s2 := reselect (if 4 ≤ s1.time.goodSyncs then gainSrc 3 s1 else s1)
      if s2.time.source = 3 then thymeMeasure (syncOffset t1 t2 t3 t4) false s2 else s2

def execTimeRsp (seq : Nat) (t1 t2 t3 t4 : Word) (state err : Nat) (s : State) : Out :=
  .next (timeRsp seq t1 t2 t3 t4 state err s)

/-! ## TIME_CONFIG (16 R417, R420) -/

/-- The settings of TIME_CONFIG. -/
def timeCfgOf (d : Desc) : TimeCfg :=
  { prio0 := fld d.arg0 1 0, prio1 := fld d.arg0 3 2, prio2 := fld d.arg0 5 4, slewPpm := used d.arg0 13 8 1 50,
    syncMs := used d.arg0 25 16 1 1000, holdPpb := used d.arg0 47 32 1 65535, ppsOutEn := bit d.arg0 48,
    ppsInFall := bit d.arg0 49, ppsWidthUs := used d.arg1 17 0 1 250000, ppsInCompNs := fld d.arg1 47 32,
    utcOffset := BitVec.ofNat 16 (fld d.arg3 31 16) }

def timeClamps (d : Desc) : List FieldClamp :=
  argClamps d [(0, 13, 8, 1, 50), (0, 25, 16, 1, 1000), (0, 47, 32, 1, 65535), (1, 17, 0, 1, 250000)]

/-- New settings apply; a selected source that is not in the order any more is lost (16 R411, R420). -/
def applyTimeCfg (d : Desc) (s : State) : State :=
  let s1 := withTime (fun t => { t with cfg := timeCfgOf d }) s
  if s1.time.source ≠ 0 && !((srcOrder s1).contains s1.time.source)
  then (match firstValid s1 with
    | some j => selectSrc j s1
    | none => holdover s1)
  else reselect s1

def timeConfigBody (c : SeqCmd) (s : State) : CmdOut := .done 0 (timeClamps c.desc) (applyTimeCfg c.desc s)

def noSet (d : Desc) : Bool := !(bit d.arg3 0)
def hasSet (d : Desc) : Bool := bit d.arg3 0

def execTimeConfig (seq : Nat) (s : State) : Out := .next (runOp 0xA003 noSet true timeConfigBody seq s)

/-- Arm a seconds count: for the next PPS_IN edge, or, if no PPS source is selected, as a step at the next whole second of
Thyme at least 0.5 s away (16 R417). -/
def armSet (n : Nat) (s : State) : State :=
  if ppsSelected s.time then withTime (fun t => { t with setArmed := some n }) s
  else
    let w := ceilDiv (s.time.now + second / 2) second * second
    withTime (fun t => { t with
      setArmed := some n, stepAfter := w, slewLeft := 0, stepPending := some (Int.ofNat (n * second % 2 ^ 64) - Int.ofNat w) }) s

def setBody (c : SeqCmd) (s : State) : CmdOut :=
  .done 0 (timeClamps c.desc) (armSet c.desc.arg2.toNat (applyTimeCfg c.desc s))

def execSet (seq : Nat) (s : State) : Out := .next (runOp 0xA003 hasSet true setBody seq s)

end Sys2Proof.Machine
end

