-- ==== Sys2Proof/Machine/Resets.lean ====
section
/-! DEFINITION. Warm reset, cold reset and bring-up (01 R38-R42, R469; 02 R48, R70, R78; 17 R425, R471-R473; 18 R448-R451;
and the reset rules of the other chapters). -/

namespace Sys2Proof.Machine

/-- Apply `f` for each number of a list, in order. -/
def forEach (f : Nat → State → State) : List Nat → State → State
  | [], s => s
  | n :: ns, s => forEach f ns (f n s)

/-! ## What a warm reset ends (01 R469, step 3) -/

/-- Commands whose state change has begun: a table's OBJ_COMMIT, DETACH, VF_DESTROY, UNIT_RETIRE and UNIT_RETURN that
have been checked (02 R70). -/
def cmdBegun (c : SeqCmd) : Bool :=
  c.stage == .waiting && [4, 0x3001, 0x8002, 0xA001, 0xA002].contains c.desc.opcode.toNat

/-- Every other command is discarded without a completion, and with it the scan that it waited for (02 R70). -/
def discardCmds (s : State) : State :=
  let lanes := tmapAll Lane.reset (fun x => { x with scan := none }) (tkeys s.port.lanes) s.port.lanes
  { s with cmd := { s.cmd with inflight := s.cmd.inflight.filter cmdBegun }, port := { s.port with lanes := lanes } }

/-- A response that waits at its requester's port is forwarded as it is (03 R79). -/
def staysQueued (t : Txn) : Bool := decide (t.egress < 112) && isRsp t

/-- Every queued transaction that is ended. -/
def insideTxns (s : State) : List Txn := ((List.range Config.egresses).flatMap (queuedAt s)).filter (fun t => !(staysQueued t))

/-- Held red requests leave their policers. -/
def dropHelds : List HeldReq → State → State
  | [], s => s
  | h :: hs, s => dropHelds hs (dropHeld h.txn.egress [h] s)

/-- Requests that wait before their queue end, and give back the cells that they held. -/
def endParked : List Stamped → State → State
  | [], s => s
  | x :: xs, s =>
    let g := giveCells x s
    endParked xs (stampDec x (endDown x.req g.2))

/-- The requests that wait for a map-cache fetch, a window reload or a line of a migrating page. -/
def parkedReqs (s : State) : List Stamped :=
  s.win.fills ++ (s.win.hosts.map (fun e => e.2.waiting)).flatten
    ++ ((s.move.migs.filterMap (fun e => e.2.map (·.waiting))).flatten).map (·.req)

/-- Nobody waits there any more. -/
def unpark (s : State) : State :=
  { s with
    win := { s.win with
      fills := [], hosts := tmapAll HostSpace.reset (fun x => { x with waiting := [] }) (tkeys s.win.hosts) s.win.hosts }
    move := { s.move with
      migs := tmapAll none (fun x => x.map (fun m => { m with waiting := [] })) (tkeys s.move.migs) s.move.migs } }

/-- The transaction that holds a line ends: one that had answered its requester has its effect, another leaves the entry
as it is (06 R187). No request is left for which the line could be reserved. -/
def endLine (dla : Nat) (s : State) : State :=
  let x := getLine s dla
  match x.txn with
  | none => if x.rsv then putLine dla { x with rsv := false, rsvSlot := 0 } s else s
  | some t =>
    let y := if t.phase == .ack || t.phase == .done then afterTxn (getDomain s (dlaDomain dla)) t x else x
    putLine dla { y with txn := none, rsv := false, rsvSlot := 0, lost := false }
      (if t.kind == .evict then dropLine 17 (dirUnit dla) s else s)

/-- The walks of DETACH commands, which complete, end: their hosts hold the lines no more (02 R70; 06 R167; log entry 48). -/
def endWalks : List Walk → State → State
  | [], s => s
  | w :: ws, s => endWalks ws (putLine w.dla (evictHolder (getDomain s (dlaDomain w.dla)) w.part (getLine s w.dla)) s)

/-- The home holds nothing any more, and its cache has been written back (06 R187). -/
def endHome (s : State) : State :=
  withDir (fun d => { d with waiters := [], fills := [], expander := [], cached := [], walks := [], notices := [], snoopsHere := [] })
    (endWalks s.dir.walks (forEach endLine (tkeys s.dir.lines) s))

/-- Jobs that are left end now: running ones with CANCELLED, queued ones without a record (08 R248). -/
def endJobs : List Job → State → State
  | [], s => s
  | j :: js, s =>
    let s1 := dropLines j.id s
    endJobs js (match j.kind with
      | .copyPage _ => dropJob j.id s1
      | .capture => dropJob j.id s1
      | _ => if (jobMover s j.id).isSome then cancelJob j.id s1 else dropJob j.id s1)

/-- A migration that is left ends (08 R248). -/
def endMigration (k : Nat) (s : State) : State := undoDone k (settled k (swapCommit k s))

/-- Messages that wait for their flows end; their sources treat this switch's links as broken (01 R469; 10 R311). -/
def endHeldMsgs : List HeldMsg → State → State
  | [], s => s
  | h :: hs, s => endHeldMsgs hs (takeHeld h (freeCells h.link h.msg s))

/-- Transactions still inside the switch end as toward a port that has gone down; PORT_DOWN is not raised
(01 R469, step 3). -/
def endInside (s : State) : State :=
  let s1 := dropHelds s.sched.held (discardTxns (insideTxns s) s)
  let s2 := endParked (parkedReqs s1) (unpark s1)
  let s3 := endHome (endWaitsOf (s2.gh.waits.filter (fun w => w.done.isNone)) s2)
  endHeldMsgs s3.obl.heldMsgs s3

/-! ## Commands that complete (02 R70) -/

/-- Banks that are relocating are empty now (04 R125). -/
def relocateAll : Nat → State → State
  | 0, s => s
  | n + 1, s => relocateAll n (relocationDone s)

/-- A command whose state change has begun completes (02 R70; log entry 48). -/
def endBegun (c : SeqCmd) (s : State) : State :=
  match c.desc.opcode.toNat with
  | 4 => commitDone c.seq s
  | 0x3001 => detachEnd c s
  | 0x8002 => destroyGoes c.seq s
  | 0xA001 => unitOut (unitOf c) s
  | _ => unitIn (unitOf c) (unitJoin (unitOf c) s)

/-- Complete the commands listed that have not completed meanwhile. -/
def endBegunAll : List SeqCmd → State → State
  | [], s => s
  | c :: cs, s => endBegunAll cs (if (findCmd s c.seq).isSome then endBegun c s else s)

/-- A coalescer that has collected sends its message (13 R362; log entry 49). -/
def fireDue (v : Nat) (s : State) : State := if 0 < (getVec s v).collected then fireVec v s else s

/-- Steps 2 and 3 as the 10 ms end: transactions, commands, jobs and migrations that are left, and due messages
(01 R469; 02 R70; 06 R187; 08 R248; 13 R362). -/
def drainRest (s : State) : State :=
  let s1 := endInside (discardCmds s)
  let s2 := endJobs (allJobs s1) s1
  let s3 := endBegunAll s2.cmd.inflight (relocateAll s2.gh.relocQ.length s2)
  let s4 := undoMigs J_CANCELLED (undoable s3 (fun _ => true)) s3
  let s5 := forEach endMigration (tkeys s4.move.migs) s4
  forEach fireDue (tkeys s5.evt.vec) s5

/-! ## Links (10 R311; 11 R316, R326, R329) -/

/-- A link goes DOWN for the reset; what it still held is gone, and it trains FRESH afterwards. -/
def linkWarm (l : Nat) (s : State) : State :=
  let s1 := dropPartial l (List.range 4) (discardTxns (queuedAt s (112 + l)) s)
  let s2 := setLink l { getLink s1 l with
    unacked := [], bunacked := [], bwait := [], partUnits := [], bypassParts := [], replaying := 0 } s1
  linkDown l s2

/-- Locks of this switch's ports are broken (11 R326). -/
def breakLocks : List Nat → State → State
  | [], s => s
  | p :: ps, s => breakLocks ps (breakLock p s)

/-- No switch is reachable: flow counters start again, and INTx wires of other switches read as deasserted. -/
def linksWarm (s : State) : State :=
  let s1 := forEach linkWarm (List.range Config.links) s
  let s2 := forEach (fun w s => dropWires w s.stw.wireSrc s) (List.range 32) s1
  let s3 := { s2 with
    obl := { s2.obl with
      reach := 0, txFlows := [], resend := [], fwdOut := []
      routes := tmapAll RouteEnt.reset (fun r => { r with usingAlt := false }) (tkeys s2.obl.routes) s2.obl.routes }
    stw := { s2.stw with
      npwOut := [], links := tmapAll StwLink.reset (fun x => { x with npwDelayed := [] }) (tkeys s2.stw.links) s2.stw.links } }
  breakLocks (tkeys s3.port.ports) s3

/-! ## The reset is applied (01 R469, step 5) -/

/-- A running slot restarts as SPRIG_START without KEEP; queued proposals go without log records (07 R203). -/
def slotWarm (k : Nat) (s : State) : State :=
  let s1 := setSlot k { getSlot s k with props := [] } s
  if slotLive (getSlot s k) && !(getSlot s k).retired then startAndCheck k s1 else s1

/-- A mover after the reset: idle, or out of service as before (08 R248; 15 R404). -/
def moverWarm (m : Nat) (s : State) : State :=
  let x := getMover s m
  let st := match x.state with
    | .retired => x.state
    | .selfTest => x.state
    | _ => .idle
  dropLine 22 (unitCode 4 m) (setMover m { x with state := st, job := none, lines := [], grantBytes := 0 } s)

/-- A full bucket (09 R271). -/
def refill (now : Nat) (x : Shaper) : Shaper := { x with tokens := Int.ofNat (x.burst * 1000), last := now }

/-- Virtual times and tags are 0, and buckets are full (09 R254, R271). -/
def schedWarm (s : State) : State :=
  let now := s.time.localNs
  let d := s.sched
  let fq := fun (x : SchedQ) => { x with start := 0, finish := 0, active := false, shaper := refill now x.shaper }
  let fp := fun (p : PolicerReg) => { p with tc := p.cbs * 1000, tp := p.pbs * 1000, last := now }
  { s with sched := { d with
      egress := tmapAll Egress.reset (fun x => { x with vtime := 0, shaper := refill now x.shaper }) (tkeys d.egress) d.egress
      queues := tmapAll SchedQ.reset fq (tkeys d.queues) d.queues
      policers := tmapAll PolicerReg.reset fp (tkeys d.policers) d.policers
      vfShapers := tmapAll Shaper.reset (refill now) (tkeys d.vfShapers) d.vfShapers } }

/-- A VF with an object: its rings are disabled and RESET_SEEN is set (12 R348). -/
def vfWarm (x : Vf) : Vf :=
  if vfExists x then
    { x with resetSeen := true, ring := { x.ring with enable := false }, evq := { x.evq with enable := false } }
  else x

/-- Rings are disabled, staging copies discarded, credits 0, virtual times and buckets as at reset, IDE keys zeroized, sprigs
restarted, and the marker appended; everything else is kept (02 R66, R70; 05 R156; 07 R203; 08 R248; 09 R271; 12 R348;
15 R399; 17 R433). -/
def warmApply (src : Nat) (s : State) : State :=
  let s1 := zeroize (schedWarm (discardStaged s))
  let s2 := { s1 with
    glb := { s1.glb with warmSeen := true, warm := .none }
    cmd := { s1.cmd with
      ring0 := { s1.cmd.ring0 with enable := false }, ring1 := { s1.cmd.ring1 with enable := false } }
    vf := { s1.vf with vfs := tmapAll Vf.reset vfWarm (tkeys s1.vf.vfs) s1.vf.vfs }
    win := { s1.win with
      hosts := tmapAll HostSpace.reset (fun x => { x with stageVf := [] }) (tkeys s1.win.hosts) s1.win.hosts }
    move := { s1.move with
      classes := tmapAll MoveClass.reset (fun x => { x with credit := [] }) (tkeys s1.move.classes) s1.move.classes }
    sage := { s1.sage with forwarded := [] } }
  let s3 := forEach slotWarm (tkeys s2.sage.slots) (forEach moverWarm (tkeys s2.move.movers) s2)
  resetMarker 2 src (forEach (fun k s => dropLine 23 (unitCode 8 k) s) (List.range 16) s3)

/-- The replay buffers of every link are empty (10 R311). -/
def replayEmpty (s : State) : Bool :=
  (List.range Config.links).all (fun l => (getLink s l).unacked.isEmpty && (getLink s l).bunacked.isEmpty)

/-- The drain interval ends: what is left ends, and the reset runs to its end once the replay buffers of the links are empty, or
their 1 ms is over (01 R469, steps 3 to 6; 10 R311; log entry 48). -/
def drainEnd (s : State) : State :=
  match s.glb.warm with
  | .drain src =>
    let s1 := drainRest s
    if replayEmpty s1 then warmApply src (linksWarm s1) else withGlb (fun g => { g with warm := .links src }) s1
  | .links src => warmApply src (linksWarm s)
  | _ => s

def execWarmResetDrainEnd (s : State) : Out := .next (drainEnd s)

/-! ## Cold reset (01 R38, R39; 18 R448, R449) -/

/-- A channel at cold reset: its pins are what they are, its gate is off and PERST# asserted (01 R38; 14 R388). -/
def chanCold (x : Channel) : Channel :=
  let y := { Channel.reset with longLow := x.longLow, shortLow := x.shortLow, wake := x.wake, button := x.button }
  { y with state := unseatedState y }

/-- The pins that a cold reset drives: slot gates off, slot PERST# low, attention indicators off. -/
def chanPinsCold (c : Nat) (s : State) : State :=
  let x := getChan s c
  let s1 := if x.gate then emit (.pin (.slotGate c) false) s else s
  let s2 := if x.state == .test then emit (.pin (.slotTest c) false) s1 else s1
  let s3 := if perstOn x then s2 else emit (.pin (.slotPerstN c) false) s2
  if x.attn = 0 then s3 else emit (.pin (.attnInd c) false) s3

/-- PORTnnn_PERST_N of a downstream port whose link was up goes low (18 R457). -/
def portPinCold (p : Nat) (s : State) : State :=
  let x := getPort s p
  if x.cfg.role % 2 = 1 && x.linkUp then emit (.pin (.portPerstN p) false) s else s

/-- THERMTRIP_N is released (18 R444). -/
def tripPinCold (s : State) : State := if s.glb.thermTrip then emit (.pin .thermtripN true) s else s

/-- An image commit that is cut off leaves its slot without a record (17 R427). -/
def cutCommit (s : State) : State :=
  match s.sec.flashQ with
  | op :: _ => if op.kind == .imageCommit then flashErase (otherSlot s + 0x3FF000) 4096 s else s
  | [] => s

/-- The switch as it stands in reset: everything at its reset value but what the board and the flash hold. -/
def resetState (s : State) : State :=
  let r := State.reset
  let ports := tmapAll Port.reset (fun x => { Port.reset with perstIn := x.perstIn }) (tkeys s.port.ports) s.port.ports
  { r with
    pending := s.pending, out := s.out, free := s.free
    glb := { r.glb with revision := s.glb.revision, variant := s.glb.variant, inReset := true, railsOk := s.glb.railsOk }
    sec := { r.sec with flash := (cutCommit s).sec.flash, keyStore := s.sec.keyStore }
    slot := { r.slot with ch := tmapAll Channel.reset chanCold (tkeys s.slot.ch) s.slot.ch }
    port := { r.port with ports := ports } }

/-- Thyme keeps running with the reset settings; with a source it enters HOLDOVER, and a HOLDOVER that lasts holds its line
again (16 R409; 15 R394). -/
def coldTime (t : Thyme) (s : State) : State :=
  let s1 := { s with time := { t with cfg := TimeCfg.reset } }
  if t.source ≠ 0 then holdover s1
  else if t.state == .holdover then assertLine 32 timeUnit none none s1 else s1

/-- Cold reset from `src`: 0 the pin or a rail, 1 GLB_RESET (15 R396, R399). -/
def coldReset (src : Nat) (s : State) : State :=
  let s1 := tripPinCold (forEach portPinCold (tkeys s.port.ports) (forEach chanPinsCold (tkeys s.slot.ch) s))
  let s2 := resetState s1
  coldTime s.time (resetMarker 1 src { s2 with
    flt := { s2.flt with hist := s.flt.hist, histHead := s.flt.histHead }, time := s.time })

/-- The AON rails come up: nothing is kept but what the board and the flash hold (15 R399; 16 R409; 18 R448). -/
def powerOn (s : State) : State := resetState s

/-- A cold reset's causes; in cold reset only the loss of power does more (18 R448, R450). -/
def coldCause (cause : ColdCause) (s : State) : State :=
  match cause with
  | .powerOn => powerOn s
  | .pin => if s.glb.inReset then s else coldReset 0 s
  | .request => if s.glb.inReset then s else coldReset 1 s

def execColdReset (cause : ColdCause) (s : State) : Out := .next (coldCause cause s)

/-- A monitor sees a rail below 90 % of its minimum for 10 µs (18 R448). -/
def supplyTrip (s : State) : State :=
  let s1 := if s.glb.inReset then s else coldReset 0 s
  withGlb (fun g => { g with railsOk := false }) s1

def execSupplyMonitorTrip (_rail : Rail) (s : State) : Out := .next (supplyTrip s)

/-- The straps are latched; PB0_BIFUR 5-7 latches as 4 and TIME_REF 3 as 2, reported with SOURCE 5 (18 R451; 02 R47). -/
def latchStraps (mgrSel : Bool) (bifur timeRef id : Nat) (s : State) : State :=
  let b := bifur % 8
  let t := timeRef % 4
  let s1 := withGlb (fun g => { g with
    railsOk := true, inReset := false, bringUp := .phase 1, mgrSel := mgrSel, pb0Bifur := min b 4, timeRef := min t 2,
    switchId := id % 32 }) s
  let s2 := { s1 with port := { s1.port with bifur := tput 0 s1.port.bifur 0 (min b 4) } }
  let s3 := if b ≤ 4 then s2 else clamp ⟨5, 3, 1, 0, w64 8, w64 b, w64 4⟩ s2
  if t ≤ 2 then s3 else clamp ⟨5, 5, 4, 0, w64 8, w64 t, w64 2⟩ s3

/-- RESET_N rises with every rail in range: bring-up starts, and VDD_CORE is requested at 800 mV (01 R39; 17 R439;
18 R448). -/
def coldRelease (mgrSel : Bool) (bifur timeRef id : Nat) (s : State) : State :=
  if s.glb.inReset then emit (.avs 800) (latchStraps mgrSel bifur timeRef id s) else s

def execColdResetRelease (mgrSel : Bool) (pb0Bifur timeRef switchId : Nat) (s : State) : Out :=
  .next (coldRelease mgrSel pb0Bifur timeRef switchId s)

/-! ## The causes of a reset (01 R469; 02 R47, R48; 15 R394; 18 R450) -/

/-- KEY of GLB_RESET is right. -/
def keyOk (v : Word) : Bool := fld v 15 0 == 0xA5C3

/-- A write to GLB_RESET as it acts on WARM. -/
def resetWarm (v : Word) (s : State) : State :=
  if !(keyOk v) then discard .pf 0 0x48 v s
  else if bit v 16 && !(bit v 17) then warmStart 1 s else s

def execGlbResetWarm (v : Word) (s : State) : Out := .next (resetWarm v s)

/-- A write to GLB_RESET as it acts on COLD, which wins over WARM. -/
def resetCold (v : Word) (s : State) : State :=
  if !(keyOk v) then discard .pf 0 0x48 v s
  else if bit v 17 then coldCause .request s else s

def execGlbResetCold (v : Word) (s : State) : Out := .next (resetCold v s)

/-- A falling edge on WRST_N. -/
def execWrstN (s : State) : Out := .next (warmStart 0 s)

/-- A management core faults or fails its watchdog: MC_FAULT is held until the warm reset completes. -/
def mcFault (core : Nat) (s : State) : State :=
  if s.glb.inReset then s else warmStart 2 (assertLine 23 (unitCode 8 core) none none s)

def execMcFault (core : Nat) (s : State) : Out := inUnit "management core" core 16 (.next (mcFault core s))

/-! ## Bring-up (01 R39-R42; 17 R425) -/

/-- The image has failed: READY and IMAGE_FAIL are set together, and every port but those of PB0 stays down (01 R41). -/
def imageFails (s : State) : State :=
  let s1 := holdLinks (List.range Config.links) (holdPorts ((allPorts s).filter (fun p => decide (4 ≤ p))) s)
  assertLine 33 (unitCode 0 0) none none (withGlb (fun g => { g with ready := true, imageFail := true, bringUp := .failed }) s1)

/-- The bring-up goes on with phase `n`. -/
def nextPhase (n : Nat) (s : State) : State := withGlb (fun g => { g with bringUp := .phase n }) s

/-- The OTP minimum: how many of its 64 fuses are blown (17 R424). -/
def fuseCount (w : Word) : Nat := ((List.range 64).filter (fun i => w.getLsbD i)).length

/-- OTP is read in phase 1. -/
def phaseOtp (b : BootInfo) (s : State) : State :=
  withSec (fun x => { x with svMin := fuseCount b.svFuses, keyRevoked := b.keyRevoked, debugFuse := b.debugFuse }) s

/-- In phase 2 a created port of PB0 takes R473's settings and is released to train. -/
def releasePb0 (p : Nat) (s : State) : State :=
  setPort p { getPort s p with cfg := ⟨2, 6, true, false, false⟩, held := false } s

/-- The image of a slot verifies with the OTP that phase 1 read (17 R424). -/
def slotVerifies (s : State) (x : SlotImage) : Bool := imageVerifies s.sec.keyRevoked s.sec.svMin x.hdr

/-- SEQ of a slot; one without its marker has SEQ 0 (17 R423). -/
def slotSeq (x : SlotImage) : Nat := x.seq.getD 0 % 2 ^ 32

/-- Phase 4 tries the slot with the higher SEQ first, slot A when they are equal: 0 is slot A, 1 slot B (17 R425). -/
def bootChoice (b : BootInfo) (s : State) : Option Nat :=
  let va := slotVerifies s b.slotA
  let vb := slotVerifies s b.slotB
  if slotSeq b.slotA < slotSeq b.slotB then (if vb then some 1 else if va then some 0 else none)
  else (if va then some 0 else if vb then some 1 else none)

/-- The end of phase 4: the image that boots, or none (01 R41; 17 R424, R425, R440); the image that boots sets the GPIOs, which
are inputs with their pull-downs until then (18 R454). -/
def phaseImage (b : BootInfo) (s : State) : State :=
  let s1 := withSec (fun x => { x with slotValid := BitVec.ofNat 2 (b2n (slotVerifies s b.slotA) + 2 * b2n (slotVerifies s b.slotB)) }) s
  match bootChoice b s with
  | none => imageFails s1
  | some k =>
    let i := if k = 0 then b.slotA else b.slotB
    let o := if k = 0 then b.slotB else b.slotA
    nextPhase 5 (withSec (fun x => { x with
      bootSlot := k, bootSeq := slotSeq i, otherSeq := slotSeq o, svBooted := imgVersion i.hdr % 128
      advance := imgAdvance i.hdr }) (withGlb (fun g => { g with gpioIn := b.gpioIn, gpioPull := b.gpioPull }) s1))

/-- A unit that fails its self-test of bring-up stays retired and raises UNIT_SELFTEST (15 R404). -/
def bootRetire (k n : Nat) (s : State) : State :=
  let u := unitCode k n
  let s1 := pulse 36 u none none (withFlt (fun x => { x with retired := insNat x.retired u }) s)
  match k with
  | 1 => setLane n { getLane s1 n with retired := true } s1
  | 2 => setPort n { getPort s1 n with retired := true } s1
  | 3 => if s1.gh.retired.contains n then s1
         else settleSlice n { s1 with gh := { s1.gh with retired := insNat s1.gh.retired n, free := s1.gh.free - 6144 } }
  | 4 => settleGroup n (setMover n { getMover s1 n with state := .retired } s1)
  | 5 => setSlot n { getSlot s1 n with retired := true } s1
  | 6 => setLink n { getLink s1 n with retired := true } s1
  | _ => chanOut n (setChan n { getChan s1 n with retired := true } s1)

/-- The retirable units of a list that exist (15 R401). -/
def bootUnit (u : Nat × Nat) : Bool :=
  decide (u.2 < [0, 512, 112, 256, 64, 32, 8, 32].getD u.1 0)

def bootRetires : List (Nat × Nat) → State → State
  | [], s => s
  | u :: us, s => bootRetires us (if bootUnit u then bootRetire u.1 u.2 s else s)

/-- The image's default placement sprig is loaded into slot 0, which runs with TRIG_EN 0x17 and BUDGET_US 50,000; every
other slot is stopped (07 R203, R217). -/
def loadDefaultSprig (b : BootInfo) (s : State) : State :=
  if b.sprigCode.isEmpty then s
  else
    let x := { getSlot s 0 with
      code := b.sprigCode.take 2048, dataImage := b.sprigData.take 8192, trigEn := 0x17, budgetUs := 50000
      epoch := s.cmd.ownEpoch }
    if x.retired then setSlot 0 { x with state := .stopped, wasRunning := true } s else startAndCheck 0 (setSlot 0 x s)

/-- The end of phase 5: the self-tests, the default sprig, and the engines of the created ports run (01 R39; 03 R100; 15
R404). -/
def phaseTest (b : BootInfo) (s : State) : State :=
  if !b.selfTestOk then imageFails s
  else
    let s1 := loadDefaultSprig b (bootRetires b.failedUnits s)
    nextPhase 6 (forEach (fun p s => setPort p { getPort s p with engRunning := true } s) (allPorts s1) s1)

/-- The core routes of the firmware: line, vector, active (13 R357; 17 R471). -/
def coreRoutes : List (Nat × Nat × Bool) → State → State
  | [], s => s
  | (n, v, on) :: rest, s =>
    coreRoutes rest { s with evt := { s.evt with
      route := tput LineRoute.reset s.evt.route n { tget LineRoute.reset s.evt.route n with coreVector := v, coreEn := on } } }

/-- The core coalescers of the firmware: vector, COUNT_MAX, TIME_HALF_US (13 R363; 17 R471). -/
def coreVecs : List (Nat × Nat × Nat) → State → State
  | [], s => s
  | (v, n, t) :: rest, s => coreVecs rest { s with evt := { s.evt with cvec := tput (1, 1) s.evt.cvec v (n, t) } }

/-- The overlay copy with the higher SEQ among those whose CRC-32 is good, copy 0 when they are equal (17 R436). -/
def overlayChoice (b : BootInfo) : Option OverlayCopy :=
  if b.overlay0.crcOk && (!b.overlay1.crcOk || decide (b.overlay1.seq ≤ b.overlay0.seq)) then some b.overlay0
  else if b.overlay1.crcOk then some b.overlay1
  else none

/-- The user overlay is loaded; with no good copy and one that is not erased CAL_OVERLAY is raised (17 R436). -/
def loadOverlay (b : BootInfo) (s : State) : State :=
  match overlayChoice b with
  | some o =>
    withSec (fun x => { x with
      calOverlay := (o.entries.take 1024).foldl (fun t e => tins t e.1 e.2) [], calInUse := true, calSeq := o.seq % 2 ^ 32 }) s
  | none =>
    if b.overlay0.erased && b.overlay1.erased then s
    else assertLine 34 (unitCode 0 0) none none s

/-! ### The configuration script (17 R471-R473) -/

/-- The script's descriptor as a command: its note is the descriptor's offset in the section. -/
def scriptCmd (i : ScriptItem) : SeqCmd := ⟨0, .script, 0, i.desc, .ready, i.offset, 0⟩

/-- The opcodes that the script may use. -/
def scriptOps : List Nat :=
  [0x1001, 0x1002, 0x1003, 0x2001, 0x2002, 0x2004, 4, 0x3001, 0x3002, 0x3003, 0x4001, 0x4002, 0x4004, 0x4005, 0x5003, 0x6001,
   0x6002, 0x6003, 0x6004, 0x7001, 0x7005, 0x7006, 0x8003, 0x9001, 0x9004, 0xA003]

/-- The descriptor is one that the script may hold: CAP_CONFIG on filters, DIR_SHARE_SET with DEFINE. -/
def scriptMay (d : Desc) : Bool :=
  scriptOps.contains d.opcode.toNat && (d.opcode != 0x1003#16 || capIsFilter d) && (d.opcode != 0x3001#16 || opIs 0 d)

/-- DEFINE in the script: the domain stands at version 1 (17 R472). -/
def scriptDefine (data : ReadData) (c : SeqCmd) (s : State) : CmdOut :=
  match defineBody data [] c s with
  | .done r ks s' => .done r ks (setVer (objKey 4 (objIndex c.desc.objectId % 64)) 1 s')
  | x => x

/-- OBL_CONFIG by KIND. -/
def oblBody (c : SeqCmd) (s : State) : CmdOut :=
  match objIndex c.desc.objectId / 2 ^ 48 with
  | 0 => linkCfgBody c s
  | 1 => routeCfgBody c s
  | _ => fabricCfgLocal c s

/-- The part that each opcode plays in the script. -/
def scriptBody (i : ScriptItem) (c : SeqCmd) (s : State) : CmdOut :=
  match c.desc.opcode.toNat with
  | 0x1001 => rtBody i.data c s
  | 0x1002 => threshBody c s
  | 0x1003 => capFilterBody c s
  | 0x2001 => winBody c s
  | 0x2002 => winLockBody c s
  | 0x2004 => mapBody i.data c s
  | 4 => commitBody false c s
  | 0x3001 => scriptDefine i.data c s
  | 0x3002 => partitionLocal c s
  | 0x3003 => if quotaIsHome c.desc then quotaHomeBody c s else quotaDomainBody c s
  | 0x4001 => loadBody i.data i.data2 c s
  | 0x4002 => startBody c s
  | 0x4004 => limitsBody c s
  | 0x4005 => telBody c s
  | 0x5003 => classBody c s
  | 0x6001 => queueBody c s
  | 0x6002 => policerBody c s
  | 0x6003 => shaperBody c s
  | 0x6004 => gclBody i.data c s
  | 0x7001 => portConfigBody c s
  | 0x7005 => oblBody c s
  | 0x7006 => stwBody c s
  | 0x8003 => if kindIs 0 c.desc then vecLineBody c s else vecVectorBody c s
  | 0x9001 => if objIndex c.desc.objectId / 2 ^ 48 = 0 then policySetBody c s else thermalBody c s
  | 0x9004 => treadsBody c s
  | _ => if hasSet c.desc then setBody c s else timeConfigBody c s

/-- The failing code of a descriptor that does not run at all (02 R61; 17 R471; log entry 52). -/
def scriptCode (d : Desc) (s : State) : Nat :=
  let o := d.objectId
  if !(scriptMay d) then BAD_OPCODE
  else if objSwitch o ≠ s.glb.switchId then NOT_PERMITTED
  else if !(objExists s (objClass o) (objIndex o) && opActs d.opcode.toNat (objClass o) (objIndex o)) then BAD_OBJECT
  else 0

/-- A descriptor that fails makes no change and is reported (17 R472). -/
def scriptFail (i : ScriptItem) (code : Nat) (s : State) : State := clamp ⟨4, 0xFF, 0xFF, 0, w64 i.offset, w64 code, 0⟩ s

/-- Run one descriptor of the script. A table that it commits is stamped at once: no traffic runs yet. -/
def scriptItem (i : ScriptItem) (s : State) : State :=
  let c := scriptCmd i
  let code := scriptCode i.desc s
  if code ≠ 0 then scriptFail i code s
  else match scriptBody i c s with
    | .fail code _ => scriptFail i code s
    | .done _ ks s' => reportClamps c ks s'
    | .wait ks s' => reportClamps c ks (stampNew c s')

def runScript : List ScriptItem → State → State
  | [], s => s
  | i :: is, s => runScript is (scriptItem i s)

/-- After the script, tables hold generation 1 with their committed contents, and staging copies are discarded
(17 R472). -/
def scriptEnd (s : State) : State :=
  let one := fun (x : HostSpace) => { x with
    win := GenTable.reset (genCurrent ⟨0, 0, []⟩ x.win), map := GenTable.reset (genCurrent [] x.map) }
  let s1 := discardStaged s
  { s1 with
    gh := { s1.gh with route := GenTable.reset (genCurrent ⟨[], []⟩ s1.gh.route) }
    win := { s1.win with hosts := tmapAll HostSpace.reset one (tkeys s1.win.hosts) s1.win.hosts } }

/-- Ports of PB1-PB27 are released to train in phase 7. -/
def releaseRest (s : State) : State :=
  forEach (fun p s => setPort p { getPort s p with held := false } s) ((allPorts s).filter (fun p => decide (4 ≤ p))) s

/-- Phase 7 starts: firmware's routes, the overlay, the script, and the other ports (01 R39); the lanes beyond PB0 have their
places in the ports and links as configured (03 R102). -/
def phaseConfig (b : BootInfo) (s : State) : State :=
  nextPhase 7 (releaseRest (relabel (List.range' 16 496) (scriptEnd (runScript b.script (loadOverlay b (coreVecs b.coreVecs (coreRoutes b.coreRoutes s)))))))

/-- The end of phase 8: READY, telemetry epoch 0, and the OTP minimum advances (01 R39; 07 R195; 17 R425). -/
def phaseReady (b : BootInfo) (s : State) : State :=
  if !b.selfTestOk then imageFails s
  else
    let s1 := withGlb (fun g => { g with ready := true, bringUp := .up }) s
    let s2 := withSec (fun x => { x with svMin := if x.advance then max x.svMin x.svBooted else x.svMin }) s1
    { s2 with tel := { s2.tel with epoch := 0, epochStart := s2.time.localNs } }

/-- A bring-up phase ends and the next one starts (01 R39). -/
def bringUpPhase (b : BootInfo) (s : State) : State :=
  if s.glb.inReset then s
  else match s.glb.bringUp with
    | .phase 1 => nextPhase 2 (phaseOtp b s)
    | .phase 2 => nextPhase 3 (forEach releasePb0 (blockPorts s 0) (relabel (blockLanes 0) s))
    | .phase 3 => nextPhase 4 s
    | .phase 4 => phaseImage b s
    | .phase 5 => phaseTest b s
    | .phase 6 => phaseConfig b s
    | .phase 7 => nextPhase 8 s
    | .phase 8 => phaseReady b s
    | _ => s

def execBringUpPhase (boot : BootInfo) (s : State) : Out := .next (bringUpPhase boot s)

end Sys2Proof.Machine
end

