-- ==== Sys2Proof/Machine/Reads.lean ====
section
/-! DEFINITION. What each register reads as: the register tables of the spec, block by block, as lists of offsets
and values (02 R47-R50, 03 R102 and R103, 04 R135 and R136, 05 R160, 06 R188, 07 R219 and R220, 08 R250, 09 R272,
10 R312, 11 R331, 12 R349 and R350, 13 R363, 14 R389, 15 R406, 16 R421, 17 R440 and R441). An offset that no table
lists is unoccupied (00 R9). A read changes nothing, so no command of the block is a plain read; which offsets are
occupied decides what a write does. -/

namespace Sys2Proof.Machine

/-! ## Tables of registers -/

/-- A register table: offsets and values. -/
abbrev RegTable := List (Nat × Word)

/-- The value at an offset of a table, none where no register lies. -/
def pick (l : RegTable) (off : Nat) : Option Word := (l.find? (fun e => e.1 == off)).map (·.2)

/-- An array of `n` register groups of `stride` bytes from `base`: the index and the offset within the group. -/
def groupAt (off base stride n : Nat) : Option (Nat × Nat) :=
  if base ≤ off ∧ off < base + stride * n then some ((off - base) / stride, (off - base) % stride) else none

/-- A register of an array with one register every 8 bytes. -/
def each (off base n : Nat) (f : Nat → Word) : Option Word :=
  (groupAt off base 8 n).bind (fun g => if g.2 = 0 then some (f g.1) else none)

/-- A register of an array of groups. -/
def group (off base stride n : Nat) (f : Nat → RegTable) : Option Word :=
  (groupAt off base stride n).bind (fun g => pick (f g.1) g.2)

/-- The 64-bit two's complement of an integer. -/
def word (x : Int) : Word := BitVec.ofInt 64 x

/-- Bits [64r + 63 : 64r] of a set of numbers. -/
def bitsAt (r : Nat) (p : Nat → Bool) : Word := w64 (maskOf ((List.range 64).filter (fun j => p (64 * r + j))))

/-! ## GLB and CMD (02 R47-R50) -/

def revCode : Revision → Nat
  | .a0 => 0
  | .a1 => 1
  | .b0 => 0x10

/-- A CTRL register of a record ring (02 R47, 07 R219). -/
def recCtrlWord (g : RecRing) : Word := pack [(b2n g.enable, 0), (g.sizeLog2, 1), (g.vector, 16), (b2n g.vectorEn, 32)]

def glbRead (s : State) (off : Nat) : Option Word :=
  let g := s.glb
  pick [(0x00, pack [(0x9600, 0), (revCode g.revision, 16), (if g.variant == .c24 then 24 else 48, 24)]),
    (0x08, pack [(b2n g.mgrSel, 0), (g.pb0Bifur, 1), (g.timeRef, 4), (g.switchId, 8)]),
    (0x10, pack [(b2n g.ready, 0), (b2n g.imageFail, 1), (b2n g.debugOpened, 2), (b2n (isManager s), 3), (b2n g.warmSeen, 4)]),
    (0x18, w64 g.clampCount), (0x20, w64 (g.rpt.base * 4096)), (0x28, recCtrlWord g.rpt), (0x30, w64 g.rpt.produced),
    (0x38, w64 g.rpt.consumed), (0x40, w64 g.rpt.lost), (0x48, 0), (0x50, g.scratch)] off

/-- A ring's CTRL register (02 R49, 12 R349). -/
def ringCtrlWord (g : CmdRing) : Word := pack [(b2n g.enable, 0), (g.sizeLog2, 1), (g.vector, 16), (b2n g.vectorEn, 32)]

/-- A ring's STATE register: FETCHED and ACTIVE. -/
def ringStateWord (s : State) (r : RingId) : Word := pack [((getRing s r).fetched, 0), (b2n (ringActive s r), 32)]

def mringTable (s : State) (m : Nat) : RegTable :=
  let g := getRing s (.mring m)
  [(0x00, w64 (g.base * 4096)), (0x08, ringCtrlWord g), (0x10, w64 (g.cplBase * 4096)), (0x18, pack [(g.cplSizeLog2, 1)]),
   (0x20, ringStateWord s (.mring m)), (0x28, w64 g.written)]

def cmdRead (s : State) (off : Nat) : Option Word :=
  (group off 0 0x80 2 (mringTable s)).or (pick [(0x100, w64 s.cmd.ownEpoch), (0x108, w64 s.cmd.seqNext),
    (0x110, w64 (s.cmd.inflight.filter (fun c => c.origin != .relay)).length), (0x118, w64 s.cmd.staleCount), (0x120, w64 s.cmd.conflictCount)] off)

/-! ## PORT and LANE (03 R102, R103) -/

def portTable (s : State) (p : Nat) : RegTable :=
  let x := getPort s p
  let c := x.cfg
  [(0x00, pack [(b2n x.linkUp, 0), (x.rate, 1), (x.width, 4), (b2n x.flit, 9), (c.role, 10), (x.proto, 12), (b2n x.held, 14),
      (b2n x.degraded, 15), (x.pwr, 16), (x.capRate, 20)]),
   (0x08, pack [(c.role, 0), (c.maxRate, 2), (b2n c.enable, 5), (b2n c.sris, 6), (b2n c.l0pAuto, 7), (tget 0 s.port.bifur (p / 4), 8)]),
   (0x10, w64 x.fecCorr), (0x18, w64 x.crcErr), (0x20, w64 x.replay), (0x28, w64 x.retrain), (0x30, w64 x.eqFail),
   (0x38, pack [(b2n x.engRunning, 0), (b2n x.engRestarting, 1), (x.engRestarts, 32)])]

/-- The ports that the bifurcation does not use are unoccupied (00 R16). -/
def portRead (s : State) (off : Nat) : Option Word :=
  group off 0 0x2000 Config.ports (fun p => if portCreated s p then portTable s p else [])

/-- LANE_TEST_CTRL (03 R102). -/
def laneTestWord (t : LaneTest) : Word :=
  pack [(t.pattern, 0), (b2n t.genEn, 3), (b2n t.chkEn, 4), (t.loop, 5), (t.rate, 7), (t.injMode, 12), (t.injLog2, 14)]

/-- LANE_STATUS; a lane that carries no traffic shows the rate of its test only (03 R102). -/
def laneStatusWord (s : State) (l : Nat) : Word :=
  let x := getLane s l
  let on := laneInService s l
  let testing := decide (x.test.pattern ≠ 0) || decide (x.test.loop ≠ 0)
  pack [(b2n on, 0), (b2n x.signal, 1), (b2n (on && x.symbolLock), 2), (b2n (on && x.polarity), 3), (x.logical, 4),
    (if on then x.rate else if testing then x.test.rate else 0, 8), (b2n x.prbsLock, 12), (b2n (loopCapable l), 13),
    (b2n x.retired, 14), (b2n (x.scan.isSome || x.margining), 15)]

def laneRead (s : State) (off : Nat) : Option Word :=
  group off 0 0x400 Config.lanes (fun l =>
    let x := getLane s l
    [(0x00, laneStatusWord s l), (0x08, laneTestWord x.test), (0x10, w64 x.prbsErrs), (0x18, w64 x.prbsBits),
     (0x20, w64 x.prbsInjected), (0x28, pack [(x.txPreset, 0), (x.ctle, 4), (x.dfe1.toNat, 12)])])

/-! ## GH and CAP (04 R135, R136) -/

/-- CURRENT and RESIDENT of a versioned table. -/
def genWord {α : Type} (t : GenTable α) : Word := pack [(t.current, 0), (t.slots.length, 32)]

/-- GH_RT_SLOTs. -/
def genSlotWord (t : GenTable Routes) (i : Nat) : Word :=
  match t.slots.find? (fun e => e.1 == i) with
  | some e => pack [(e.2.gen, 0), (1, 32), (e.2.inflight, 40)]
  | none => 0

/-- The cells of the shared pool: those of the banks in service without the reserves (04 R109, R125, R127). -/
def ghSharedSize (s : State) : Nat := 1376256 - 6144 * s.gh.retired.length

def ghRead (s : State) (off : Nat) : Option Word :=
  let g := s.gh
  let inSvc := (List.range Config.banks).filter (bankInService s)
  (pick [(0x00, pack [(inSvc.length, 0), (b2n (!(g.relocQ.isEmpty)), 16), (g.relocQ.headD 0, 24)]), (0x08, w64 (ghSharedSize s)),
    (0x10, pack [(tobits g.free 21, 0)]), (0x18, genWord g.route), (0x40, w64 g.eccCorr), (0x48, w64 g.eccUncorr), (0x50, w64 g.pairRewrite),
    (0x58, pack [(g.ceLimit, 0), (b2n g.writeFaultRetire, 16)]),
    (0x60, pack ((List.range 16).map (fun c => (tget 6 g.kCode c, 4 * c))))] off).or
  ((each off 0x20 4 (genSlotWord g.route)).or
  ((each off 0x80 4 (fun r => bitsAt r (bankInService s))).or
  ((each off 0x10000 (Config.egresses * 16) (fun k => pack [(tget 0 g.sharedOcc k, 0), (tget 0 g.reserveOcc k, 21)])).or
  (each off 0x20000 Config.banks (fun b => w64 (tget 0 g.bankCe b))))))

def capRead (s : State) (off : Nat) : Option Word :=
  let c := s.cap
  (pick [(0x00, pack [(b2n c.enable, 0), (maskOf ((List.range 8).filter (fun f => (getFilter s f).enable)), 8), (c.buffer.length, 16)]),
    (0x08, w64 c.head), (0x10, w64 c.tail), (0x18, w64 c.lost)] off).or
  (each off 0x40 8 (fun f => w64 (getFilter s f).count))

/-! ## WIN and DIR (05 R160, 06 R188) -/

def winTable (s : State) (h : Nat) : RegTable :=
  let x := getHost s h
  let w := winNow s h
  [(0x00, genWord x.win), (0x08, w64 (w.aperBase * 2097152)), (0x10, w64 w.aper2m), (0x18, genWord x.map),
   (0x20, w64 x.denyCount), (0x28, w64 x.denyAddr),
   (0x30, pack [(b2n x.denyValid, 0), (x.denyLevel, 1), (x.denyType, 3), (b2n x.denyPartial, 6), (x.denySource, 8), (x.denyEpoch, 32)]),
   (0x38, w64 x.nomapCount)]

def winRead (s : State) (off : Nat) : Option Word :=
  (pick [(0x00, w64 s.win.hit), (0x08, w64 s.win.miss), (0x10, w64 (leafFree s)), (0x18, w64 (stageFree s))] off).or
  (group off 0x1000 0x40 Config.hosts (winTable s))

/-- Entries of the directory store that are not in I, of all domains or of one (06 R188). -/
def dirEntries (s : State) (p : Nat → Bool) : Nat := (s.dir.lines.filter (fun e => e.2.state != .I && p (dlaDomain e.1))).length

def domTable (s : State) (d : Nat) : RegTable :=
  let x := getDomain s d
  [(0x00, pack [(b2n x.defined, 0), (b2n (decide (0 < groupLog2 x)), 1), (groupLog2 x, 2), (x.participants.length, 16),
      (x.homes.length, 32), (x.granLog2, 40)]),
   (0x08, w64 x.ways), (0x10, w64 (dirEntries s (· == d))), (0x18, w64 (s.dir.attach.filter (fun a => a.2.2 == d)).length)]

def dirRead (s : State) (off : Nat) : Option Word :=
  let x := s.dir
  (pick [(0x00, w64 x.hit), (0x08, w64 x.miss), (0x10, w64 (dirEntries s (fun _ => true))), (0x18, w64 x.evict), (0x20, w64 x.bisnp),
    (0x28, pack [(x.waiters.length, 0), (x.high, 16)]), (0x30, w64 x.reserved),
    (0x38, pack [(x.agePriority, 0), (x.ageReserve, 8), (x.snoopTo, 16)]), (0x40, w64 x.eccCorr), (0x48, w64 x.eccUncorr),
    (0x50, w64 x.suspect.length), (0x58, w64 x.strayWb), (0x60, w64 x.snoopTimeouts), (0x68, w64 x.attach.length),
    (0x2080, w64 x.cutSel)] off).or
  ((group off 0x1000 0x20 Config.domains (domTable s)).or
  (each off 0x2000 16 (fun k => bitsAt k (fun p => (getDomain s x.cutSel).cut.contains p))))

/-! ## SAGE and TEL (07 R219, R220) -/

def slotRunCode : SlotRun → Nat
  | .empty => 0
  | .stopped => 1
  | .running => 2
  | .waiting => 3
  | .faulted => 4

/-- COMMIT_LIMITS_SET's ARG0 and ARG1 as applied (07 R215). -/
def limits0 (x : Limits) : Word :=
  pack [(x.migPerEpoch, 0), (x.migConcurrent, 16), (x.dwellEpochs, 24), (x.knobPerEpoch, 32), (x.span, 36), (x.allow.toNat, 40)]
def limits1 (x : Limits) : Word := pack [(x.propPerEpoch, 0), (x.migClass, 16)]

/-- Registers of one Sage slot but its mailboxes. -/
def slotTable (s : State) (k : Nat) : RegTable :=
  let x := getSlot s k
  [(0x00, pack [(slotRunCode x.state, 0), (x.trigEn, 8), (x.restarts, 16), (x.faultPc, 32), (x.faultCause, 48)]),
   (0x08, w64 x.epoch), (0x10, pack [(8 * x.code.length, 0), (8 * x.dataImage.length, 16), (x.budgetUs, 44)]), (0x18, w64 x.posted),
   (0x20, pack [(x.missedEpochs, 0), (x.resLost, 16), (x.hotLost, 32), (x.eccCorr, 48)]),
   (0xC0, pack [(b2n x.inFull, 1), (b2n x.outFull, 2)])]

/-- Registers of one Sage slot. -/
def slotRead (s : State) (k off : Nat) : Option Word :=
  (pick (slotTable s k) off).or ((each off 0x40 8 (fun w => tget 0 (getSlot s k).mbIn w)).or
    (each off 0x80 8 (fun w => tget 0 (getSlot s k).mbOut w)))

def sageRead (s : State) (off : Nat) : Option Word :=
  let x := s.sage
  (pick [(0x00, bitsAt 0 (fun k => slotLive (getSlot s k))), (0x08, w64 (x.plog.base * 4096)), (0x10, recCtrlWord x.plog),
    (0x18, w64 x.plog.produced), (0x20, w64 x.plog.consumed), (0x28, w64 x.plog.lost), (0x30, limits0 x.limits), (0x38, limits1 x.limits),
    (0x40, w64 x.accepted), (0x48, w64 x.rejected), (0x50, w64 (propMigs s))] off).or
  ((groupAt off 0x1000 0x100 Config.sageSlots).bind (fun g => slotRead s g.1 g.2))

/-- TEL_CONFIG's ARG0 as applied (07 R198). -/
def telArg0 (x : TelCfg) : Word :=
  pack [(b2n x.enable, 0), (x.sampleLog2, 4), (x.epochMs, 16), (x.decayShift, 32), (x.hotThresh, 48)]

def telRead (s : State) (off : Nat) : Option Word :=
  let x := s.tel
  (pick [(0x00, pack [(b2n x.cfg.enable, 0), (x.epoch, 32)]), (0x08, telArg0 x.cfg), (0x10, x.cfg.hostEn), (0x18, w64 x.samples),
    (0x20, w64 x.dropped), (0x28, w64 x.evicts), (0x30, w64 x.hotPushed),
    (0x38, w64 (x.heat.filter (fun e => e.2.isSome)).length)] off).or
  (each off 0x1000 (Config.egresses * 4) (fun i => w64 (summaryWord (tget Summary.reset x.summary (i / 4)) (i % 4))))

/-! ## MOVE (08 R250) -/

/-- Lines of a job handed over are still in flight beside those of the job that follows (08 R236). -/
def handingOver (x : Mover) : Bool := x.lines.any (fun l => !l.left && (x.job.map (·.id)) != some l.job)

/-- STATE of a mover; it reads handing over while lines of the job that was handed over complete (log entry 74). -/
def moverCode (x : Mover) : Nat :=
  match x.state with
  | .idle => 0
  | .granted => if handingOver x then 2 else 1
  | .restarting => 3
  | .retired => 4
  | .selfTest => 5

def migCodeOf : MigState → Nat
  | .mark => 0
  | .fence => 1
  | .copy => 2
  | .swap => 3
  | .settle => 4
  | .undo => 5

/-- A mover is in service: neither retired, nor restarting, nor in its self-test. -/
def moverInService (x : Mover) : Bool := x.state == .idle || x.state == .granted

def classTable (s : State) (c : Nat) : RegTable :=
  let x := getClass s c
  let held := (List.range 8).foldl (fun a g => a + heldIn s c g) 0
  [(0x00, pack [(x.weight, 0), (x.burstLog2, 8), (x.marginLog2, 16), (x.maxMovers, 24), (x.groups.toNat, 32), (x.watchdogUs, 40)]),
   (0x08, pack [(queuedJobs x, 0), (held, 16), (b2n x.stuck, 24), (x.queueMax, 32)]), (0x10, w64 x.bytes), (0x18, w64 x.jobsDone)]
  ++ (List.range 8).map (fun g => (0x40 + 8 * g, word (creditOf x g)))

def moverTable (s : State) (m : Nat) : RegTable :=
  let x := getMover s m
  let copies : Bool := match x.job with
    | some j => (match j.kind with | .copyPage _ => true | _ => false)
    | none => false
  [(0x00, pack [(moverCode x, 0), (x.owner, 8), (b2n copies, 16), (((x.job.map (·.next)).getD 0), 24)]), (0x08, w64 x.restarts)]

def migTable (s : State) (k : Nat) : RegTable :=
  match getMig s k with
  | none => [(0x00, 0), (0x08, 0)]
  | some m => [(0x00, pack [(m.host, 0), (b2n m.huge, 6), (1, 7), (m.page, 12)]),
      (0x08, pack [(migCodeOf m.state, 0), (m.copied.length, 4), (m.destDid, 20), (m.revoked, 32)])]

def moveRead (s : State) (off : Nat) : Option Word :=
  let x := s.move
  let queued := x.classes.foldl (fun a e => a + queuedJobs e.2) 0
  (pick [(0x00, bitsAt 0 (fun m => moverInService (getMover s m))), (0x08, bitsAt 0 (fun m => (getMover s m).state == .granted)),
    (0x10, pack [(queued, 0), (Config.jobSlots - jobSlotsUsed s, 16)]), (0x18, w64 (x.migs.filter (fun e => e.2.isSome)).length),
    (0x20, w64 x.chunks.length), (0x28, w64 x.overflow), (0x30, w64 x.preempts), (0x38, w64 x.bursts), (0x40, w64 x.stalls),
    (0x48, w64 x.bytes), (0x50, w64 x.poolSel), (0x58, pack [(poolPages s x.poolSel, 0), (poolChunks s x.poolSel, 32)])] off).or
  ((group off 0x1000 0x80 Config.classes (classTable s)).or
  ((group off 0x4000 0x20 Config.movers (moverTable s)).or
  (group off 0x8000 0x10 Config.migrations (migTable s))))

/-! ## SCHED (09 R272) -/

/-- ENABLE, RATE and BURST of an egress shaper. -/
def shaperWord (x : Shaper) : Word := pack [(b2n x.enable, 0), (x.rate, 8), (x.burst, 32)]

def egressTable (s : State) (e : Nat) : RegTable :=
  let x := getEgress s e
  [(0x00, pack [(maskOf ((List.range 16).filter (selectable s e)), 0), ((gatesNow s e).toNat, 16), (b2n x.gcl.enable, 32),
      (b2n (realigning s e), 33), (x.gclEntry, 40), (guardNs s e, 48)]),
   (0x08, x.vtime), (0x10, pack [(x.sampleUs, 0), (x.depthLog2, 16), (x.delayLog2, 24), (x.samples, 32)]), (0x18, shaperWord x.shaper),
   (0x20, pack [(x.gcl.cycleNs, 0), (x.gcl.length, 32), (b2n x.gcl.enable, 48)]), (0x28, w64 x.gcl.baseTime),
   (0x30, w64 ((x.gclPending.map (·.2)).getD 0)), (0x38, 0)]

def schedQTable (s : State) (k : Nat) : RegTable :=
  let x := getSchedQ s k
  [(0x00, pack [(x.weight, 0), (b2n x.shaper.enable, 12), (x.shaper.rate, 14), (x.shaper.burst, 32)]), (0x08, w64 x.bytes),
   (0x10, x.finish), (0x18, w64 x.guardHits)]

/-- One register of histogram bins: i = 0-7 depth, 8-15 delay. -/
def histWord (x : SchedQ) (i : Nat) : Word :=
  let b := if i < 8 then x.depthBins else x.delayBins
  pack [(tget 0 b (2 * (i % 8)), 0), (tget 0 b (2 * (i % 8) + 1), 32)]

def policerTable (s : State) (p : Nat) : RegTable :=
  let x := getPolicer s p
  [(0x00, pack [(b2n x.enable, 0), (x.ingress, 1), (x.tcMask.toNat, 16)]), (0x08, pack [(x.cir, 0), (x.pir, 32)]),
   (0x10, pack [(x.cbs, 0), (x.pbs, 32)]), (0x18, w64 x.green), (0x20, w64 x.yellow), (0x28, w64 x.red)]

/-- Gate control lists, and their registers, exist for egresses 0-119 (09 R258). -/
def gclWord (s : State) (e i : Nat) : Word :=
  let x := tget (0#16, 1) (getEgress s e).gcl.entries i
  if i < (getEgress s e).gcl.length then pack [(x.1.toNat, 0), (x.2, 16)] else 0

def schedRead (s : State) (off : Nat) : Option Word :=
  (pick [(0x00, w64 s.sched.held.length), (0x08, w64 s.sched.realign)] off).or
  (((groupAt off 0x10000 0x400 Config.egresses).bind (fun g =>
      (pick (egressTable s g.1) g.2).or (group g.2 0x80 0x20 16 (fun q => schedQTable s (qkey g.1 q))))).or
  (((groupAt off 0x40000 0x80 (Config.egresses * 16)).bind (fun g =>
      each g.2 0 16 (histWord (getSchedQ s g.1)))).or
  ((group off 0x90000 0x30 Config.policers (policerTable s)).or
  (each off 0xC0000 (120 * 256) (fun k => gclWord s (k / 256) (k % 256))))))

/-! ## OBL and STW (10 R312, 11 R331) -/

def linkCode : LinkRun → Nat
  | .down => 0
  | .detect => 1
  | .align => 2
  | .equalize => 3
  | .identify => 4
  | .init => 5
  | .active => 6
  | .retrain => 7
  | .held => 8

/-- OBL_CONFIG's ARG0 as applied (10 R274). -/
def linkArg0 (c : LinkCfg) : Word :=
  pack [(b2n c.enable, 0), (b2n c.force56, 1), (b2n c.sleepEn, 2), (c.sleepUs, 8), (c.replay100ns, 16), (c.creditToUs, 32),
    (c.retrainReplays, 48), (c.retrainTries, 56)]

def linkTable (s : State) (l : Nat) : RegTable :=
  let x := getLink s l
  [(0x00, pack [(linkCode x.state, 0), (x.width, 4), (x.rate, 8), (b2n x.forerunner, 12), (b2n x.txAsleep, 13), (b2n x.rxAsleep, 14),
      (x.peerSwitch, 16), (x.peerLink, 21), (x.heldCause, 24), (b2n x.broken, 28)]),
   (0x08, linkArg0 x.cfg), (0x10, pack ((List.range 4).map (fun v => (x.limitsNext.getD v 0, 16 * v)))),
   (0x18, pack [(x.txNext, 0), (x.txAcked, 12), (x.rxExpect, 24), (x.unacked.length, 36)]),
   (0x20, pack [(x.btxNext, 0), (x.btxAcked, 8), (x.brxExpect, 16)])]
  ++ (List.range 4).map (fun v => (0x28 + 8 * v,
      pack [((getCredit x v).granted, 0), ((getCredit x v).consumed, 24), (b2n (congSeen s.time.localNs (getCredit x v)), 48)]))
  ++ (List.range 4).map (fun v => (0x48 + 8 * v, pack [((getCredit x v).adv, 0), (b2n (sendsCong s l v), 24)]))
  ++ [(0x68, w64 x.fecCorr), (0x70, w64 x.crcErr), (0x78, w64 x.replays), (0x80, w64 x.retrains), (0x88, w64 x.creditTo),
   (0x90, w64 x.failovers), (0x98, w64 x.defers), (0xA0, w64 x.sleeps), (0xA8, w64 x.flitsTx), (0xB0, w64 x.flitsRx)]

def oblRead (s : State) (off : Nat) : Option Word :=
  let x := s.obl
  (pick [(0x00, pack [(b2n x.mgrLost, 0), (b2n x.standbyEn, 1), (x.standbySwitch, 2), (b2n x.epochSettled, 7), (x.heartbeatUs, 16),
      (x.mgrLossMs, 32)]),
    (0x08, w64 x.reach.toNat), (0x10, w64 (x.fwdOut.foldl (fun a e => a + e.2) 0)), (0x18, w64 x.dup)] off).or
  ((each off 0x100 32 (fun w => pack [((getRouteEnt s w).primary, 0), ((getRouteEnt s w).alt, 8), (b2n (getRouteEnt s w).usingAlt, 16)])).or
  (group off 0x1000 0x100 Config.links (linkTable s)))

/-- STW_PLOCKp. -/
def plockWord (s : State) (p : Nat) : Word :=
  match (getPort s p).lock with
  | some o => pack [(1, 0), (o.1, 8), (o.2, 16)]
  | none => 0

def stwTable (s : State) (l : Nat) : RegTable :=
  let x := getStw s l
  let held := s.obl.heldMsgs.filter (fun h => h.link == l)
  [(0x00, pack [(x.npwMax, 0), (x.lockToMs, 16)]), (0x08, w64 (npwCells s l)),
   (0x10, pack [((held.filter (fun h => h.fenced)).length, 0), (x.fenceTotal, 32)]),
   (0x18, w64 (held.filter (fun h => !h.fenced)).length), (0x20, w64 x.npwWaits)]

def stwRead (s : State) (off : Nat) : Option Word :=
  let x := s.stw
  (pick [(0x00, w64 x.badMkind), (0x08, w64 x.restartEnded), (0x10, w64 x.lockBroken), (0x18, w64 x.sbSent), (0x20, w64 x.sbRecv)] off).or
  ((each off 0x800 Config.ports (plockWord s)).or (group off 0x1000 0x40 Config.links (stwTable s)))

/-! ## VF (12 R349, R350) -/

def vfCode : VfRun → Nat
  | .absent => 0
  | .uncreated => 1
  | .created => 2
  | .orphaned => 3
  | .destroying => 4

def vfTable (s : State) (v : Nat) : RegTable :=
  let x := getVf s v
  [(0x00, pack [(vfCode (vfShown s v), 0), (b2n x.flr, 3), (b2n x.ring.enable, 4), (x.host, 16)]),
   (0x08, if vfExists x then w64 x.instEpoch else 0),
   (0x10, pack [(x.vecBase, 0), (x.vecCount, 16), (x.cls, 24), (x.ringSlots, 32), (x.shaper.getD 0x3FF, 48)]), (0x18, w64 x.clamps)]

def vfBlockRead (s : State) (off : Nat) : Option Word :=
  let l := vfObjects s
  let sum := fun (f : Vf → Nat) => l.foldl (fun a e => a + f e.2) 0
  let x := getVf s s.vf.sel
  (pick [(0x00, w64 l.length), (0x08, w64 (Config.vectors - sum (·.vecCount))), (0x10, w64 (Config.ringSlots - sum (·.ringSlots))),
    (0x18, w64 (Config.vfStage - sum (·.mapStage))), (0x20, w64 (Config.shapers - sum (fun v => b2n v.shaper.isSome))),
    (0x28, w64 s.vf.instNext), (0x30, w64 s.vf.heatCapped), (0x1000, w64 s.vf.sel),
    (0x1008, pack [(b2n x.toVfFull, 1), (b2n x.toMgrFull, 2)])] off).or
  ((each off 0x1100 32 (fun w => tget 0 x.mbIn w)).or
  ((each off 0x1200 32 (fun w => tget 0 x.mbOut w)).or (group off 0x10000 0x20 Config.vfs (vfTable s))))

/-- The registers in BAR0 of VF `v` (12 R349). -/
def vfRead (s : State) (v off : Nat) : Option Word :=
  let x := getVf s v
  let g := x.ring
  let r := RingId.tenant v
  (pick [(0x00, pack [(v, 0), (x.host, 16), (x.vecCount, 24), (x.ringSlots, 32)]), (0x08, w64 x.instEpoch),
    (0x10, pack [(b2n x.resetSeen, 0), (b2n x.toMgrFull, 1), (b2n x.toVfFull, 2)]), (0x18, w64 x.clamps), (0x20, w64 (g.base * 4096)),
    (0x28, ringCtrlWord g), (0x30, w64 (g.cplBase * 4096)), (0x38, pack [(g.cplSizeLog2, 1)]), (0x40, w64 (x.evq.base * 4096)),
    (0x48, pack [(b2n x.evq.enable, 0), (x.evq.sizeLog2, 1), (x.evq.vector, 16), (b2n x.evq.vectorEn, 32)]), (0x50, ringStateWord s r),
    (0x58, w64 g.written), (0x60, w64 x.evq.produced), (0x68, w64 x.evq.lost)] off).or
  ((each off 0x100 32 (fun w => tget 0 x.mbOut w)).or (each off 0x200 32 (fun w => tget 0 x.mbIn w)))

/-! ## EVT (13 R363) -/

def routeWord (x : LineRoute) : Word := pack [(x.vector, 0), (b2n x.hostEn, 16), (x.coreVector, 24), (b2n x.coreEn, 32)]

def vecWord (x : Coalescer) : Word := pack [(x.countMax, 0), (x.timeHalfUs, 16), (x.collected, 32), (b2n x.heldMsg, 48)]

def evtRead (s : State) (off : Nat) : Option Word :=
  let x := s.evt
  (each off 0x0000 64 (fun r => tget 0 x.pend r)).or
  ((each off 0x0200 64 (fun r => tget (BitVec.allOnes 64) x.mask r)).or
  ((each off 0x0400 32 (fun r => tget 0 x.vfState r)).or
  ((each off 0x0500 32 (fun r => tget 0 x.vfMb r)).or
  ((pick [(0x0600, w64 x.sent)] off).or
  ((each off 0x1000 1024 (fun r => pack ((List.range 4).map (fun i => (tget 0 x.count (4 * r + i), 16 * i))))).or
  ((each off 0x4000 Config.lines (fun n => routeWord (tget LineRoute.reset x.route n))).or
  ((each off 0xC000 Config.vectors (fun v => vecWord (getVec s v))).or
  (each off 0x20000 256 (fun v => pack [((tget (1, 1) x.cvec v).1, 0), ((tget (1, 1) x.cvec v).2, 16)])))))))))

/-! ## SLOT (14 R389) -/

def chCode : ChState → Nat
  | .empty => 0
  | .seating => 1
  | .landing => 2
  | .waiting => 3
  | .test => 4
  | .inrush => 5
  | .on => 6
  | .stopping => 7
  | .tripped => 8
  | .retryWait => 9
  | .lockedOut => 10

def causeCode : Cause → Nat
  | .none => 0
  | .fast => 1
  | .tread => 2
  | .fetHot => 3
  | .inrushTimeout => 4
  | .busAbort => 5
  | .outShort => 6
  | .senseOpen => 7
  | .shuntReversed => 8
  | .busReversed => 9
  | .removed => 10
  | .offCmd => 11
  | .diodeFault => 12
  | .prsntMismatch => 13

/-- SLOT_POLICY_SET's arguments as applied (14 R367). -/
def policyWords (p : Policy) : List Word :=
  [pack [(p.port, 0), (b2n p.portValid, 7), (b2n p.autoRelease, 8), (b2n p.hostCtrl, 9), (b2n p.shortTest, 10), (b2n p.thermSrc, 11),
     (p.retries, 12), (p.backoff10ms, 16), (p.autoDelay10ms, 24), (p.inrushMs, 32), (p.rampMvMs, 48)],
   pack [(p.fast100ma, 0), (p.inrushLim, 16), (p.pauseMv, 32), (p.perstMs, 48)],
   pack [(p.shuntUohm, 0), (p.tfetMaxC, 16), (p.tambC, 24), (p.etaMilli, 32)]]

def treadWord (t : Tread) : Nat := t.ilim + t.tunit * 2 ^ 14 + t.tcount * 2 ^ 16

/-- Two 32-bit halves for each register of a list, from offset `base`. -/
def halves (base : Nat) (l : List Nat) : RegTable :=
  (List.range 4).map (fun a => (base + 8 * a, pack [(l.getD (2 * a) 0, 0), (l.getD (2 * a + 1) 0, 32)]))

def chanTable (s : State) (c : Nat) : RegTable :=
  let x := getChan s c
  [(0x00, pack [(chCode x.state, 0), (b2n x.longLow, 4), (b2n x.shortLow, 5), (b2n x.seated, 6), (b2n x.paused, 7), (b2n (perstOn x), 8),
      (b2n x.wake, 9), (b2n x.button, 10), (x.attn, 11), (x.retryCount, 13), (b2n x.thermFallback, 16), (x.busAborts, 20),
      (causeCode x.lastCause, 24)]),
   (0x08, pack [(tobits x.iMa 32, 0)]), (0x10, pack [(tobits x.voutMv 16, 0), (tobits x.vinMv 16, 16)]), (0x18, w64 x.powerMw),
   (0x20, w64 x.energyUj), (0x28, pack [(tobits (modelTemp x) 16, 0), (tobits x.tDiode 16, 16), (b2n x.diodeOk, 32)]),
   (0x30, pack [(causeCode x.tripCause, 0), (x.tripTread, 8), (x.tripPeak, 16)]), (0x38, w64 x.tripTime)]
  ++ (List.range 3).map (fun a => (0x40 + 8 * a, nth (policyWords x.policy) a))
  ++ [(0x58, pack [(x.r1, 0), (x.r2, 16), (x.r3, 32)]), (0x60, pack [(x.tau1, 0), (x.tau2, 20), (x.tau3, 40)])]
  ++ halves 0x80 (x.treads.map treadWord) ++ halves 0xA0 x.acc
  ++ [(0xC0, w64 x.trips), (0xC8, w64 x.busAbortTotal), (0xD0, w64 x.pauseUs)]

def slotBlockRead (s : State) (off : Nat) : Option Word :=
  (pick [(0x00, bitsAt 0 (fun c => (getChan s c).state == .on)), (0x08, w64 (inrushCount s)),
    (0x10, bitsAt 0 (fun c => (getChan s c).state == .lockedOut))] off).or
  (group off 0x1000 0x100 Config.channels (chanTable s))

/-! ## FLT and TIME (15 R396, R406; 16 R421) -/

/-- The words of a history slot (15 R396). -/
def histWords (e : HistEntry) : List Word :=
  [pack [(e.cls, 0), (b2n e.merged, 8), (b2n e.repeatSat, 9), (e.unit, 16), (e.repeats, 32), (e.seq, 48)], w64 e.time, e.detail0, e.detail1]

def fltRead (s : State) (off : Nat) : Option Word :=
  let x := s.flt
  (pick [(0x00, x.status), (0x08, fltLines s), (0x10, w64 x.merged), (0x18, w64 x.clearRefused), (0x20, w64 x.histHead),
    (0x28, pack [(b2n x.temp, 0), (b2n x.supply, 1), (b2n x.debug, 2)]), (0x30, w64 x.retired.length)] off).or
  ((each off 0x100 64 (fun k => w64 (tget 0 x.count k))).or
  (each off 0x1000 128 (fun i => nth (histWords (tget HistEntry.reset x.hist (i / 4))) (i % 4))))

/-- TIME_CONFIG's ARG0 and ARG1 as applied (16 R420). -/
def timeArg0 (c : TimeCfg) : Word :=
  pack [(c.prio0, 0), (c.prio1, 2), (c.prio2, 4), (c.slewPpm, 8), (c.syncMs, 16), (c.holdPpb, 32), (b2n c.ppsOutEn, 48), (b2n c.ppsInFall, 49)]
def timeArg1 (c : TimeCfg) : Word := pack [(c.ppsWidthUs, 0), (c.ppsInCompNs, 32)]

def timeRead (s : State) (off : Nat) : Option Word :=
  let t := s.time
  pick [(0x00, w64 t.now), (0x08, w64 t.localNs),
    (0x10, pack [(thymeCode t.state, 0), (t.source, 2), (t.valid.toNat, 4), (b2n t.stepPending.isSome, 8), (b2n t.setArmed.isSome, 9),
      (errNow t, 32)]),
    (0x18, word t.offset), (0x20, pack [(tobits t.ratePpb 32, 0)]), (0x28, timeArg0 t.cfg), (0x30, timeArg1 t.cfg),
    (0x38, w64 t.cfg.utcOffset.toNat), (0x40, w64 t.ppsInLast), (0x48, w64 t.ppsOutLast), (0x50, w64 t.steps),
    (0x58, w64 t.holdovers)] off

/-! ## SEC and PWR (17 R440, R441) -/

def secRead (s : State) (off : Nat) : Option Word :=
  let x := s.sec
  let busy := b2n (!(x.flashQ.isEmpty))
  (pick [(0x00, pack [(x.bootSlot, 0), (x.slotValid.toNat, 1), (x.keyRevoked.toNat, 3), (x.svMin, 8), (x.svBooted, 16), (x.debugFails, 24),
      (b2n x.debugLocked, 26), (busy, 27)]),
    (0x08, w64 x.bootSeq), (0x10, pack [(b2n x.calInUse, 0), (x.calOverlay.length, 2), (x.calSeq, 32)]), (0x18, w64 x.flashAddr),
    (0x20, pack [(busy, 8), (b2n x.flashErr, 9)]), (0x200, w64 x.keyed.length)] off).or
  (each off 0x100 32 (fun w => tget 0 x.flashBuf w))

/-- PWR_CFG. The spec places FIXED_MV in bits [49:40] and GUARD_KPPM in [55:48]: bits 49:48 read as a free value (log
entry 54). -/
def pwrCfgWord (s : State) : Word :=
  let p := s.pwr
  pack [(p.vminMv, 0), (p.vmaxMv, 16), (b2n p.fixed, 32), (p.fixedMv % 256, 40), (fld (Config.freeWord s.free) 1 0, 48),
    (p.guardKppm / 4, 50)]

def pwrRead (s : State) (off : Nat) : Option Word :=
  let p := s.pwr
  pick [(0x00, pack [(p.vddMv, 0), (p.targetMv, 16), (b2n p.avsOk, 32)]), (0x08, pwrCfgWord s),
    (0x10, pack [(p.rateMin, 0), (p.monitor, 32)]), (0x18, w64 p.avsErr), (0x20, w64 p.steps)] off

/-! ## The whole of BAR0 (00 R9, R13; 01 R41; 12 R333) -/

/-- A block of the management PF's BAR0 by its number, its base in MiB (00 R13). -/
def blockRead (s : State) (b off : Nat) : Option Word :=
  match b with
  | 0 => glbRead s off
  | 1 => cmdRead s off
  | 2 => portRead s off
  | 3 => laneRead s off
  | 4 => ghRead s off
  | 5 => capRead s off
  | 6 => winRead s off
  | 7 => dirRead s off
  | 8 => sageRead s off
  | 9 => moveRead s off
  | 10 => schedRead s off
  | 11 => oblRead s off
  | 12 => stwRead s off
  | 13 => vfBlockRead s off
  | 14 => evtRead s off
  | 15 => slotBlockRead s off
  | 16 => fltRead s off
  | 17 => timeRead s off
  | 18 => secRead s off
  | 19 => pwrRead s off
  | 20 => telRead s off
  | _ => none

/-- After a failed image only the GLB, SEC and FLT blocks are occupied (01 R41). -/
def blockLives (s : State) (b : Nat) : Bool := !(imageDead s) || b == 0 || b == 16 || b == 18

/-- The register at an offset of the management PF's BAR0; none where no register lies. -/
def pfRead (s : State) (off : Nat) : Option Word :=
  if blockLives s (off / 2 ^ 20) then blockRead s (off / 2 ^ 20) (off % 2 ^ 20) else none

/-- What an aligned 64-bit read of a register returns: zero where no register lies (00 R9), and for a VF that is being
destroyed (12 R333). -/
def readReg (s : State) (f : Fn) (off : Nat) : Word :=
  match f with
  | .pf => (pfRead s off).getD 0
  | .vf v => if vfOpen s v then (vfRead s v off).getD 0 else 0

/-- What a read of `n` bytes of a BAR returns: the register of BAR0 where the read is one aligned 64-bit word, and zero for a narrow or
unaligned read (00 R7) and for the doorbell pages of BAR2 (02 R53; 12 R344). -/
def readBar (s : State) (f : Fn) (bar off n : Nat) : Word := if bar = 0 && n = 8 && off % 8 = 0 then readReg s f off else 0

end Sys2Proof.Machine
end

