-- ==== Sys2Proof/Machine/Registers.lean ====
section
/-! DEFINITION. Writes to registers: an aligned 64-bit write to any offset of a BAR, and narrow or unaligned accesses
(00 R7-R12; 02 R47-R53, R72, R73; 12 R344, R345, R349, R350). A write to a read-only register has no effect and is
not reported (00 R10); a write where no register lies has no effect and is reported as a clamp (00 R9). -/

namespace Sys2Proof.Machine

/-! ## Accesses that have no effect (00 R7, R9, R10) -/

/-- A narrow or unaligned access: SOURCE 3 on a doorbell page, else 0 for a write and 1 for a read; a read returns zero (00 R7). -/
def narrowAccess (f : Fn) (bar off : Nat) (write : Bool) (v : Word) (s : State) : State :=
  let s1 := discard f (if bar = 2 then 3 else if write then 0 else 1) off (if write then v else 0) s
  if write then s1 else emit (.readReturns f 0) s1

/-- A write to an offset that has no behaviour: nothing where a register lies, else a clamp. -/
def plainWrite (f : Fn) (reg : Option Word) (off : Nat) (v : Word) (s : State) : State :=
  match reg with
  | some _ => s
  | none => discard f 0 off v s

/-! ## Writes to the blocks of BAR0 (the register tables of each chapter) -/

/-- A write to the BASE of a record ring: a change while ENABLE is 1 is a clamp (02 R48). -/
def recBaseWrite (g : RecRing) (put : RecRing → State → State) (off : Nat) (v : Word) (s : State) : State :=
  if g.enable then clampIf (fld v 63 12 != g.base) .pf off 63 12 (fld v 63 12) g.base s
  else put { g with base := fld v 63 12 } s

/-- A write to GLB_RESET: COLD wins over WARM (02 R47, R48). -/
def resetWrite (v : Word) (s : State) : State := if bit v 17 then resetCold v s else resetWarm v s

/-- Writes to GLB (02 R47). -/
def glbWrite (o : Nat) (v : Word) (s : State) : State :=
  if o = 0x10 then withGlb (fun g => { g with warmSeen := g.warmSeen && bit v 4 }) s
  else if o = 0x20 then recBaseWrite s.glb.rpt (fun g s => withGlb (fun x => { x with rpt := g }) s) 0x20 v s
  else if o = 0x28 then rptCtrlWrite v s
  else if o = 0x38 then rptTailWrite v s
  else if o = 0x48 then resetWrite v s
  else if o = 0x50 then withGlb (fun g => { g with scratch := v }) s
  else plainWrite .pf (glbRead s o) o v s

/-- Writes to CMD (02 R49). -/
def cmdWrite (o : Nat) (v : Word) (s : State) : State :=
  let r := RingId.mring (o / 0x80)
  if 0x100 ≤ o then plainWrite .pf (cmdRead s o) (0x100000 + o) v s
  else if o % 0x80 = 0x00 then ringBaseWrite r false v s
  else if o % 0x80 = 0x08 then ringCtrlWrite r v s
  else if o % 0x80 = 0x10 then ringBaseWrite r true v s
  else if o % 0x80 = 0x18 then ringCplCtrlWrite r v s
  else plainWrite .pf (cmdRead s o) (0x100000 + o) v s

/-- Writes to GH (04 R135). -/
def ghWrite (o : Nat) (v : Word) (s : State) : State :=
  if o = 0x58 then { s with gh := { s.gh with ceLimit := fld v 15 0, writeFaultRetire := bit v 16 } }
  else plainWrite .pf (ghRead s o) (0x400000 + o) v s

/-- Writes to CAP (04 R136). -/
def capWrite (o : Nat) (v : Word) (s : State) : State :=
  if o = 0x10 then capTailWrite v s else plainWrite .pf (capRead s o) (0x500000 + o) v s

/-- Writes to WIN (05 R160). -/
def winWrite (o : Nat) (v : Word) (s : State) : State :=
  match groupAt o 0x1000 0x40 Config.hosts with
  | some (h, 0x30) => denyInfoWrite h v s
  | _ => plainWrite .pf (winRead s o) (0x600000 + o) v s

/-- Writes to DIR (06 R188). -/
def dirWrite (o : Nat) (v : Word) (s : State) : State :=
  if o = 0x2080 then withDir (fun d => { d with cutSel := fld v 5 0 }) s else plainWrite .pf (dirRead s o) (0x700000 + o) v s

/-- A write to an inbound mailbox word of a Sage slot (07 R209). -/
def sageMbWrite (slot w : Nat) (v : Word) (s : State) : State :=
  let x := getSlot s slot
  if x.inFull then discard .pf 0 (slotRegs slot + 0x40 + 8 * w) v s
  else setSlot slot { x with mbIn := tput 0 x.mbIn w v } s

/-- Writes to a Sage slot (07 R219). -/
def slotWrite (slot r o : Nat) (v : Word) (s : State) : State :=
  if r = 0xC0 then mbctrlWrite slot v s
  else if 0x40 ≤ r && decide (r < 0x80) then sageMbWrite slot ((r - 0x40) / 8) v s
  else plainWrite .pf (slotRead s slot r) (0x800000 + o) v s

/-- Writes to SAGE (07 R219). -/
def sageWrite (o : Nat) (v : Word) (s : State) : State :=
  if o = 0x08 then recBaseWrite s.sage.plog (fun g s => { s with sage := { s.sage with plog := g } }) 0x800008 v s
  else if o = 0x10 then plogCtrlWrite v s
  else if o = 0x20 then plogTailWrite v s
  else match groupAt o 0x1000 0x100 Config.sageSlots with
    | some (k, r) => slotWrite k r o v s
    | none => plainWrite .pf (sageRead s o) (0x800000 + o) v s

/-- Writes to MOVE (08 R250). -/
def moveWrite (o : Nat) (v : Word) (s : State) : State :=
  if o = 0x50 then { s with move := { s.move with poolSel := fld v 11 0 } } else plainWrite .pf (moveRead s o) (0x900000 + o) v s

/-- Writes to SCHED (09 R272). -/
def schedWrite (o : Nat) (v : Word) (s : State) : State :=
  match groupAt o 0x10000 0x400 Config.egresses with
  | some (e, 0x38) => histClear e v s
  | _ => plainWrite .pf (schedRead s o) (0xA00000 + o) v s

/-- A write to an inbound mailbox word of VF_SEL (12 R347). -/
def vfInWrite (w : Nat) (v : Word) (s : State) : State :=
  let x := getVf s s.vf.sel
  if x.toVfFull then discard .pf 0 (0xD01100 + 8 * w) v s
  else setVf s.vf.sel { x with mbIn := tput 0 x.mbIn w v } s

/-- Writes to VF (12 R350). -/
def vfBlockWrite (o : Nat) (v : Word) (s : State) : State :=
  if o = 0x1000 then { s with vf := { s.vf with sel := fld v 10 0 } }
  else if o = 0x1008 then mbCtrlWrite v s
  else match groupAt o 0x1100 8 32 with
    | some (w, _) => vfInWrite w v s
    | none => plainWrite .pf (vfBlockRead s o) (0xD00000 + o) v s

/-- Writes to EVT (13 R352, R363). -/
def evtWrite (o : Nat) (v : Word) (s : State) : State :=
  if o < 0x200 then pendWrite (o / 8) v s
  else if o < 0x400 then maskWrite ((o - 0x200) / 8) v s
  else if o < 0x500 then
    { s with evt := { s.evt with vfState := tput 0 s.evt.vfState ((o - 0x400) / 8) (tget 0 s.evt.vfState ((o - 0x400) / 8) &&& v) } }
  else if o < 0x600 then
    { s with evt := { s.evt with vfMb := tput 0 s.evt.vfMb ((o - 0x500) / 8) (tget 0 s.evt.vfMb ((o - 0x500) / 8) &&& v) } }
  else plainWrite .pf (evtRead s o) (0xE00000 + o) v s

/-- Writes to FLT (15 R392, R406). -/
def fltWrite (o : Nat) (v : Word) (s : State) : State :=
  if o = 0 then fltStatusWrite v s else plainWrite .pf (fltRead s o) (0x1000000 + o) v s

/-- A write to SEC_FLASH_CMD by its OP (17 R429, R440). -/
def flashCmdWrite (v : Word) (s : State) : State :=
  match fld v 1 0 with
  | 1 => flashCmd 1 .eraseSector v s
  | 2 => flashCmd 2 .program v s
  | 3 => flashCmd 3 .read v s
  | _ => if flashOpen s then s else discard .pf 0 0x1200020 v s

/-- Writes to SEC: the recovery registers act only while the image has failed, below 0x0080_0000 (17 R429, R440). -/
def secWrite (o : Nat) (v : Word) (s : State) : State :=
  if o = 0x18 then
    (if s.glb.imageFail && decide (fld v 23 0 < 0x800000) then withSec (fun x => { x with flashAddr := fld v 23 0 }) s
     else discard .pf 0 0x1200018 v s)
  else if o = 0x20 then flashCmdWrite v s
  else match groupAt o 0x100 8 32 with
    | some (w, _) => if flashOpen s then withSec (fun x => { x with flashBuf := tput 0 x.flashBuf w v }) s
                     else discard .pf 0 (0x1200000 + o) v s
    | none => plainWrite .pf (secRead s o) (0x1200000 + o) v s

/-- A write to PWR_CFG: each field is clamped on its own; VMAX_MV lies at or above VMIN_MV (17 R441). -/
def pwrCfgWrite (v : Word) (s : State) : State :=
  let lo := used v 9 0 620 850
  let c := fun (hi l mn mx : Nat) (s : State) => clampIf (fld v hi l != used v hi l mn mx) .pf 0x1300008 hi l (fld v hi l) (used v hi l mn mx) s
  c 55 48 0 100 (c 49 40 620 850 (c 25 16 lo 850 (c 9 0 620 850 (withPwr (fun p => { p with
    vminMv := lo, vmaxMv := used v 25 16 lo 850, fixed := bit v 32, fixedMv := used v 49 40 620 850,
    guardKppm := used v 55 48 0 100 }) s))))

/-- Writes to PWR (17 R441). -/
def pwrWrite (o : Nat) (v : Word) (s : State) : State :=
  if o = 0x08 then pwrCfgWrite v s else plainWrite .pf (pwrRead s o) (0x1300000 + o) v s

/-- An aligned write to the management PF's BAR0 (00 R9, R13; 01 R41). -/
def pfWrite (off : Nat) (v : Word) (s : State) : State :=
  let b := off / 2 ^ 20
  let o := off % 2 ^ 20
  if !(blockLives s b) then discard .pf 0 off v s
  else match b with
    | 0 => glbWrite o v s
    | 1 => cmdWrite o v s
    | 4 => ghWrite o v s
    | 5 => capWrite o v s
    | 6 => winWrite o v s
    | 7 => dirWrite o v s
    | 8 => sageWrite o v s
    | 9 => moveWrite o v s
    | 10 => schedWrite o v s
    | 13 => vfBlockWrite o v s
    | 14 => evtWrite o v s
    | 16 => fltWrite o v s
    | 18 => secWrite o v s
    | 19 => pwrWrite o v s
    | _ => plainWrite .pf (pfRead s off) off v s

/-! ## Writes to a VF's BAR0 and to the doorbell pages (02 R53; 12 R332, R344, R349) -/

/-- A write to an outbound mailbox word of a VF (12 R347). -/
def vfOutWrite (v w : Nat) (x : Word) (s : State) : State :=
  let y := getVf s v
  if y.toMgrFull then discard (.vf v) 0 (0x100 + 8 * w) x s else setVf v { y with mbOut := tput 0 y.mbOut w x } s

/-- A write to the MSI-X table of a VF: Vector Control is the upper half of an entry's second word (12 R332). The message
address and data are PCIe's own and have no effect inside the switch; PBA bits are read-only. -/
def vfMsixWrite (v o : Nat) (x : Word) (s : State) : State :=
  if o % 16 = 8 then
    (match entryVec s (.vf v) ((o - 0x1000) / 16) with
     | some n => setEntryMask n (bit x 32) s
     | none => s)
  else s

/-- An aligned write to BAR0 of a VF whose BARs decode (12 R349). -/
def vfWrite (v o : Nat) (x : Word) (s : State) : State :=
  let y := getVf s v
  let r := RingId.tenant v
  if o = 0x10 then setVf v { y with resetSeen := y.resetSeen && bit x 0 } s
  else if o = 0x20 then ringBaseWrite r false x s
  else if o = 0x28 then ringCtrlWrite r x s
  else if o = 0x30 then ringBaseWrite r true x s
  else if o = 0x38 then ringCplCtrlWrite r x s
  else if o = 0x40 then setVf v { y with evq := { y.evq with base := fld x 63 12 } } s
  else if o = 0x48 then evqCtrlWrite v x s
  else if 0x100 ≤ o && decide (o < 0x200) then vfOutWrite v ((o - 0x100) / 8) x s
  else if 0x1000 ≤ o && decide (o < 0x1000 + 16 * y.vecCount) then vfMsixWrite v o x s
  else if o = 0x1800 then s
  else plainWrite (.vf v) (vfRead s v o) o x s

/-- An aligned write to the management PF's BAR2: the doorbell pages of the two rings (02 R53; 01 R41). -/
def pfDoorbell (off : Nat) (v : Word) (s : State) : State :=
  if 0x2000 ≤ off then discard .pf 3 off v s
  else if off % 0x1000 = 0 then sqTailWrite (.mring (off / 0x1000)) v s
  else if off % 0x1000 = 8 then cqHeadWrite (.mring (off / 0x1000)) v s
  else discard .pf 3 off v s

/-- An aligned write to the BAR2 of a VF whose BARs decode (12 R344). -/
def vfDoorbell (v off : Nat) (x : Word) (s : State) : State :=
  if off = 0x00 then sqTailWrite (.tenant v) x s
  else if off = 0x08 then cqHeadWrite (.tenant v) x s
  else if off = 0x10 then eqHeadWrite v x s
  else if off = 0x18 then mbSend v x s
  else if off = 0x20 then mbDone v x s
  else discard (.vf v) 3 off x s

/-- An aligned write to a BAR of a function. A VF in any state but CREATED takes none (12 R333). -/
def aligned (f : Fn) (bar off : Nat) (v : Word) (s : State) : State :=
  match f with
  | .pf => if bar = 0 then pfWrite off v s else pfDoorbell off v s
  | .vf n => if !(vfOpen s n) then s else if bar = 0 then vfWrite n off v s else vfDoorbell n off v s

/-! ## The commands -/

/-- The function's BARs take the access. -/
def barOpen (s : State) : Fn → Bool
  | .pf => true
  | .vf v => vfOpen s v

/-- The function and the BAR exist, and the offset lies in the BAR: 32 MiB and the doorbell pages for the PF, 8 KiB and
4 KiB for a VF (00 R13; 02 R53; 12 R332). -/
def inBar (f : Fn) (bar off : Nat) (k : Out) : Out :=
  let size := match f with
    | .pf => 2 ^ 25
    | .vf _ => if bar = 0 then 0x2000 else 0x1000
  let fnOk : Out := match f with
    | .pf => k
    | .vf v => inUnit "VF" v Config.vfs k
  if bar = 0 ∨ bar = 2 then inUnit "BAR offset" off size fnOk else .fault (.noSuchUnit "BAR" bar)

/-- A write of one aligned 64-bit word; a write that is not aligned has no effect (00 R7-R10). -/
def execRegisterWrite (fn : Fn) (bar off : Nat) (v : Word) (s : State) : Out :=
  inBar fn bar off (.next (if off % 8 = 0 then aligned fn bar off v s
    else if barOpen s fn then narrowAccess fn bar off true v s else s))

/-- A narrow or unaligned access (00 R7). -/
def execNarrowAccess (fn : Fn) (bar off : Nat) (write : Bool) (v : Word) (s : State) : Out :=
  inBar fn bar off (.next (if barOpen s fn then narrowAccess fn bar off write v s else s))

end Sys2Proof.Machine
end

