-- ==== Sys2Proof/Machine/Wire.lean ====
section
/-! DEFINITION. The words on an Obmulum link: the layouts of the flit header (10 R277), of the bypass micro-flit header and
the bypass message contents (10 R288, R290; 16 R412), and of the Stairwell's header units (11 R313, R314, R327). The commands
that carry these units from and to a peer hold their fields; this file says which bits of the wire each field is. -/

namespace Sys2Proof.Machine

/-! ## Flits (10 R276, R277) -/

/-- Bytes of a flit's header, payload, CRC and FEC parity (10 R276). -/
def flitHeaderBytes : Nat := 8
def flitPayloadBytes : Nat := 112
def flitCrcBytes : Nat := 8
def flitParityBytes : Nat := 6

/-- A flit without and with its parity (10 R276). -/
def flitBytes : Nat := flitHeaderBytes + flitPayloadBytes + flitCrcBytes
def flitWireBytes : Nat := flitBytes + flitParityBytes

/-- A message unit, and the units that one payload holds (10 R278). -/
def unitBytes : Nat := 16
def flitUnits : Nat := flitPayloadBytes / unitBytes

/-- TYPE of a flit header: 0 PAYLOAD, 1 IDLE (10 R277). -/
inductive FlitType where
  | payload | idle
deriving DecidableEq, Repr

def FlitTypeCode : FlitType → Nat
  | .payload => 0
  | .idle => 1

/-- The 8-byte flit header; bit 55 is reserved (10 R277). -/
def flitHdrWord (t : FlitType) (h : FlitHdr) : Word :=
  pack [(h.seq, 0), (h.ack, 12), (h.vc, 24), (FlitTypeCode t, 26), (h.cvc, 28), (h.credit, 30), (b2n h.cong, 54), (h.back, 56)]

/-- The fields of a header word as the receiver takes them (10 R277). -/
def flitHdrFields (w : Word) : FlitHdr :=
  { seq := fld w 11 0, ack := fld w 23 12, vc := fld w 25 24, cvc := fld w 29 28, credit := fld w 53 30,
    cong := bit w 54, back := fld w 63 56 }

/-- A header as the receiver reads it: none is a reserved TYPE, discarded as if the flit's CRC had failed (10 R277). -/
def flitHdrOf (w : Word) : Option (FlitType × FlitHdr) :=
  if fld w 27 26 = 0 then some (.payload, flitHdrFields w)
  else if fld w 27 26 = 1 then some (.idle, flitHdrFields w)
  else none

/-- What the receiver does with a flit whose header word is `w`: the row PAYLOAD_FLIT or IDLE_FLIT of its TYPE, a failed
CRC for a reserved one (10 R277, R279). -/
def takeFlit (l : Nat) (w : Word) (crcOk : Bool) (fec : Nat) (p : List FlitPart) (s : State) : State :=
  match flitHdrOf w with
  | some (.payload, h) => payloadFlit l h crcOk fec p s
  | some (.idle, h) => idleFlit l h crcOk s
  | none => payloadFlit l (flitHdrFields w) false fec p s

/-- The fields of a header lie within their widths. -/
def flitHdrFits (h : FlitHdr) : Bool :=
  decide (h.seq < 4096) && decide (h.ack < 4096) && decide (h.vc < 4) && decide (h.cvc < 4)
    && decide (h.credit < 16777216) && decide (h.back < 256)

/-! ## Bypass micro-flits (10 R288, R290) -/

/-- A micro-flit: 8 bytes of header, 16 of content, 8 of CRC (10 R288). -/
def microBytes : Nat := 32

/-- The micro-flit header (10 R288). -/
def microHdrWord (m : MicroFlit) : Word :=
  pack [(m.bseq, 0), (m.back, 8), (m.mtype, 16), (m.part, 20), (b2n m.last, 22), (m.dest, 24), (m.src, 32)]

/-- A micro-flit from its header word and content (10 R288). -/
def microOf (w : Word) (content : List Word) : MicroFlit :=
  { bseq := fld w 7 0, back := fld w 15 8, mtype := fld w 19 16, part := fld w 21 20, last := bit w 22,
    dest := fld w 28 24, src := fld w 36 32, content := content }

/-- The fields of a micro-flit header lie within their widths. -/
def microFits (m : MicroFlit) : Bool :=
  decide (m.bseq < 256) && decide (m.back < 256) && decide (m.mtype < 16) && decide (m.part < 4)
    && decide (m.dest < 32) && decide (m.src < 32)

/-- The bypass message types that are not reserved: 0 and 10-15 are (10 R290). -/
def mtypeKnown (n : Nat) : Bool := decide (1 ≤ n ∧ n ≤ 9)

/-- The parts of each type (10 R290); a TIME message has 1 part as a REQ and 2 as an RSP (16 R412). -/
def mtypeParts (rsp : Bool) (n : Nat) : Nat :=
  if n = 1 then 4 else if n = 2 then 2 else if n = 5 then 3 else if n = 7 then 2 else if n = 9 then 1 + b2n rsp else 1

/-- The eight words of a descriptor (02 R56). -/
def descWords (d : Desc) : List Word :=
  [pack [(d.opcode.toNat, 0), (d.flags.toNat, 16), (d.tag.toNat, 32)], d.ownEpoch, d.objectId, d.expectVersion,
   d.arg0, d.arg1, d.arg2, d.arg3]

/-- A descriptor from its eight words (02 R56). -/
def descOfWords (l : List Word) : Desc :=
  { opcode := BitVec.ofNat 16 (fld (nth l 0) 15 0), flags := BitVec.ofNat 8 (fld (nth l 0) 23 16),
    tag := BitVec.ofNat 32 (fld (nth l 0) 63 32), ownEpoch := nth l 1, objectId := nth l 2, expectVersion := nth l 3,
    arg0 := nth l 4, arg1 := nth l 5, arg2 := nth l 6, arg3 := nth l 7 }

/-- The content of the INIT message: part 0 the identity, part 1 the four ADV counters of 3 bytes each, part 2
CMD_OWN_EPOCH (10 R290). -/
def initWords (i : InitInfo) : List Word :=
  let a := i.adv.getD 0 0 + i.adv.getD 1 0 * 2 ^ 24 + i.adv.getD 2 0 * 2 ^ 48 + i.adv.getD 3 0 * 2 ^ 72
  [pack [(i.rxExpect, 0), (i.brxExpect, 16), (b2n i.fresh, 24), (i.switchId, 32), (b2n i.mgrSel, 37), (b2n i.native, 38),
    (i.link, 40)], 0, w64 a, w64 (a / 2 ^ 64), w64 i.epoch, 0]

/-- The INIT message from its six content words (10 R290). -/
def initOfWords (l : List Word) : InitInfo :=
  let a := (nth l 2).toNat + (nth l 3).toNat * 2 ^ 64
  { rxExpect := fld (nth l 0) 11 0, brxExpect := fld (nth l 0) 23 16, fresh := bit (nth l 0) 24,
    switchId := fld (nth l 0) 36 32, mgrSel := bit (nth l 0) 37, native := bit (nth l 0) 38, link := fld (nth l 0) 42 40,
    adv := [a % 2 ^ 24, a / 2 ^ 24 % 2 ^ 24, a / 2 ^ 48 % 2 ^ 24, a / 2 ^ 72 % 2 ^ 24], epoch := (nth l 4).toNat }

/-- The content of a TIME message: TX; SEQ, KIND, STATE and ERR_NS; and in the RSP's second part RX (16 R412). -/
def timeWords (seq kind st err tx : Nat) (rx : Option Nat) : List Word :=
  let p0 := [w64 tx, pack [(seq, 0), (kind, 16), (st, 24), (err, 32)]]
  match rx with
  | none => p0
  | some r => p0 ++ [w64 r, 0]

/-- MTYPE and content of a bypass message whose layout the spec gives; none for a message whose bits the spec leaves open:
the phases of R308, and SLEEP, whose byte 0 names a direction by no stated code (10 R290). -/
def bypassContent : Bypass → Option (Nat × List Word)
  | .cmdFwd _ d => some (1, descWords d)
  | .cplFwd c => some (2, cplWords c false)
  | .epoch e => some (3, [w64 e, 0])
  | .heartbeat e n => some (4, [w64 e, w64 (n % 2 ^ 32)])
  | .init i => some (5, initWords i)
  | .sleep _ => none
  | .propFwd _ ws => some (7, ws)
  | .propRes st tag slot => some (8, [pack [(st, 0), (tag, 16), (slot, 32)], 0])
  | .timeReq q tx st err => some (9, timeWords q 0 st err tx none)
  | .timeRsp q tx st err rx => some (9, timeWords q 1 st err tx (some rx))
  | .relayed n _ parts => some (n, parts.flatten)
  | .check _ => none
  | .apply _ => none
  | .defs _ => none
  | .cutOff _ _ => none
  | .walk _ _ => none

/-- The micro-flits of a content of `2 * k` words, from number `bseq`: one per 16 bytes, in order, the last with LAST set
(10 R288). -/
def microParts (bseq back mtype dest src part : Nat) : Nat → List Word → List MicroFlit
  | 0, _ => []
  | k + 1, ws =>
    ⟨bseq % 256, back, mtype, part, decide (k = 0), dest, src, [nth ws 0, nth ws 1]⟩
      :: microParts (bseq + 1) back mtype dest src (part + 1) k (ws.drop 2)

/-! ## Stairwell messages (11 R313, R314, R327) -/

/-- The fields of header unit 0; what unit 1 and the data carry is given beside it (11 R313). -/
def unit0Of (l : List Word) (vc : Nat) (posted : Bool) (tag : Nat) (b : Body) : Msg :=
  { mkind := fld (nth l 0) 7 0, flags := BitVec.ofNat 8 (fld (nth l 0) 15 8), fseq := fld (nth l 0) 31 16,
    pfence := fld (nth l 0) 47 32,
    srcIngress := fld (nth l 0) 55 48, srcSwitch := fld (nth l 0) 60 56, dest := fld (nth l 1) 11 0, tc := fld (nth l 1) 15 12,
    destSwitch := fld (nth l 1) 20 16, dataUnits := fld (nth l 1) 31 24, notice := fld (nth l 1) 63 32,
    vc := vc, posted := posted, tag := tag, body := b }

/-- The fields of header unit 0 lie within their widths (11 R313). -/
def unit0Fits (m : Msg) : Bool :=
  decide (m.mkind < 256) && decide (m.fseq < 65536) && decide (m.pfence < 65536) && decide (m.srcIngress < 256)
    && decide (m.srcSwitch < 32) && decide (m.dest < 4096) && decide (m.tc < 16) && decide (m.destSwitch < 32)
    && decide (m.dataUnits < 256) && decide (m.notice < 4294967296)

/-- A unit whose first byte is 0 marks the rest of the payload as padding (10 R278); MKIND is never 0 (11 R313). -/
def isPadding (w : Word) : Bool := fld w 7 0 == 0

/-- The fields of a content unit (11 R327). -/
def signalFields (l : List Word) : Signal :=
  { signal := fld (nth l 0) 7 0, state := fld (nth l 0) 15 8, port := fld (nth l 0) 31 16, channel := fld (nth l 0) 39 32, vs := fld (nth l 0) 47 40,
    vppb := fld (nth l 0) 55 48, changes := fld (nth l 1) 31 0 }

/-- The fields of a content unit lie within their widths (11 R327). -/
def signalFits (x : Signal) : Bool :=
  decide (x.signal < 256) && decide (x.state < 256) && decide (x.port < 65536) && decide (x.channel < 256)
    && decide (x.vs < 256) && decide (x.vppb < 256) && decide (x.changes < 4294967296)

/-- The MKIND of a signal: 6 for INTA-INTD, 7 toward the host, 8 toward the slot (11 R327). -/
def signalMkind (x : Signal) : Nat := if x.signal < 8 then 6 else if x.signal < 16 then 7 else 8

end Sys2Proof.Machine
end

