-- ==== Sys2Proof/Machine/Dispatch.lean ====
section
/-! DEFINITION. The dispatch: one arm per command, each one direct call of its meaning. -/

namespace Sys2Proof.Machine

def exec (i : Instr) (s : State) : Host.Outcome State Fault Refusal :=
  match i with
  | .coldReset cause => Sys2Proof.Machine.execColdReset cause s
  | .supplyMonitorTrip rail => Sys2Proof.Machine.execSupplyMonitorTrip rail s
  | .bringUpPhase boot => Sys2Proof.Machine.execBringUpPhase boot s
  | .epochSettled => Sys2Proof.Machine.execEpochSettled s
  | .glbResetWarm v => Sys2Proof.Machine.execGlbResetWarm v s
  | .glbResetCold v => Sys2Proof.Machine.execGlbResetCold v s
  | .wrstN => Sys2Proof.Machine.execWrstN s
  | .mcFault core => Sys2Proof.Machine.execMcFault core s
  | .warmResetDrainEnd => Sys2Proof.Machine.execWarmResetDrainEnd s
  | .thermtrip sensor => Sys2Proof.Machine.execThermtrip sensor s
  | .tempHigh sensor => Sys2Proof.Machine.execTempHigh sensor s
  | .coreRateLow monitor => Sys2Proof.Machine.execCoreRateLow monitor s
  | .vddCoreLoop ppm monitor ack readback => Sys2Proof.Machine.execVddCoreLoop ppm monitor ack readback s
  | .supply readback => Sys2Proof.Machine.execSupply readback s
  | .registerWrite fn bar off v => Sys2Proof.Machine.execRegisterWrite fn bar off v s
  | .narrowAccess fn bar off write v => Sys2Proof.Machine.execNarrowAccess fn bar off write v s
  | .glbCfgrptCtrlWrite v => Sys2Proof.Machine.execGlbCfgrptCtrlWrite v s
  | .glbCfgrptTailWrite v => Sys2Proof.Machine.execGlbCfgrptTailWrite v s
  | .cmdMringCtrlWrite m v => Sys2Proof.Machine.execCmdMringCtrlWrite m v s
  | .sqTail m v => Sys2Proof.Machine.execSqTail m v s
  | .cqHead m v => Sys2Proof.Machine.execCqHead m v s
  | .descriptorFetch ring d => Sys2Proof.Machine.execDescriptorFetch ring d s
  | .heldRecordFlush fn portUp => Sys2Proof.Machine.execHeldRecordFlush fn portUp s
  | .nop seq => Sys2Proof.Machine.execNop seq s
  | .epochClaim seq => Sys2Proof.Machine.execEpochClaim seq s
  | .objQuery seq => Sys2Proof.Machine.execObjQuery seq s
  | .objCommit seq hashOk => Sys2Proof.Machine.execObjCommit seq hashOk s
  | .objAbort seq => Sys2Proof.Machine.execObjAbort seq s
  | .generationCommitDone seq => Sys2Proof.Machine.execGenerationCommitDone seq s
  | .tblDrain seq => Sys2Proof.Machine.execTblDrain seq s
  | .rtWrite seq data => Sys2Proof.Machine.execRtWrite seq data s
  | .ghThreshSet seq => Sys2Proof.Machine.execGhThreshSet seq s
  | .capConfigFilter seq => Sys2Proof.Machine.execCapConfigFilter seq s
  | .capConfigRing seq => Sys2Proof.Machine.execCapConfigRing seq s
  | .capTailWrite v => Sys2Proof.Machine.execCapTailWrite v s
  | .winWrite seq => Sys2Proof.Machine.execWinWrite seq s
  | .winLock seq => Sys2Proof.Machine.execWinLock seq s
  | .winEpochFence seq => Sys2Proof.Machine.execWinEpochFence seq s
  | .mapWrite seq data => Sys2Proof.Machine.execMapWrite seq data s
  | .define seq data answers => Sys2Proof.Machine.execDefine seq data answers s
  | .attach seq => Sys2Proof.Machine.execAttach seq s
  | .detach seq site => Sys2Proof.Machine.execDetach seq site s
  | .destroy seq answers => Sys2Proof.Machine.execDestroy seq answers s
  | .readmit seq answers => Sys2Proof.Machine.execReadmit seq answers s
  | .dirPartitionSet seq answers => Sys2Proof.Machine.execDirPartitionSet seq answers s
  | .dirQuotaSetHome seq => Sys2Proof.Machine.execDirQuotaSetHome seq s
  | .dirQuotaSetDomain seq => Sys2Proof.Machine.execDirQuotaSetDomain seq s
  | .fabricApplyResend sw applied => Sys2Proof.Machine.execFabricApplyResend sw applied s
  | .switchJoin sw defs => Sys2Proof.Machine.execSwitchJoin sw defs s
  | .sprigLoad seq code data => Sys2Proof.Machine.execSprigLoad seq code data s
  | .sprigStart seq => Sys2Proof.Machine.execSprigStart seq s
  | .sprigStop seq => Sys2Proof.Machine.execSprigStop seq s
  | .commitLimitsSet seq => Sys2Proof.Machine.execCommitLimitsSet seq s
  | .telConfig seq => Sys2Proof.Machine.execTelConfig seq s
  | .pageMigrate seq => Sys2Proof.Machine.execPageMigrate seq s
  | .moveSubmit seq data => Sys2Proof.Machine.execMoveSubmit seq data s
  | .arbClassSet seq => Sys2Proof.Machine.execArbClassSet seq s
  | .queueSet seq => Sys2Proof.Machine.execQueueSet seq s
  | .policerSet seq => Sys2Proof.Machine.execPolicerSet seq s
  | .shaperSet seq => Sys2Proof.Machine.execShaperSet seq s
  | .gclWrite seq data => Sys2Proof.Machine.execGclWrite seq data s
  | .portConfig seq => Sys2Proof.Machine.execPortConfig seq s
  | .portReset seq => Sys2Proof.Machine.execPortReset seq s
  | .laneTest seq => Sys2Proof.Machine.execLaneTest seq s
  | .eyeScan seq => Sys2Proof.Machine.execEyeScan seq s
  | .eyeScanEnd lane seq last counts => Sys2Proof.Machine.execEyeScanEnd lane seq last counts s
  | .oblConfigLink seq => Sys2Proof.Machine.execOblConfigLink seq s
  | .oblConfigRoute seq => Sys2Proof.Machine.execOblConfigRoute seq s
  | .oblConfigFabric seq answers => Sys2Proof.Machine.execOblConfigFabric seq answers s
  | .stwConfig seq => Sys2Proof.Machine.execStwConfig seq s
  | .vfCreate seq data => Sys2Proof.Machine.execVfCreate seq data s
  | .vfDestroy seq => Sys2Proof.Machine.execVfDestroy seq s
  | .vecConfigLine seq => Sys2Proof.Machine.execVecConfigLine seq s
  | .vecConfigVector seq => Sys2Proof.Machine.execVecConfigVector seq s
  | .slotPolicySet seq => Sys2Proof.Machine.execSlotPolicySet seq s
  | .slotThermalModelSet seq => Sys2Proof.Machine.execSlotThermalModelSet seq s
  | .slotRelease seq => Sys2Proof.Machine.execSlotRelease seq s
  | .slotOff seq => Sys2Proof.Machine.execSlotOff seq s
  | .slotTreadsSet seq => Sys2Proof.Machine.execSlotTreadsSet seq s
  | .slotUnlock seq => Sys2Proof.Machine.execSlotUnlock seq s
  | .unitRetire seq => Sys2Proof.Machine.execUnitRetire seq s
  | .unitReturn seq testOk => Sys2Proof.Machine.execUnitReturn seq testOk s
  | .unitJoin unit => Sys2Proof.Machine.execUnitJoin unit s
  | .timeConfig seq => Sys2Proof.Machine.execTimeConfig seq s
  | .set seq => Sys2Proof.Machine.execSet seq s
  | .calWrite seq data => Sys2Proof.Machine.execCalWrite seq data s
  | .calRestoreFactory seq => Sys2Proof.Machine.execCalRestoreFactory seq s
  | .imageUpdate seq image => Sys2Proof.Machine.execImageUpdate seq image s
  | .flashOpDone ok => Sys2Proof.Machine.execFlashOpDone ok s
  | .flashEraseSector v => Sys2Proof.Machine.execFlashEraseSector v s
  | .flashProgram v => Sys2Proof.Machine.execFlashProgram v s
  | .flashRead v => Sys2Proof.Machine.execFlashRead v s
  | .forwardTimeout seq => Sys2Proof.Machine.execForwardTimeout seq s
  | .cmdFwd src d => Sys2Proof.Machine.execCmdFwd src d s
  | .cplFwd seq cpl => Sys2Proof.Machine.execCplFwd seq cpl s
  | .epoch e => Sys2Proof.Machine.execEpoch e s
  | .hostRequest r hw => Sys2Proof.Machine.execHostRequest r hw s
  | .policerRelease p => Sys2Proof.Machine.execPolicerRelease p s
  | .mapCacheMissFill hw => Sys2Proof.Machine.execMapCacheMissFill hw s
  | .responseArrival r => Sys2Proof.Machine.execResponseArrival r s
  | .egressSelect e hw => Sys2Proof.Machine.execEgressSelect e hw s
  | .bankRelocationDone => Sys2Proof.Machine.execBankRelocationDone s
  | .captureRecordWrite => Sys2Proof.Machine.execCaptureRecordWrite s
  | .configRequest port fn op => Sys2Proof.Machine.execConfigRequest port fn op s
  | .portEngineStop port => Sys2Proof.Machine.execPortEngineStop port s
  | .portEngineRestartDone port => Sys2Proof.Machine.execPortEngineRestartDone port s
  | .marginingCommand lane start => Sys2Proof.Machine.execMarginingCommand lane start s
  | .linkUp port info => Sys2Proof.Machine.execLinkUp port info s
  | .equalizationFail port rate second => Sys2Proof.Machine.execEqualizationFail port rate second s
  | .portDown port => Sys2Proof.Machine.execPortDown port s
  | .dpcRelease port => Sys2Proof.Machine.execDpcRelease port s
  | .symbolLockLost lane seen => Sys2Proof.Machine.execSymbolLockLost lane seen s
  | .recoveryRetrainDone port width => Sys2Proof.Machine.execRecoveryRetrainDone port width s
  | .l0pNarrow port => Sys2Proof.Machine.execL0pNarrow port s
  | .l0pRestore port => Sys2Proof.Machine.execL0pRestore port s
  | .linkPowerState port dst => Sys2Proof.Machine.execLinkPowerState port dst s
  | .refclkLost q => Sys2Proof.Machine.execRefclkLost q s
  | .refclkReturn q => Sys2Proof.Machine.execRefclkReturn q s
  | .portPerstN port asserted => Sys2Proof.Machine.execPortPerstN port asserted s
  | .cachingRead r => Sys2Proof.Machine.execCachingRead r s
  | .meminv r => Sys2Proof.Machine.execMeminv r s
  | .writeback r => Sys2Proof.Machine.execWriteback r s
  | .cleanEvict r => Sys2Proof.Machine.execCleanEvict r s
  | .nonCachingRead r => Sys2Proof.Machine.execNonCachingRead r s
  | .nonCachingWrite r => Sys2Proof.Machine.execNonCachingWrite r s
  | .biconflict r => Sys2Proof.Machine.execBiconflict r s
  | .birsp dla participant ans => Sys2Proof.Machine.execBirsp dla participant ans s
  | .completionAck dla kind ecc => Sys2Proof.Machine.execCompletionAck dla kind ecc s
  | .deliveryNotice dla sw => Sys2Proof.Machine.execDeliveryNotice dla sw s
  | .dirCacheMissFill set ecc0 ecc1 way retry => Sys2Proof.Machine.execDirCacheMissFill set ecc0 ecc1 way retry s
  | .snoopTimeout dla participant => Sys2Proof.Machine.execSnoopTimeout dla participant s
  | .epochBoundary => Sys2Proof.Machine.execEpochBoundary s
  | .heatSweep set bad => Sys2Proof.Machine.execHeatSweep set bad s
  | .sprigWake slot => Sys2Proof.Machine.execSprigWake slot s
  | .sprigBudgetExpiry slot => Sys2Proof.Machine.execSprigBudgetExpiry slot s
  | .sprigTimerExpiry slot => Sys2Proof.Machine.execSprigTimerExpiry slot s
  | .sageInDoorbell slot v => Sys2Proof.Machine.execSageInDoorbell slot v s
  | .sageOutFullClear slot v => Sys2Proof.Machine.execSageOutFullClear slot v s
  | .sagePlogCtrlWrite v => Sys2Proof.Machine.execSagePlogCtrlWrite v s
  | .sagePlogTailWrite v => Sys2Proof.Machine.execSagePlogTailWrite v s
  | .add slot rd ra rb => Sys2Proof.Machine.execAdd slot rd ra rb s
  | .sub slot rd ra rb => Sys2Proof.Machine.execSub slot rd ra rb s
  | .and slot rd ra rb => Sys2Proof.Machine.execAnd slot rd ra rb s
  | .or slot rd ra rb => Sys2Proof.Machine.execOr slot rd ra rb s
  | .xor slot rd ra rb => Sys2Proof.Machine.execXor slot rd ra rb s
  | .shl slot rd ra rb => Sys2Proof.Machine.execShl slot rd ra rb s
  | .shr slot rd ra rb => Sys2Proof.Machine.execShr slot rd ra rb s
  | .sar slot rd ra rb => Sys2Proof.Machine.execSar slot rd ra rb s
  | .mul slot rd ra rb => Sys2Proof.Machine.execMul slot rd ra rb s
  | .mulhu slot rd ra rb => Sys2Proof.Machine.execMulhu slot rd ra rb s
  | .divu slot rd ra rb => Sys2Proof.Machine.execDivu slot rd ra rb s
  | .remu slot rd ra rb => Sys2Proof.Machine.execRemu slot rd ra rb s
  | .ltu slot rd ra rb => Sys2Proof.Machine.execLtu slot rd ra rb s
  | .lt slot rd ra rb => Sys2Proof.Machine.execLt slot rd ra rb s
  | .minu slot rd ra rb => Sys2Proof.Machine.execMinu slot rd ra rb s
  | .maxu slot rd ra rb => Sys2Proof.Machine.execMaxu slot rd ra rb s
  | .popc slot rd ra => Sys2Proof.Machine.execPopc slot rd ra s
  | .clz slot rd ra => Sys2Proof.Machine.execClz slot rd ra s
  | .addi slot rd ra imm => Sys2Proof.Machine.execAddi slot rd ra imm s
  | .andi slot rd ra imm => Sys2Proof.Machine.execAndi slot rd ra imm s
  | .ori slot rd ra imm => Sys2Proof.Machine.execOri slot rd ra imm s
  | .xori slot rd ra imm => Sys2Proof.Machine.execXori slot rd ra imm s
  | .shli slot rd ra imm => Sys2Proof.Machine.execShli slot rd ra imm s
  | .shri slot rd ra imm => Sys2Proof.Machine.execShri slot rd ra imm s
  | .sari slot rd ra imm => Sys2Proof.Machine.execSari slot rd ra imm s
  | .ltui slot rd ra imm => Sys2Proof.Machine.execLtui slot rd ra imm s
  | .lti slot rd ra imm => Sys2Proof.Machine.execLti slot rd ra imm s
  | .immhi slot rd ra imm => Sys2Proof.Machine.execImmhi slot rd ra imm s
  | .ld slot rd ra imm ecc => Sys2Proof.Machine.execLd slot rd ra imm ecc s
  | .st slot ra rb imm => Sys2Proof.Machine.execSt slot ra rb imm s
  | .br slot cond ra rb imm => Sys2Proof.Machine.execBr slot cond ra rb imm s
  | .call slot rd imm => Sys2Proof.Machine.execCall slot rd imm s
  | .jumpr slot rd ra imm => Sys2Proof.Machine.execJumpr slot rd ra imm s
  | .wait slot rd => Sys2Proof.Machine.execWait slot rd s
  | .halt slot => Sys2Proof.Machine.execHalt slot s
  | .timer slot ra imm => Sys2Proof.Machine.execTimer slot ra imm s
  | .time slot rd => Sys2Proof.Machine.execTime slot rd s
  | .epochn slot rd => Sys2Proof.Machine.execEpochn slot rd s
  | .hotpop slot rd bad => Sys2Proof.Machine.execHotpop slot rd bad s
  | .heatrd slot rd ra rb imm bad => Sys2Proof.Machine.execHeatrd slot rd ra rb imm bad s
  | .heatidx slot rd ra bad => Sys2Proof.Machine.execHeatidx slot rd ra bad s
  | .egrd slot rd ra imm bad => Sys2Proof.Machine.execEgrd slot rd ra imm bad s
  | .maprd slot rd ra rb => Sys2Proof.Machine.execMaprd slot rd ra rb s
  | .poolrd slot rd ra => Sys2Proof.Machine.execPoolrd slot rd ra s
  | .prop slot rd src => Sys2Proof.Machine.execProp slot rd src s
  | .res slot rd => Sys2Proof.Machine.execRes slot rd s
  | .mbrd slot rd imm => Sys2Proof.Machine.execMbrd slot rd imm s
  | .mbwr slot ra imm => Sys2Proof.Machine.execMbwr slot ra imm s
  | .mbsend slot rd => Sys2Proof.Machine.execMbsend slot rd s
  | .mbdone slot => Sys2Proof.Machine.execMbdone slot s
  | .migrate slot => Sys2Proof.Machine.execMigrate slot s
  | .split slot => Sys2Proof.Machine.execSplit slot s
  | .weight slot => Sys2Proof.Machine.execWeight slot s
  | .policer slot => Sys2Proof.Machine.execPolicer slot s
  | .note slot => Sys2Proof.Machine.execNote slot s
  | .propFwd src slot epoch words => Sys2Proof.Machine.execPropFwd src slot epoch words s
  | .propRes status tag slot => Sys2Proof.Machine.execPropRes status tag slot s
  | .proposalTimeout slot tag => Sys2Proof.Machine.execProposalTimeout slot tag s
  | .arbiterTick g => Sys2Proof.Machine.execArbiterTick g s
  | .moverDecision m ecc => Sys2Proof.Machine.execMoverDecision m ecc s
  | .burstEnd m => Sys2Proof.Machine.execBurstEnd m s
  | .moverLineComplete m ev => Sys2Proof.Machine.execMoverLineComplete m ev s
  | .moverWatchdog m => Sys2Proof.Machine.execMoverWatchdog m s
  | .migrationMarkCommitted k => Sys2Proof.Machine.execMigrationMarkCommitted k s
  | .migrationFenceDrained k => Sys2Proof.Machine.execMigrationFenceDrained k s
  | .migrationLineCopied k line mover tag => Sys2Proof.Machine.execMigrationLineCopied k line mover tag s
  | .migrationSwapCommitted k => Sys2Proof.Machine.execMigrationSwapCommitted k s
  | .migrationSettled k => Sys2Proof.Machine.execMigrationSettled k s
  | .migrationUndoDone k => Sys2Proof.Machine.execMigrationUndoDone k s
  | .gateEntryChange e => Sys2Proof.Machine.execGateEntryChange e s
  | .gclSwitchover e => Sys2Proof.Machine.execGclSwitchover e s
  | .histSample e => Sys2Proof.Machine.execHistSample e s
  | .histClear e v => Sys2Proof.Machine.execHistClear e v s
  | .payloadFlit l h crcOk fecCorrected part => Sys2Proof.Machine.execPayloadFlit l h crcOk fecCorrected part s
  | .idleFlit l h crcOk => Sys2Proof.Machine.execIdleFlit l h crcOk s
  | .microFlit l mf crcOk => Sys2Proof.Machine.execMicroFlit l mf crcOk s
  | .replayTimer l hw => Sys2Proof.Machine.execReplayTimer l hw s
  | .retrainDone l ok => Sys2Proof.Machine.execRetrainDone l ok s
  | .oblTrainingStep l step => Sys2Proof.Machine.execOblTrainingStep l step s
  | .init l info => Sys2Proof.Machine.execInit l info s
  | .creditTimeout l vc => Sys2Proof.Machine.execCreditTimeout l vc s
  | .flowQuiescence dest ingress vc => Sys2Proof.Machine.execFlowQuiescence dest ingress vc s
  | .sleepEntry l => Sys2Proof.Machine.execSleepEntry l s
  | .sleep l => Sys2Proof.Machine.execSleep l s
  | .directionWake l => Sys2Proof.Machine.execDirectionWake l s
  | .heartbeatSend => Sys2Proof.Machine.execHeartbeatSend s
  | .heartbeat e count => Sys2Proof.Machine.execHeartbeat e count s
  | .mgrLost => Sys2Proof.Machine.execMgrLost s
  | .messageRelease l m => Sys2Proof.Machine.execMessageRelease l m s
  | .flowRestart l m => Sys2Proof.Machine.execFlowRestart l m s
  | .gap l m => Sys2Proof.Machine.execGap l m s
  | .intx l m => Sys2Proof.Machine.execIntx l m s
  | .sideband l m => Sys2Proof.Machine.execSideband l m s
  | .sidebandOut l m => Sys2Proof.Machine.execSidebandOut l m s
  | .mrdlk port owner ingress => Sys2Proof.Machine.execMrdlk port owner ingress s
  | .unlock port owner ingress => Sys2Proof.Machine.execUnlock port owner ingress s
  | .lockTimeout port => Sys2Proof.Machine.execLockTimeout port s
  | .vfSqTail vf v => Sys2Proof.Machine.execVfSqTail vf v s
  | .vfCqHead vf v => Sys2Proof.Machine.execVfCqHead vf v s
  | .eqHead vf v => Sys2Proof.Machine.execEqHead vf v s
  | .mbSend vf v => Sys2Proof.Machine.execMbSend vf v s
  | .mbDone vf v => Sys2Proof.Machine.execMbDone vf v s
  | .vfInDoorbell v => Sys2Proof.Machine.execVfInDoorbell v s
  | .vfOutFullClear v => Sys2Proof.Machine.execVfOutFullClear v s
  | .vfCringCtrlWrite vf v => Sys2Proof.Machine.execVfCringCtrlWrite vf v s
  | .vfEvqCtrlWrite vf v => Sys2Proof.Machine.execVfEvqCtrlWrite vf v s
  | .functionLevelReset vf => Sys2Proof.Machine.execFunctionLevelReset vf s
  | .vfEnableClear enable numVfs => Sys2Proof.Machine.execVfEnableClear enable numVfs s
  | .pfConventionalReset => Sys2Proof.Machine.execPfConventionalReset s
  | .fltStatusWrite v => Sys2Proof.Machine.execFltStatusWrite v s
  | .evtPendWrite r v => Sys2Proof.Machine.execEvtPendWrite r v s
  | .evtMaskWrite r v => Sys2Proof.Machine.execEvtMaskWrite r v s
  | .winDenyInfoWrite h v => Sys2Proof.Machine.execWinDenyInfoWrite h v s
  | .coalescerTimer vec => Sys2Proof.Machine.execCoalescerTimer vec s
  | .msixUnmask vec => Sys2Proof.Machine.execMsixUnmask vec s
  | .slotSample c m => Sys2Proof.Machine.execSlotSample c m s
  | .fastTrip c => Sys2Proof.Machine.execFastTrip c s
  | .presenceChange c long short => Sys2Proof.Machine.execPresenceChange c long short s
  | .seated c => Sys2Proof.Machine.execSeated c s
  | .prsntMismatch c => Sys2Proof.Machine.execPrsntMismatch c s
  | .unseated c long => Sys2Proof.Machine.execUnseated c long s
  | .seatingAbandoned c => Sys2Proof.Machine.execSeatingAbandoned c s
  | .inrushTimeout c => Sys2Proof.Machine.execInrushTimeout c s
  | .busAbort c => Sys2Proof.Machine.execBusAbort c s
  | .outShort c => Sys2Proof.Machine.execOutShort c s
  | .perstDeassert c => Sys2Proof.Machine.execPerstDeassert c s
  | .retryCountClear c => Sys2Proof.Machine.execRetryCountClear c s
  | .stoppingGateOff c => Sys2Proof.Machine.execStoppingGateOff c s
  | .backoffEnd c => Sys2Proof.Machine.execBackoffEnd c s
  | .autoRelease c => Sys2Proof.Machine.execAutoRelease c s
  | .placeFree => Sys2Proof.Machine.execPlaceFree s
  | .hostPowerControl c on => Sys2Proof.Machine.execHostPowerControl c on s
  | .wakeN c low => Sys2Proof.Machine.execWakeN c low s
  | .attnBtnN c low => Sys2Proof.Machine.execAttnBtnN c low s
  | .ppsIn freqOk => Sys2Proof.Machine.execPpsIn freqOk s
  | .sourceLost kind => Sys2Proof.Machine.execSourceLost kind s
  | .timeFreqInLoss => Sys2Proof.Machine.execTimeFreqInLoss s
  | .thymeStep => Sys2Proof.Machine.execThymeStep s
  | .ppsOutPulse => Sys2Proof.Machine.execPpsOutPulse s
  | .syncExchange => Sys2Proof.Machine.execSyncExchange s
  | .timeReq l src tx seq => Sys2Proof.Machine.execTimeReq l src tx seq s
  | .timeRsp seq t1 t2 t3 t4 state err => Sys2Proof.Machine.execTimeRsp seq t1 t2 t3 t4 state err s
  | .dbgChallenge => Sys2Proof.Machine.execDbgChallenge s
  | .dbgResponse valid => Sys2Proof.Machine.execDbgResponse valid s
  | .spdmRequest op => Sys2Proof.Machine.execSpdmRequest op s
  | .kSetGo stream => Sys2Proof.Machine.execKSetGo stream s
  | .ideFail stream => Sys2Proof.Machine.execIdeFail stream s
  | .coldResetRelease mgrSel pb0Bifur timeRef switchId => Sys2Proof.Machine.execColdResetRelease mgrSel pb0Bifur timeRef switchId s
  | .commaLockLost lane => Sys2Proof.Machine.execCommaLockLost lane s
  | .linkDrainTimeout l => Sys2Proof.Machine.execLinkDrainTimeout l s
  | .tempHighClear => Sys2Proof.Machine.execTempHighClear s
  | .moverRestartDone m => Sys2Proof.Machine.execMoverRestartDone m s
  | .functionLevelResetEnd vf => Sys2Proof.Machine.execFunctionLevelResetEnd vf s
  | .reloadComplete host port => Sys2Proof.Machine.execReloadComplete host port s

end Sys2Proof.Machine
end

