-- ==== Sys2Proof/WellFormed.lean ====
section
/-! DEFINITION. Well-formed commands: every unit, index or register number a command names is one the
hardware has (03 R76, 13 R363, 14 R366, 15 R401 and the register tables). A meaning stops with
Fault.noSuchUnit where this fails (log entry 3). -/

namespace Sys2Proof

/-- A function of the switch (12 R332). -/
def Fn.wf : Fn → Bool
  | .pf => true
  | .vf v => decide (v < 2048)

/-- A command ring of the switch (02 R49, 12 R343). -/
def RingId.wf : RingId → Bool
  | .mring m => decide (m < 2)
  | .tenant v => decide (v < 2048)

/-- The switches, the ingress and the channel of a message exist (11 R313). -/
def Msg.wf (m : Msg) : Bool :=
  decide (m.srcSwitch < 32) && decide (m.destSwitch < 32) && decide (m.srcIngress < 129) && decide (m.vc < 4)

/-- The domain of a walk exists (06 R163). -/
def DetachAt.wf : DetachAt → Bool
  | .here _ => true
  | .away d _ => decide (d < 64)

/-- The offset lies in the BAR (0 or 2) of the function: 32 MiB for the PF, 8 KiB and 4 KiB for a VF (00 R13; 02 R53; 12 R332). -/
def Fn.inBar (f : Fn) (bar off : Nat) : Bool :=
  decide (bar = 0 ∨ bar = 2) &&
    (match f with
     | .pf => decide (off < 2 ^ 25)
     | .vf _ => decide (off < (if bar = 0 then 0x2000 else 0x1000)))

/-- Every unit that the command names exists, on the largest variant. -/
def Instr.wf : Instr → Bool
  | .coldReset _ => true
  | .supplyMonitorTrip _ => true
  | .bringUpPhase _ => true
  | .epochSettled => true
  | .glbResetWarm _ => true
  | .glbResetCold _ => true
  | .wrstN => true
  | .mcFault core => decide (core < 16)
  | .warmResetDrainEnd => true
  | .thermtrip sensor => decide (sensor < 16)
  | .tempHigh sensor => decide (sensor < 16)
  | .coreRateLow monitor => decide (monitor < 32)
  | .vddCoreLoop _ monitor _ _ => decide (monitor < 32)
  | .supply _ => true
  | .registerWrite fn bar off _ => fn.wf && fn.inBar bar off
  | .narrowAccess fn bar off _ _ => fn.wf && fn.inBar bar off
  | .glbCfgrptCtrlWrite _ => true
  | .glbCfgrptTailWrite _ => true
  | .cmdMringCtrlWrite m _ => decide (m < 2)
  | .sqTail m _ => decide (m < 2)
  | .cqHead m _ => decide (m < 2)
  | .descriptorFetch ring _ => ring.wf
  | .heldRecordFlush fn _ => fn.wf
  | .nop _ => true
  | .epochClaim _ => true
  | .objQuery _ => true
  | .objCommit _ _ => true
  | .objAbort _ => true
  | .generationCommitDone _ => true
  | .tblDrain _ => true
  | .rtWrite _ _ => true
  | .ghThreshSet _ => true
  | .capConfigFilter _ => true
  | .capConfigRing _ => true
  | .capTailWrite _ => true
  | .winWrite _ => true
  | .winLock _ => true
  | .winEpochFence _ => true
  | .mapWrite _ _ => true
  | .define _ _ _ => true
  | .attach _ => true
  | .detach _ site => site.wf
  | .destroy _ _ => true
  | .readmit _ _ => true
  | .dirPartitionSet _ _ => true
  | .dirQuotaSetHome _ => true
  | .dirQuotaSetDomain _ => true
  | .fabricApplyResend sw _ => decide (sw < 32)
  | .switchJoin sw _ => decide (sw < 32)
  | .sprigLoad _ _ _ => true
  | .sprigStart _ => true
  | .sprigStop _ => true
  | .commitLimitsSet _ => true
  | .telConfig _ => true
  | .pageMigrate _ => true
  | .moveSubmit _ _ => true
  | .arbClassSet _ => true
  | .queueSet _ => true
  | .policerSet _ => true
  | .shaperSet _ => true
  | .gclWrite _ _ => true
  | .portConfig _ => true
  | .portReset _ => true
  | .laneTest _ => true
  | .eyeScan _ => true
  | .eyeScanEnd lane _ _ _ => decide (lane < 512)
  | .oblConfigLink _ => true
  | .oblConfigRoute _ => true
  | .oblConfigFabric _ _ => true
  | .stwConfig _ => true
  | .vfCreate _ _ => true
  | .vfDestroy _ => true
  | .vecConfigLine _ => true
  | .vecConfigVector _ => true
  | .slotPolicySet _ => true
  | .slotThermalModelSet _ => true
  | .slotRelease _ => true
  | .slotOff _ => true
  | .slotTreadsSet _ => true
  | .slotUnlock _ => true
  | .unitRetire _ => true
  | .unitReturn _ _ => true
  | .unitJoin unit => decide (unit < 65536)
  | .timeConfig _ => true
  | .set _ => true
  | .calWrite _ _ => true
  | .calRestoreFactory _ => true
  | .imageUpdate _ _ => true
  | .flashOpDone _ => true
  | .flashEraseSector _ => true
  | .flashProgram _ => true
  | .flashRead _ => true
  | .forwardTimeout _ => true
  | .cmdFwd src _ => decide (src < 32)
  | .cplFwd _ _ => true
  | .epoch _ => true
  | .hostRequest r _ => decide (r.ingress < 129)
  | .policerRelease p => decide (p < 4096)
  | .mapCacheMissFill _ => true
  | .responseArrival r => decide (r.ingress < 129)
  | .egressSelect e _ => decide (e < 129)
  | .bankRelocationDone => true
  | .captureRecordWrite => true
  | .configRequest port fn _ => decide (port < 112) && fn.wf
  | .portEngineStop port => decide (port < 112)
  | .portEngineRestartDone port => decide (port < 112)
  | .marginingCommand lane _ => decide (lane < 512)
  | .linkUp port _ => decide (port < 112)
  | .equalizationFail port _ _ => decide (port < 112)
  | .portDown port => decide (port < 112)
  | .dpcRelease port => decide (port < 112)
  | .symbolLockLost lane _ => decide (lane < 512)
  | .recoveryRetrainDone port _ => decide (port < 112)
  | .l0pNarrow port => decide (port < 112)
  | .l0pRestore port => decide (port < 112)
  | .linkPowerState port _ => decide (port < 112)
  | .refclkLost q => decide (q < 4)
  | .refclkReturn q => decide (q < 4)
  | .portPerstN port _ => decide (port < 112)
  | .cachingRead r => decide (r.domain < 64)
  | .meminv r => decide (r.domain < 64)
  | .writeback r => decide (r.domain < 64)
  | .cleanEvict r => decide (r.domain < 64)
  | .nonCachingRead r => decide (r.domain < 64)
  | .nonCachingWrite r => decide (r.domain < 64)
  | .biconflict r => decide (r.domain < 64)
  | .birsp dla _ _ => decide (dla / 2 ^ 40 < 64)
  | .completionAck dla _ _ => decide (dla / 2 ^ 40 < 64)
  | .deliveryNotice dla sw => decide (dla / 2 ^ 40 < 64) && decide (sw < 32)
  | .dirCacheMissFill n _ _ _ _ => decide (n < 2 ^ 27)
  | .snoopTimeout dla _ => decide (dla / 2 ^ 40 < 64)
  | .epochBoundary => true
  | .heatSweep n _ => decide (n < 2 ^ 25)
  | .sprigWake slot => decide (slot < 32)
  | .sprigBudgetExpiry slot => decide (slot < 32)
  | .sprigTimerExpiry slot => decide (slot < 32)
  | .sageInDoorbell slot _ => decide (slot < 32)
  | .sageOutFullClear slot _ => decide (slot < 32)
  | .sagePlogCtrlWrite _ => true
  | .sagePlogTailWrite _ => true
  | .add slot rd ra rb => decide (slot < 32) && decide (rd < 32) && decide (ra < 32) && decide (rb < 32)
  | .sub slot rd ra rb => decide (slot < 32) && decide (rd < 32) && decide (ra < 32) && decide (rb < 32)
  | .and slot rd ra rb => decide (slot < 32) && decide (rd < 32) && decide (ra < 32) && decide (rb < 32)
  | .or slot rd ra rb => decide (slot < 32) && decide (rd < 32) && decide (ra < 32) && decide (rb < 32)
  | .xor slot rd ra rb => decide (slot < 32) && decide (rd < 32) && decide (ra < 32) && decide (rb < 32)
  | .shl slot rd ra rb => decide (slot < 32) && decide (rd < 32) && decide (ra < 32) && decide (rb < 32)
  | .shr slot rd ra rb => decide (slot < 32) && decide (rd < 32) && decide (ra < 32) && decide (rb < 32)
  | .sar slot rd ra rb => decide (slot < 32) && decide (rd < 32) && decide (ra < 32) && decide (rb < 32)
  | .mul slot rd ra rb => decide (slot < 32) && decide (rd < 32) && decide (ra < 32) && decide (rb < 32)
  | .mulhu slot rd ra rb => decide (slot < 32) && decide (rd < 32) && decide (ra < 32) && decide (rb < 32)
  | .divu slot rd ra rb => decide (slot < 32) && decide (rd < 32) && decide (ra < 32) && decide (rb < 32)
  | .remu slot rd ra rb => decide (slot < 32) && decide (rd < 32) && decide (ra < 32) && decide (rb < 32)
  | .ltu slot rd ra rb => decide (slot < 32) && decide (rd < 32) && decide (ra < 32) && decide (rb < 32)
  | .lt slot rd ra rb => decide (slot < 32) && decide (rd < 32) && decide (ra < 32) && decide (rb < 32)
  | .minu slot rd ra rb => decide (slot < 32) && decide (rd < 32) && decide (ra < 32) && decide (rb < 32)
  | .maxu slot rd ra rb => decide (slot < 32) && decide (rd < 32) && decide (ra < 32) && decide (rb < 32)
  | .popc slot rd ra => decide (slot < 32) && decide (rd < 32) && decide (ra < 32)
  | .clz slot rd ra => decide (slot < 32) && decide (rd < 32) && decide (ra < 32)
  | .addi slot rd ra _ => decide (slot < 32) && decide (rd < 32) && decide (ra < 32)
  | .andi slot rd ra _ => decide (slot < 32) && decide (rd < 32) && decide (ra < 32)
  | .ori slot rd ra _ => decide (slot < 32) && decide (rd < 32) && decide (ra < 32)
  | .xori slot rd ra _ => decide (slot < 32) && decide (rd < 32) && decide (ra < 32)
  | .shli slot rd ra _ => decide (slot < 32) && decide (rd < 32) && decide (ra < 32)
  | .shri slot rd ra _ => decide (slot < 32) && decide (rd < 32) && decide (ra < 32)
  | .sari slot rd ra _ => decide (slot < 32) && decide (rd < 32) && decide (ra < 32)
  | .ltui slot rd ra _ => decide (slot < 32) && decide (rd < 32) && decide (ra < 32)
  | .lti slot rd ra _ => decide (slot < 32) && decide (rd < 32) && decide (ra < 32)
  | .immhi slot rd ra _ => decide (slot < 32) && decide (rd < 32) && decide (ra < 32)
  | .ld slot rd ra _ _ => decide (slot < 32) && decide (rd < 32) && decide (ra < 32)
  | .st slot ra rb _ => decide (slot < 32) && decide (ra < 32) && decide (rb < 32)
  | .br slot cond ra rb _ => decide (slot < 32) && decide (cond < 9) && decide (ra < 32) && decide (rb < 32)
  | .call slot rd _ => decide (slot < 32) && decide (rd < 32)
  | .jumpr slot rd ra _ => decide (slot < 32) && decide (rd < 32) && decide (ra < 32)
  | .wait slot rd => decide (slot < 32) && decide (rd < 32)
  | .halt slot => decide (slot < 32)
  | .timer slot ra _ => decide (slot < 32) && decide (ra < 32)
  | .time slot rd => decide (slot < 32) && decide (rd < 32)
  | .epochn slot rd => decide (slot < 32) && decide (rd < 32)
  | .hotpop slot rd _ => decide (slot < 32) && decide (rd < 32)
  | .heatrd slot rd ra rb _ _ => decide (slot < 32) && decide (rd < 32) && decide (ra < 32) && decide (rb < 32)
  | .heatidx slot rd ra _ => decide (slot < 32) && decide (rd < 32) && decide (ra < 32)
  | .egrd slot rd ra _ _ => decide (slot < 32) && decide (rd < 32) && decide (ra < 32)
  | .maprd slot rd ra rb => decide (slot < 32) && decide (rd < 32) && decide (ra < 32) && decide (rb < 32)
  | .poolrd slot rd ra => decide (slot < 32) && decide (rd < 32) && decide (ra < 32)
  | .prop slot rd src => decide (slot < 32) && decide (rd < 32) && decide (src.ra < 32)
  | .res slot rd => decide (slot < 32) && decide (rd < 32)
  | .mbrd slot rd _ => decide (slot < 32) && decide (rd < 32)
  | .mbwr slot ra _ => decide (slot < 32) && decide (ra < 32)
  | .mbsend slot rd => decide (slot < 32) && decide (rd < 32)
  | .mbdone slot => decide (slot < 32)
  | .migrate slot => decide (slot < 32)
  | .split slot => decide (slot < 32)
  | .weight slot => decide (slot < 32)
  | .policer slot => decide (slot < 32)
  | .note slot => decide (slot < 32)
  | .propFwd src slot _ _ => decide (src < 32) && decide (slot < 32)
  | .propRes _ _ slot => decide (slot < 32)
  | .proposalTimeout slot _ => decide (slot < 32)
  | .arbiterTick g => decide (g < 8)
  | .moverDecision m _ => decide (m < 64)
  | .burstEnd m => decide (m < 64)
  | .moverLineComplete m _ => decide (m < 64)
  | .moverWatchdog m => decide (m < 64)
  | .migrationMarkCommitted k => decide (k < 256)
  | .migrationFenceDrained k => decide (k < 256)
  | .migrationLineCopied k _ mover _ => decide (k < 256) && decide (mover < 64)
  | .migrationSwapCommitted k => decide (k < 256)
  | .migrationSettled k => decide (k < 256)
  | .migrationUndoDone k => decide (k < 256)
  | .gateEntryChange e => decide (e < 129)
  | .gclSwitchover e => decide (e < 129)
  | .histSample e => decide (e < 129)
  | .histClear e _ => decide (e < 129)
  | .payloadFlit l _ _ _ _ => decide (l < 8)
  | .idleFlit l _ _ => decide (l < 8)
  | .microFlit l mf _ => decide (l < 8) && decide (mf.dest < 32)
  | .replayTimer l _ => decide (l < 8)
  | .retrainDone l _ => decide (l < 8)
  | .oblTrainingStep l _ => decide (l < 8)
  | .init l _ => decide (l < 8)
  | .creditTimeout l vc => decide (l < 8) && decide (vc < 4)
  | .flowQuiescence dest ingress vc => decide (dest < 32) && decide (ingress < 129) && decide (vc < 4)
  | .sleepEntry l => decide (l < 8)
  | .sleep l => decide (l < 8)
  | .directionWake l => decide (l < 8)
  | .heartbeatSend => true
  | .heartbeat _ _ => true
  | .mgrLost => true
  | .messageRelease l m => decide (l < 8) && m.wf
  | .flowRestart l m => decide (l < 8) && m.wf
  | .gap l m => decide (l < 8) && m.wf
  | .intx l m => decide (l < 8) && m.wf
  | .sideband l m => decide (l < 8) && m.wf
  | .sidebandOut l m => decide (l < 8) && m.wf
  | .mrdlk port owner ingress => decide (port < 112) && decide (owner < 32) && decide (ingress < 129)
  | .unlock port owner ingress => decide (port < 112) && decide (owner < 32) && decide (ingress < 129)
  | .lockTimeout port => decide (port < 112)
  | .vfSqTail vf _ => decide (vf < 2048)
  | .vfCqHead vf _ => decide (vf < 2048)
  | .eqHead vf _ => decide (vf < 2048)
  | .mbSend vf _ => decide (vf < 2048)
  | .mbDone vf _ => decide (vf < 2048)
  | .vfInDoorbell _ => true
  | .vfOutFullClear _ => true
  | .vfCringCtrlWrite vf _ => decide (vf < 2048)
  | .vfEvqCtrlWrite vf _ => decide (vf < 2048)
  | .functionLevelReset vf => decide (vf < 2048)
  | .vfEnableClear _ _ => true
  | .pfConventionalReset => true
  | .fltStatusWrite _ => true
  | .evtPendWrite r _ => decide (r < 64)
  | .evtMaskWrite r _ => decide (r < 64)
  | .winDenyInfoWrite h _ => decide (h < 64)
  | .coalescerTimer vec => decide (vec < 8192)
  | .msixUnmask vec => decide (vec < 8192)
  | .slotSample c _ => decide (c < 32)
  | .fastTrip c => decide (c < 32)
  | .presenceChange c _ _ => decide (c < 32)
  | .seated c => decide (c < 32)
  | .prsntMismatch c => decide (c < 32)
  | .unseated c _ => decide (c < 32)
  | .seatingAbandoned c => decide (c < 32)
  | .inrushTimeout c => decide (c < 32)
  | .busAbort c => decide (c < 32)
  | .outShort c => decide (c < 32)
  | .perstDeassert c => decide (c < 32)
  | .retryCountClear c => decide (c < 32)
  | .stoppingGateOff c => decide (c < 32)
  | .backoffEnd c => decide (c < 32)
  | .autoRelease c => decide (c < 32)
  | .placeFree => true
  | .hostPowerControl c _ => decide (c < 32)
  | .wakeN c _ => decide (c < 32)
  | .attnBtnN c _ => decide (c < 32)
  | .ppsIn _ => true
  | .sourceLost kind => decide (kind < 4)
  | .timeFreqInLoss => true
  | .thymeStep => true
  | .ppsOutPulse => true
  | .syncExchange => true
  | .timeReq l src _ _ => decide (l < 8) && decide (src < 32)
  | .timeRsp _ _ _ _ _ _ _ => true
  | .dbgChallenge => true
  | .dbgResponse _ => true
  | .spdmRequest _ => true
  | .kSetGo _ => true
  | .ideFail _ => true
  | .coldResetRelease _ _ _ _ => true
  | .commaLockLost lane => decide (lane < 512)
  | .linkDrainTimeout l => decide (l < 8)
  | .tempHighClear => true
  | .moverRestartDone m => decide (m < 64)
  | .functionLevelResetEnd vf => decide (vf < 2048)
  | .reloadComplete host port => host.all (fun n => decide (n < 64)) && port.all (fun n => decide (n < 112))

end Sys2Proof
end

