-- ==== Sys2Proof/Safety.lean ====
section
/-! DEFINITION. What counts as a safe step, and the words that statements are made of: which parts of the state a
command leaves alone, what a running Sage instruction needs, and what a sequenced command needs to run. -/

namespace Sys2Proof.Machine

/-- The step answers a next state: no fault and no refusal. -/
def Completes (s : State) : Prop := ∃ t, step s = .next t

/-- Every command waiting in the queue names only units that exist. -/
def QueueWf (s : State) : Prop := ∀ c ∈ s.pending, c.wf = true

/-! ## Frames -/

/-- The areas of the state. -/
inductive Area where
  | pending | out | free | glb | cmd | host | port | gh | cap | win | dir | sage | tel | move | sched | obl | stw
  | vf | evt | slot | flt | time | sec | pwr
deriving DecidableEq, Repr

/-- Two states agree in a part. -/
def Area.same (s t : State) : Area → Prop
  | .pending => t.pending = s.pending
  | .out => t.out = s.out
  | .free => t.free = s.free
  | .glb => t.glb = s.glb
  | .cmd => t.cmd = s.cmd
  | .host => t.host = s.host
  | .port => t.port = s.port
  | .gh => t.gh = s.gh
  | .cap => t.cap = s.cap
  | .win => t.win = s.win
  | .dir => t.dir = s.dir
  | .sage => t.sage = s.sage
  | .tel => t.tel = s.tel
  | .move => t.move = s.move
  | .sched => t.sched = s.sched
  | .obl => t.obl = s.obl
  | .stw => t.stw = s.stw
  | .vf => t.vf = s.vf
  | .evt => t.evt = s.evt
  | .slot => t.slot = s.slot
  | .flt => t.flt = s.flt
  | .time => t.time = s.time
  | .sec => t.sec = s.sec
  | .pwr => t.pwr = s.pwr

/-- `t` agrees with `s` in every part that is not listed. -/
def OnlyAreas (ps : List Area) (s t : State) : Prop := ∀ p : Area, p ∉ ps → p.same s t

/-- The parts that the event lines, vectors and host-memory records of 13 and 02 R468 change: a fault is raised into
flt, its line into evt, a message leaves in out or is held, and an open DETAIL word comes from free. -/
def eventAreas : List Area := [.out, .free, .evt, .flt]

/-! ## Port widths (03 R80, R84) -/

/-- Width `w` is one of x16 to x1, within the port's lanes and within `most`, and uses no retired lane. -/
def FitsWidth (s : State) (p most w : Nat) : Prop :=
  w ∈ [16, 8, 4, 2, 1] ∧ w ≤ portLanes s p ∧ w ≤ most ∧
    ∀ l ∈ lanesOf s p, (getLane s l).logical < w → (getLane s l).retired = false

/-- The widest width that fits. -/
def Widest (s : State) (p most w : Nat) : Prop :=
  FitsWidth s p most w ∧ ∀ v ∈ [16, 8, 4, 2, 1], FitsWidth s p most v → v ≤ w

/-! ## Sage (07) -/

/-- The slot's code holds a legal instruction at `pc`, so that going on there is no sprig fault (07 R206-R208). -/
def CodeAt (s : State) (slot pc : Nat) : Prop :=
  ∃ w, (getSlot s slot).code[pc / 8]? = some w ∧ legalWord w = true

/-- What register `r` of a slot reads as; g0 reads as zero (07 R204). -/
def reg (s : State) (slot r : Nat) : Word := if r = 0 then 0 else tget 0 (getSlot s slot).regs r

/-- The slot after an instruction that writes `v` to register `rd` and goes on at `pc`; g0 is not written (07 R204). -/
def slotWrote (s : State) (slot rd : Nat) (v : Word) (pc : Nat) : SageSlot :=
  { getSlot s slot with regs := if rd = 0 then (getSlot s slot).regs else tput 0 (getSlot s slot).regs rd v, pc := pc }

/-- The outcome of an instruction that writes `v` to `rd`, goes on at the next word and changes nothing else. -/
def Wrote (s : State) (slot rd : Nat) (v : Word) : Out :=
  .next (setSlot slot (slotWrote s slot rd v ((getSlot s slot).pc + 8)) s)

/-! ## Sequenced commands (02) -/

/-- The sequenced command `c` with arrival number `seq` runs now as opcode `op`: it is in flight and may start (02 R56,
R67), its object exists and has the expected version where it carries one (02 R61, R65), and the epoch is settled for
it (10 R307). The checks of R61 that come earlier were made when it arrived (02 R64). -/
def Runs (s : State) (seq op : Nat) (c : SeqCmd) : Prop :=
  findCmd s seq = some c ∧ c.desc.opcode.toNat = op ∧ canStart s c = true ∧ unsettled s c = false ∧
    (globalOp op = true ∨
      (objExists s (objClass c.desc.objectId) (objIndex c.desc.objectId) = true ∧
        opActs op (objClass c.desc.objectId) (objIndex c.desc.objectId) = true ∧
        (versioned c = true → c.desc.expectVersion = w64 (objVersion s c.desc.objectId))))

/-- The argument data of the command lie outside every aperture, so that the read goes up to the host, or it reads none
(05 R140). -/
def ReadsUp (s : State) (fetch : Bool) (range : ArgRange) (c : SeqCmd) : Prop :=
  (range c.desc).2 = 0 ∨ readUp s (cmdFn c) fetch (range c.desc).1 (range c.desc).2 = true

/-- The command completes on state `s`, which its own effect has made: its clamps are reported (02 R72), its object's
version rises if it changes state (02 R65), and its completion carries OK or OK_CLAMPED, the version and the result
(02 R59). -/
def Completed (c : SeqCmd) (bump : Bool) (result : Word) (ks : List FieldClamp) (s : State) : State :=
  let s1 := reportClamps c ks (if bump then bumpVer (verKey c.desc.objectId) s else s)
  finish c (if ks.isEmpty then OK else OK_CLAMPED) (!ks.isEmpty)
    (if globalOp c.desc.opcode.toNat then 0 else objVersion s1 c.desc.objectId) result s1

/-- The command has been checked and waits for its completion (02 R67). -/
def NowWaits (c : SeqCmd) (ks : List FieldClamp) (s : State) : State :=
  settle (setNote c.seq (b2n (!ks.isEmpty)) (setStage c.seq .waiting (reportClamps c ks s)))

/-! ## What every step keeps -/

/-- Straps, security, Thyme and power lie in the ranges the spec gives them: the latched straps (18 R451), the saturating
count of failed debug openings and its lock (17 R434), at most 8 SPDM sessions (17 R430), 7-bit security versions, the
canonical form of the flash (log entry 16), the settings of Thyme (16 R417), the time of day with its nanoseconds, and the
settings and target of VDD_CORE (17 R439, R441). -/
structure Legal (s : State) : Prop where
  straps : s.glb.switchId < 32 ∧ s.glb.pb0Bifur ≤ 4 ∧ s.glb.timeRef ≤ 2
  debug : s.sec.debugFails ≤ 3 ∧ (s.sec.debugLocked = true ↔ s.sec.debugFails = 3)
  sessions : s.sec.sessions ≤ 8
  versions : s.sec.svMin < 128 ∧ s.sec.svBooted < 128
  flash : twf 0xFF#8 s.sec.flash = true
  clock : s.time.now < 2 ^ 64 ∧ s.time.subNs < 10 ^ 9 ∧ s.time.localNs < 2 ^ 64
  slew : 1 ≤ s.time.cfg.slewPpm ∧ s.time.cfg.slewPpm ≤ 50
  sync : 1 ≤ s.time.cfg.syncMs ∧ s.time.cfg.syncMs ≤ 1000
  hold : 1 ≤ s.time.cfg.holdPpb ∧ s.time.cfg.holdPpb ≤ 65535
  pulse : 1 ≤ s.time.cfg.ppsWidthUs ∧ s.time.cfg.ppsWidthUs ≤ 250000
  limits : 620 ≤ s.pwr.vminMv ∧ s.pwr.vminMv ≤ s.pwr.vmaxMv ∧ s.pwr.vmaxMv ≤ 850 ∧ s.pwr.guardKppm ≤ 100
  voltage : 620 ≤ s.pwr.fixedMv ∧ s.pwr.fixedMv ≤ 850 ∧ 620 ≤ s.pwr.targetMv ∧ s.pwr.targetMv ≤ 850

end Sys2Proof.Machine
end

