-- ==== Sys2Proof/Certificates/Slice0/Obligations.lean ====
section
/-! DEFINITION. The statements about the model: one `Obligations.<Name>` per entry of OBLIGATIONS.json. -/

open Sys2Proof Sys2Proof.Machine

/-- The command answers a next state, whose queue is the one it was given. -/
def Answers (s : State) (c : Instr) : Prop := ∃ t, exec c s = .next t ∧ t.pending = s.pending

/-- Each command of spec 00 to 03 answers. -/
def ResetRingAndPortCommandsAnswer (s : State) : Prop :=
  (∀ cause, Answers s (.coldReset cause)) ∧
  (∀ boot, Answers s (.bringUpPhase boot)) ∧
  (∀ v, Answers s (.glbResetWarm v)) ∧
  (∀ v, Answers s (.glbResetCold v)) ∧
  Answers s .warmResetDrainEnd ∧
  (∀ monitor, monitor < 32 → Answers s (.coreRateLow monitor)) ∧
  (∀ fn bar off v, fn.wf = true → fn.inBar bar off = true → Answers s (.registerWrite fn bar off v)) ∧
  (∀ fn bar off write v, fn.wf = true → fn.inBar bar off = true → Answers s (.narrowAccess fn bar off write v)) ∧
  (∀ v, Answers s (.glbCfgrptCtrlWrite v)) ∧
  (∀ v, Answers s (.glbCfgrptTailWrite v)) ∧
  (∀ m v, m < 2 → Answers s (.cmdMringCtrlWrite m v)) ∧
  (∀ m v, m < 2 → Answers s (.sqTail m v)) ∧
  (∀ m v, m < 2 → Answers s (.cqHead m v)) ∧
  (∀ ring d, ring.wf = true → Answers s (.descriptorFetch ring d)) ∧
  (∀ fn portUp, fn.wf = true → Answers s (.heldRecordFlush fn portUp)) ∧
  (∀ seq, Answers s (.nop seq)) ∧
  (∀ seq, Answers s (.epochClaim seq)) ∧
  (∀ seq, Answers s (.objQuery seq)) ∧
  (∀ seq hashOk, Answers s (.objCommit seq hashOk)) ∧
  (∀ seq, Answers s (.objAbort seq)) ∧
  (∀ seq, Answers s (.portConfig seq)) ∧
  (∀ seq, Answers s (.portReset seq)) ∧
  (∀ seq, Answers s (.laneTest seq)) ∧
  (∀ seq, Answers s (.eyeScan seq)) ∧
  (∀ lane seq last counts, lane < 512 → Answers s (.eyeScanEnd lane seq last counts)) ∧
  (∀ seq, Answers s (.forwardTimeout seq)) ∧
  (∀ src d, src < 32 → Answers s (.cmdFwd src d)) ∧
  (∀ seq cpl, Answers s (.cplFwd seq cpl)) ∧
  (∀ r, r.ingress < 129 → Answers s (.responseArrival r)) ∧
  (∀ port fn op, port < 112 → fn.wf = true → Answers s (.configRequest port fn op)) ∧
  (∀ port, port < 112 → Answers s (.portEngineStop port)) ∧
  (∀ port, port < 112 → Answers s (.portEngineRestartDone port)) ∧
  (∀ lane start, lane < 512 → Answers s (.marginingCommand lane start)) ∧
  (∀ port info, port < 112 → Answers s (.linkUp port info)) ∧
  (∀ port rate second, port < 112 → Answers s (.equalizationFail port rate second)) ∧
  (∀ port, port < 112 → Answers s (.portDown port)) ∧
  (∀ lane seen, lane < 512 → Answers s (.symbolLockLost lane seen)) ∧
  (∀ port width, port < 112 → Answers s (.recoveryRetrainDone port width)) ∧
  (∀ port, port < 112 → Answers s (.l0pNarrow port)) ∧
  (∀ port, port < 112 → Answers s (.l0pRestore port)) ∧
  (∀ port dst, port < 112 → Answers s (.linkPowerState port dst)) ∧
  (∀ q, q < 4 → Answers s (.refclkLost q)) ∧
  (∀ q, q < 4 → Answers s (.refclkReturn q))

/-- Each command of spec 04 and 05 answers. -/
def RouteAndWindowCommandsAnswer (s : State) : Prop :=
  (∀ seq, Answers s (.generationCommitDone seq)) ∧
  (∀ seq, Answers s (.tblDrain seq)) ∧
  (∀ seq data, Answers s (.rtWrite seq data)) ∧
  (∀ seq, Answers s (.ghThreshSet seq)) ∧
  (∀ seq, Answers s (.capConfigFilter seq)) ∧
  (∀ seq, Answers s (.capConfigRing seq)) ∧
  (∀ v, Answers s (.capTailWrite v)) ∧
  (∀ seq, Answers s (.winWrite seq)) ∧
  (∀ seq, Answers s (.winLock seq)) ∧
  (∀ seq, Answers s (.winEpochFence seq)) ∧
  (∀ seq data, Answers s (.mapWrite seq data)) ∧
  (∀ r hw, r.ingress < 129 → Answers s (.hostRequest r hw)) ∧
  (∀ hw, Answers s (.mapCacheMissFill hw)) ∧
  Answers s .bankRelocationDone ∧
  Answers s .captureRecordWrite ∧
  (∀ h v, h < 64 → Answers s (.winDenyInfoWrite h v)) ∧
  (∀ host port, (Instr.reloadComplete host port).wf = true → Answers s (.reloadComplete host port))

/-- Each command of spec 06 answers. -/
def CoherenceCommandsAnswer (s : State) : Prop :=
  (∀ seq data answers, Answers s (.define seq data answers)) ∧
  (∀ seq, Answers s (.attach seq)) ∧
  (∀ seq site, site.wf = true → Answers s (.detach seq site)) ∧
  (∀ seq answers, Answers s (.destroy seq answers)) ∧
  (∀ seq answers, Answers s (.readmit seq answers)) ∧
  (∀ seq answers, Answers s (.dirPartitionSet seq answers)) ∧
  (∀ seq, Answers s (.dirQuotaSetHome seq)) ∧
  (∀ seq, Answers s (.dirQuotaSetDomain seq)) ∧
  (∀ r, r.domain < 64 → Answers s (.cachingRead r)) ∧
  (∀ r, r.domain < 64 → Answers s (.meminv r)) ∧
  (∀ r, r.domain < 64 → Answers s (.writeback r)) ∧
  (∀ r, r.domain < 64 → Answers s (.cleanEvict r)) ∧
  (∀ r, r.domain < 64 → Answers s (.nonCachingRead r)) ∧
  (∀ r, r.domain < 64 → Answers s (.nonCachingWrite r)) ∧
  (∀ r, r.domain < 64 → Answers s (.biconflict r)) ∧
  (∀ dla participant ans, dla / 2 ^ 40 < 64 → Answers s (.birsp dla participant ans)) ∧
  (∀ dla kind ecc, dla / 2 ^ 40 < 64 → Answers s (.completionAck dla kind ecc)) ∧
  (∀ dla sw, dla / 2 ^ 40 < 64 → sw < 32 → Answers s (.deliveryNotice dla sw)) ∧
  (∀ n ecc0 ecc1 way retry, n < 2 ^ 27 → n < 2 ^ dirBits s → Answers s (.dirCacheMissFill n ecc0 ecc1 way retry)) ∧
  (∀ dla participant, dla / 2 ^ 40 < 64 → Answers s (.snoopTimeout dla participant))

/-- Each command of spec 07 answers. -/
def PlacementCommandsAnswer (s : State) : Prop :=
  (∀ seq code data, Answers s (.sprigLoad seq code data)) ∧
  (∀ seq, Answers s (.sprigStart seq)) ∧
  (∀ seq, Answers s (.sprigStop seq)) ∧
  (∀ seq, Answers s (.commitLimitsSet seq)) ∧
  (∀ seq, Answers s (.telConfig seq)) ∧
  Answers s .epochBoundary ∧
  (∀ n bad, n < 2 ^ 25 → n < 2 ^ heatBits s → Answers s (.heatSweep n bad)) ∧
  (∀ slot, slot < 32 → Answers s (.sprigWake slot)) ∧
  (∀ slot, slot < 32 → Answers s (.sprigBudgetExpiry slot)) ∧
  (∀ slot, slot < 32 → Answers s (.sprigTimerExpiry slot)) ∧
  (∀ slot v, slot < 32 → Answers s (.sageInDoorbell slot v)) ∧
  (∀ slot v, slot < 32 → Answers s (.sageOutFullClear slot v)) ∧
  (∀ v, Answers s (.sagePlogCtrlWrite v)) ∧
  (∀ v, Answers s (.sagePlogTailWrite v)) ∧
  (∀ slot rd ra rb, slot < 32 → rd < 32 → ra < 32 → rb < 32 → Answers s (.add slot rd ra rb)) ∧
  (∀ slot rd ra rb, slot < 32 → rd < 32 → ra < 32 → rb < 32 → Answers s (.sub slot rd ra rb)) ∧
  (∀ slot rd ra rb, slot < 32 → rd < 32 → ra < 32 → rb < 32 → Answers s (.and slot rd ra rb)) ∧
  (∀ slot rd ra rb, slot < 32 → rd < 32 → ra < 32 → rb < 32 → Answers s (.or slot rd ra rb)) ∧
  (∀ slot rd ra rb, slot < 32 → rd < 32 → ra < 32 → rb < 32 → Answers s (.xor slot rd ra rb)) ∧
  (∀ slot rd ra rb, slot < 32 → rd < 32 → ra < 32 → rb < 32 → Answers s (.shl slot rd ra rb)) ∧
  (∀ slot rd ra rb, slot < 32 → rd < 32 → ra < 32 → rb < 32 → Answers s (.shr slot rd ra rb)) ∧
  (∀ slot rd ra rb, slot < 32 → rd < 32 → ra < 32 → rb < 32 → Answers s (.sar slot rd ra rb)) ∧
  (∀ slot rd ra rb, slot < 32 → rd < 32 → ra < 32 → rb < 32 → Answers s (.mul slot rd ra rb)) ∧
  (∀ slot rd ra rb, slot < 32 → rd < 32 → ra < 32 → rb < 32 → Answers s (.mulhu slot rd ra rb)) ∧
  (∀ slot rd ra rb, slot < 32 → rd < 32 → ra < 32 → rb < 32 → Answers s (.divu slot rd ra rb)) ∧
  (∀ slot rd ra rb, slot < 32 → rd < 32 → ra < 32 → rb < 32 → Answers s (.remu slot rd ra rb)) ∧
  (∀ slot rd ra rb, slot < 32 → rd < 32 → ra < 32 → rb < 32 → Answers s (.ltu slot rd ra rb)) ∧
  (∀ slot rd ra rb, slot < 32 → rd < 32 → ra < 32 → rb < 32 → Answers s (.lt slot rd ra rb)) ∧
  (∀ slot rd ra rb, slot < 32 → rd < 32 → ra < 32 → rb < 32 → Answers s (.minu slot rd ra rb)) ∧
  (∀ slot rd ra rb, slot < 32 → rd < 32 → ra < 32 → rb < 32 → Answers s (.maxu slot rd ra rb)) ∧
  (∀ slot rd ra, slot < 32 → rd < 32 → ra < 32 → Answers s (.popc slot rd ra)) ∧
  (∀ slot rd ra, slot < 32 → rd < 32 → ra < 32 → Answers s (.clz slot rd ra)) ∧
  (∀ slot rd ra imm, slot < 32 → rd < 32 → ra < 32 → Answers s (.addi slot rd ra imm)) ∧
  (∀ slot rd ra imm, slot < 32 → rd < 32 → ra < 32 → Answers s (.andi slot rd ra imm)) ∧
  (∀ slot rd ra imm, slot < 32 → rd < 32 → ra < 32 → Answers s (.ori slot rd ra imm)) ∧
  (∀ slot rd ra imm, slot < 32 → rd < 32 → ra < 32 → Answers s (.xori slot rd ra imm)) ∧
  (∀ slot rd ra imm, slot < 32 → rd < 32 → ra < 32 → Answers s (.shli slot rd ra imm)) ∧
  (∀ slot rd ra imm, slot < 32 → rd < 32 → ra < 32 → Answers s (.shri slot rd ra imm)) ∧
  (∀ slot rd ra imm, slot < 32 → rd < 32 → ra < 32 → Answers s (.sari slot rd ra imm)) ∧
  (∀ slot rd ra imm, slot < 32 → rd < 32 → ra < 32 → Answers s (.ltui slot rd ra imm)) ∧
  (∀ slot rd ra imm, slot < 32 → rd < 32 → ra < 32 → Answers s (.lti slot rd ra imm)) ∧
  (∀ slot rd ra imm, slot < 32 → rd < 32 → ra < 32 → Answers s (.immhi slot rd ra imm)) ∧
  (∀ slot rd ra imm ecc, slot < 32 → rd < 32 → ra < 32 → Answers s (.ld slot rd ra imm ecc)) ∧
  (∀ slot ra rb imm, slot < 32 → ra < 32 → rb < 32 → Answers s (.st slot ra rb imm)) ∧
  (∀ slot cond ra rb imm, slot < 32 → cond < 9 → ra < 32 → rb < 32 → Answers s (.br slot cond ra rb imm)) ∧
  (∀ slot rd imm, slot < 32 → rd < 32 → Answers s (.call slot rd imm)) ∧
  (∀ slot rd ra imm, slot < 32 → rd < 32 → ra < 32 → Answers s (.jumpr slot rd ra imm)) ∧
  (∀ slot rd, slot < 32 → rd < 32 → Answers s (.wait slot rd)) ∧
  (∀ slot, slot < 32 → Answers s (.halt slot)) ∧
  (∀ slot ra imm, slot < 32 → ra < 32 → Answers s (.timer slot ra imm)) ∧
  (∀ slot rd, slot < 32 → rd < 32 → Answers s (.time slot rd)) ∧
  (∀ slot rd, slot < 32 → rd < 32 → Answers s (.epochn slot rd)) ∧
  (∀ slot rd bad, slot < 32 → rd < 32 → Answers s (.hotpop slot rd bad)) ∧
  (∀ slot rd ra rb imm bad, slot < 32 → rd < 32 → ra < 32 → rb < 32 → Answers s (.heatrd slot rd ra rb imm bad)) ∧
  (∀ slot rd ra bad, slot < 32 → rd < 32 → ra < 32 → Answers s (.heatidx slot rd ra bad)) ∧
  (∀ slot rd ra imm bad, slot < 32 → rd < 32 → ra < 32 → Answers s (.egrd slot rd ra imm bad)) ∧
  (∀ slot rd ra rb, slot < 32 → rd < 32 → ra < 32 → rb < 32 → Answers s (.maprd slot rd ra rb)) ∧
  (∀ slot rd ra, slot < 32 → rd < 32 → ra < 32 → Answers s (.poolrd slot rd ra)) ∧
  (∀ slot rd src, slot < 32 → rd < 32 → src.ra < 32 → Answers s (.prop slot rd src)) ∧
  (∀ slot rd, slot < 32 → rd < 32 → Answers s (.res slot rd)) ∧
  (∀ slot rd imm, slot < 32 → rd < 32 → Answers s (.mbrd slot rd imm)) ∧
  (∀ slot ra imm, slot < 32 → ra < 32 → Answers s (.mbwr slot ra imm)) ∧
  (∀ slot rd, slot < 32 → rd < 32 → Answers s (.mbsend slot rd)) ∧
  (∀ slot, slot < 32 → Answers s (.mbdone slot)) ∧
  (∀ slot, slot < 32 → Answers s (.migrate slot)) ∧
  (∀ slot, slot < 32 → Answers s (.split slot)) ∧
  (∀ slot, slot < 32 → Answers s (.weight slot)) ∧
  (∀ slot, slot < 32 → Answers s (.policer slot)) ∧
  (∀ slot, slot < 32 → Answers s (.note slot)) ∧
  (∀ src slot epoch words, src < 32 → slot < 32 → Answers s (.propFwd src slot epoch words)) ∧
  (∀ status tag slot, slot < 32 → Answers s (.propRes status tag slot)) ∧
  (∀ slot tag, slot < 32 → Answers s (.proposalTimeout slot tag))

/-- Each command of spec 08 and 09 answers. -/
def MoverAndEgressCommandsAnswer (s : State) : Prop :=
  (∀ seq, Answers s (.pageMigrate seq)) ∧
  (∀ seq data, Answers s (.moveSubmit seq data)) ∧
  (∀ seq, Answers s (.arbClassSet seq)) ∧
  (∀ seq, Answers s (.queueSet seq)) ∧
  (∀ seq, Answers s (.policerSet seq)) ∧
  (∀ seq, Answers s (.shaperSet seq)) ∧
  (∀ seq data, Answers s (.gclWrite seq data)) ∧
  (∀ p, p < 4096 → Answers s (.policerRelease p)) ∧
  (∀ e hw, e < 129 → Answers s (.egressSelect e hw)) ∧
  (∀ g, g < 8 → Answers s (.arbiterTick g)) ∧
  (∀ m ecc, m < 64 → Answers s (.moverDecision m ecc)) ∧
  (∀ m, m < 64 → Answers s (.burstEnd m)) ∧
  (∀ m ev, m < 64 → Answers s (.moverLineComplete m ev)) ∧
  (∀ m, m < 64 → Answers s (.moverWatchdog m)) ∧
  (∀ k, k < 256 → Answers s (.migrationMarkCommitted k)) ∧
  (∀ k, k < 256 → Answers s (.migrationFenceDrained k)) ∧
  (∀ k line mover tag, k < 256 → mover < 64 → Answers s (.migrationLineCopied k line mover tag)) ∧
  (∀ k, k < 256 → Answers s (.migrationSwapCommitted k)) ∧
  (∀ k, k < 256 → Answers s (.migrationSettled k)) ∧
  (∀ k, k < 256 → Answers s (.migrationUndoDone k)) ∧
  (∀ e, e < 129 → Answers s (.gateEntryChange e)) ∧
  (∀ e, e < 129 → Answers s (.gclSwitchover e)) ∧
  (∀ e, e < 129 → Answers s (.histSample e)) ∧
  (∀ e v, e < 129 → Answers s (.histClear e v)) ∧
  (∀ m, m < 64 → Answers s (.moverRestartDone m))

/-- Each command of spec 10 and 11 answers. -/
def FabricCommandsAnswer (s : State) : Prop :=
  Answers s .epochSettled ∧
  (∀ sw applied, sw < 32 → Answers s (.fabricApplyResend sw applied)) ∧
  (∀ sw defs, sw < 32 → Answers s (.switchJoin sw defs)) ∧
  (∀ seq, Answers s (.oblConfigLink seq)) ∧
  (∀ seq, Answers s (.oblConfigRoute seq)) ∧
  (∀ seq answers, Answers s (.oblConfigFabric seq answers)) ∧
  (∀ seq, Answers s (.stwConfig seq)) ∧
  (∀ e, Answers s (.epoch e)) ∧
  (∀ l h crcOk fecCorrected part, l < 8 → Answers s (.payloadFlit l h crcOk fecCorrected part)) ∧
  (∀ l h crcOk, l < 8 → Answers s (.idleFlit l h crcOk)) ∧
  (∀ l mf crcOk, l < 8 → mf.dest < 32 → Answers s (.microFlit l mf crcOk)) ∧
  (∀ l hw, l < 8 → Answers s (.replayTimer l hw)) ∧
  (∀ l ok, l < 8 → Answers s (.retrainDone l ok)) ∧
  (∀ l step, l < 8 → Answers s (.oblTrainingStep l step)) ∧
  (∀ l info, l < 8 → Answers s (.init l info)) ∧
  (∀ l vc, l < 8 → vc < 4 → Answers s (.creditTimeout l vc)) ∧
  (∀ dest ingress vc, dest < 32 → ingress < 129 → vc < 4 → Answers s (.flowQuiescence dest ingress vc)) ∧
  (∀ l, l < 8 → Answers s (.sleepEntry l)) ∧
  (∀ l, l < 8 → Answers s (.sleep l)) ∧
  (∀ l, l < 8 → Answers s (.directionWake l)) ∧
  Answers s .heartbeatSend ∧
  (∀ e count, Answers s (.heartbeat e count)) ∧
  Answers s .mgrLost ∧
  (∀ l m, l < 8 → m.wf = true → Answers s (.messageRelease l m)) ∧
  (∀ l m, l < 8 → m.wf = true → Answers s (.flowRestart l m)) ∧
  (∀ l m, l < 8 → m.wf = true → Answers s (.gap l m)) ∧
  (∀ l m, l < 8 → m.wf = true → Answers s (.intx l m)) ∧
  (∀ l m, l < 8 → m.wf = true → Answers s (.sideband l m)) ∧
  (∀ l m, l < 8 → m.wf = true → Answers s (.sidebandOut l m)) ∧
  (∀ port owner ingress, port < 112 → owner < 32 → ingress < 129 → Answers s (.mrdlk port owner ingress)) ∧
  (∀ port owner ingress, port < 112 → owner < 32 → ingress < 129 → Answers s (.unlock port owner ingress)) ∧
  (∀ port, port < 112 → Answers s (.lockTimeout port)) ∧
  (∀ lane, lane < 512 → Answers s (.commaLockLost lane)) ∧
  (∀ l, l < 8 → Answers s (.linkDrainTimeout l))

/-- Each command of spec 12 to 14 answers. -/
def FunctionEventAndSlotCommandsAnswer (s : State) : Prop :=
  (∀ seq data, Answers s (.vfCreate seq data)) ∧
  (∀ seq, Answers s (.vfDestroy seq)) ∧
  (∀ seq, Answers s (.vecConfigLine seq)) ∧
  (∀ seq, Answers s (.vecConfigVector seq)) ∧
  (∀ seq, Answers s (.slotPolicySet seq)) ∧
  (∀ seq, Answers s (.slotThermalModelSet seq)) ∧
  (∀ seq, Answers s (.slotRelease seq)) ∧
  (∀ seq, Answers s (.slotOff seq)) ∧
  (∀ seq, Answers s (.slotTreadsSet seq)) ∧
  (∀ seq, Answers s (.slotUnlock seq)) ∧
  (∀ vf v, vf < 2048 → Answers s (.vfSqTail vf v)) ∧
  (∀ vf v, vf < 2048 → Answers s (.vfCqHead vf v)) ∧
  (∀ vf v, vf < 2048 → Answers s (.eqHead vf v)) ∧
  (∀ vf v, vf < 2048 → Answers s (.mbSend vf v)) ∧
  (∀ vf v, vf < 2048 → Answers s (.mbDone vf v)) ∧
  (∀ v, Answers s (.vfInDoorbell v)) ∧
  (∀ v, Answers s (.vfOutFullClear v)) ∧
  (∀ vf v, vf < 2048 → Answers s (.vfCringCtrlWrite vf v)) ∧
  (∀ vf v, vf < 2048 → Answers s (.vfEvqCtrlWrite vf v)) ∧
  (∀ vf, vf < 2048 → Answers s (.functionLevelReset vf)) ∧
  (∀ enable numVfs, Answers s (.vfEnableClear enable numVfs)) ∧
  Answers s .pfConventionalReset ∧
  (∀ r v, r < 64 → Answers s (.evtPendWrite r v)) ∧
  (∀ r v, r < 64 → Answers s (.evtMaskWrite r v)) ∧
  (∀ vec, vec < 8192 → Answers s (.coalescerTimer vec)) ∧
  (∀ vec, vec < 8192 → Answers s (.msixUnmask vec)) ∧
  (∀ c m, c < 32 → Answers s (.slotSample c m)) ∧
  (∀ c, c < 32 → Answers s (.fastTrip c)) ∧
  (∀ c long short, c < 32 → Answers s (.presenceChange c long short)) ∧
  (∀ c, c < 32 → Answers s (.seated c)) ∧
  (∀ c, c < 32 → Answers s (.prsntMismatch c)) ∧
  (∀ c long, c < 32 → Answers s (.unseated c long)) ∧
  (∀ c, c < 32 → Answers s (.seatingAbandoned c)) ∧
  (∀ c, c < 32 → Answers s (.inrushTimeout c)) ∧
  (∀ c, c < 32 → Answers s (.busAbort c)) ∧
  (∀ c, c < 32 → Answers s (.outShort c)) ∧
  (∀ c, c < 32 → Answers s (.perstDeassert c)) ∧
  (∀ c, c < 32 → Answers s (.retryCountClear c)) ∧
  (∀ c, c < 32 → Answers s (.stoppingGateOff c)) ∧
  (∀ c, c < 32 → Answers s (.backoffEnd c)) ∧
  (∀ c, c < 32 → Answers s (.autoRelease c)) ∧
  Answers s .placeFree ∧
  (∀ c on, c < 32 → Answers s (.hostPowerControl c on)) ∧
  (∀ c low, c < 32 → Answers s (.wakeN c low)) ∧
  (∀ c low, c < 32 → Answers s (.attnBtnN c low)) ∧
  (∀ vf, vf < 2048 → Answers s (.functionLevelResetEnd vf))

/-- Each command of spec 15 to 18 answers. -/
def FaultTimeAndManagementCommandsAnswer (s : State) : Prop :=
  (∀ rail, Answers s (.supplyMonitorTrip rail)) ∧
  Answers s .wrstN ∧
  (∀ core, core < 16 → Answers s (.mcFault core)) ∧
  (∀ sensor, sensor < 16 → Answers s (.thermtrip sensor)) ∧
  (∀ sensor, sensor < 16 → Answers s (.tempHigh sensor)) ∧
  (∀ ppm monitor ack readback, monitor < 32 → Answers s (.vddCoreLoop ppm monitor ack readback)) ∧
  (∀ readback, Answers s (.supply readback)) ∧
  (∀ seq, Answers s (.unitRetire seq)) ∧
  (∀ seq testOk, Answers s (.unitReturn seq testOk)) ∧
  (∀ unit, unit < 65536 → Answers s (.unitJoin unit)) ∧
  (∀ seq, Answers s (.timeConfig seq)) ∧
  (∀ seq, Answers s (.set seq)) ∧
  (∀ seq data, Answers s (.calWrite seq data)) ∧
  (∀ seq, Answers s (.calRestoreFactory seq)) ∧
  (∀ seq image, Answers s (.imageUpdate seq image)) ∧
  (∀ ok, Answers s (.flashOpDone ok)) ∧
  (∀ v, Answers s (.flashEraseSector v)) ∧
  (∀ v, Answers s (.flashProgram v)) ∧
  (∀ v, Answers s (.flashRead v)) ∧
  (∀ port, port < 112 → Answers s (.dpcRelease port)) ∧
  (∀ port asserted, port < 112 → Answers s (.portPerstN port asserted)) ∧
  (∀ v, Answers s (.fltStatusWrite v)) ∧
  (∀ freqOk, Answers s (.ppsIn freqOk)) ∧
  (∀ kind, kind < 4 → Answers s (.sourceLost kind)) ∧
  Answers s .timeFreqInLoss ∧
  Answers s .thymeStep ∧
  Answers s .ppsOutPulse ∧
  Answers s .syncExchange ∧
  (∀ l src tx seq, l < 8 → src < 32 → Answers s (.timeReq l src tx seq)) ∧
  (∀ seq t1 t2 t3 t4 state err, Answers s (.timeRsp seq t1 t2 t3 t4 state err)) ∧
  Answers s .dbgChallenge ∧
  (∀ valid, Answers s (.dbgResponse valid)) ∧
  (∀ op, Answers s (.spdmRequest op)) ∧
  (∀ stream, Answers s (.kSetGo stream)) ∧
  (∀ stream, Answers s (.ideFail stream)) ∧
  (∀ mgrSel pb0Bifur timeRef switchId, Answers s (.coldResetRelease mgrSel pb0Bifur timeRef switchId)) ∧
  Answers s .tempHighClear

/-- Every one of the 294 commands answers a next state on every state, whenever the units that it names exist. -/
def Obligations.EveryCommandOfExistingUnitsCompletes : Prop :=
  (∀ s : State,
    ResetRingAndPortCommandsAnswer s ∧
    RouteAndWindowCommandsAnswer s ∧
    CoherenceCommandsAnswer s ∧
    PlacementCommandsAnswer s ∧
    MoverAndEgressCommandsAnswer s ∧
    FabricCommandsAnswer s ∧
    FunctionEventAndSlotCommandsAnswer s ∧
    FaultTimeAndManagementCommandsAnswer s) ∧
  (∀ (c : Instr) (s : State) (r : Refusal), exec c s ≠ .refused r)

/-- A step is exec of the command at the front of the queue on the state with the rest; an empty queue only lets time pass. -/
def Obligations.StepRunsTheFrontCommand : Prop :=
  (∀ (c : Instr) (rest : List Instr) (s : State), step { s with pending := c :: rest } = exec c { s with pending := rest }) ∧
    (∀ s : State, s.pending = [] → ∃ t, step s = .next t ∧ t.time.localNs = (s.time.localNs + 1) % 2 ^ 64 ∧ OnlyAreas [.time] s t)

/-- At reset every block stands at the reset values its register tables give. -/
def Obligations.ResetLeavesTheStatedValues : Prop :=
  let s := State.reset
  s.pending = [] ∧ s.glb.ready = false ∧ s.glb.imageFail = false ∧ s.glb.warmSeen = false ∧ s.glb.clampCount = 0 ∧
  s.glb.rpt.enable = false ∧ s.glb.rpt.sizeLog2 = 6 ∧
  (∀ m, (getRing s (.mring m)).enable = false ∧ (getRing s (.mring m)).sizeLog2 = 4 ∧ (getRing s (.mring m)).fetched = 0) ∧
  s.cmd.ownEpoch = 0 ∧ s.gh.route.current = 1 ∧ (∀ h, (getHost s h).win.current = 1 ∧ (getHost s h).map.current = 1) ∧
  s.gh.free = 1376256 ∧ (∀ c, tget 6 s.gh.kCode c = 6) ∧ s.gh.ceLimit = 64 ∧
  s.sage.limits = ⟨256, 16, 10, 1, 2, 0x1F, 1024, 0⟩ ∧ s.tel.cfg = ⟨true, 6, 100, 1, 64, 0xFFFFFFFFFFFFFFFF⟩ ∧
  (∀ r, tget (BitVec.allOnes 64) s.evt.mask r = BitVec.allOnes 64 ∧ tget 0 s.evt.pend r = 0) ∧
  (∀ v, (getVec s v).countMax = 1) ∧ (∀ c, (getChan s c).state = .empty ∧ (getChan s c).gate = false) ∧
  s.flt.status = 0 ∧ s.flt.histHead = 0 ∧ s.flt.asserted = [] ∧
  s.time.state = .free ∧ s.time.cfg = ⟨1, 3, 2, 50, 10, 1000, true, false, 100000, 0, 0⟩ ∧ s.pwr.targetMv = 800

/-- The state with the registers of a ring replaced. -/
def RingSet (r : RingId) (g : CmdRing) (s : State) : Out := .next (setRing r g s)

/-- A doorbell is accepted unless it overruns its ring or lies behind the last accepted value, and else is a reported clamp. -/
def Obligations.DoorbellsMoveTailAndHead : Prop :=
  ∀ (s : State) (v : Word), s.glb.imageFail = false →
    let n := v.toNat % 2 ^ 32
    let ahead := fun (a b : Nat) => (a + 2 ^ 32 - b) % 2 ^ 32
    let behindOf := fun (last x : Nat) => 1 ≤ ahead last x ∧ ahead last x ≤ 2 ^ 31
    (∀ (r : RingId) (f : Fn) (page : Nat) (sq cq : Instr),
      ((∃ m < 2, r = .mring m ∧ f = .pf ∧ page = 0x1000 * m ∧ sq = .sqTail m v ∧ cq = .cqHead m v) ∨
        (∃ k < 2048, vfOpen s k = true ∧ r = .tenant k ∧ f = .vf k ∧ page = 0 ∧ sq = .vfSqTail k v ∧ cq = .vfCqHead k v)) →
      let g := getRing s r
      (ahead n g.fetched ≤ 2 ^ g.sizeLog2 → ¬behindOf g.sqTail n → exec sq s = RingSet r { g with sqTail := n } s) ∧
      ((2 ^ g.sizeLog2 < ahead n g.fetched ∨ behindOf g.sqTail n) →
        exec sq s = .next (clampAccess f 3 page 31 0 (w64 n) (w64 g.sqTail) s)) ∧
      (ahead g.written n ≤ 2 ^ g.cplSizeLog2 → ¬behindOf g.cqHead n → exec cq s = RingSet r { g with cqHead := n } s) ∧
      ((2 ^ g.cplSizeLog2 < ahead g.written n ∨ behindOf g.cqHead n) →
        exec cq s = .next (clampAccess f 3 (page + 8) 31 0 (w64 n) (w64 g.cqHead) s)) ∧
      (∀ off w u, let t := clampAccess f 3 off 31 0 w u s
        getRing t r = g ∧ t.glb.clampCount = sat64 s.glb.clampCount) ∧
      ¬behindOf n n)

/-- A write to a command ring’s CTRL register enables, sizes and routes the ring as R51 and R52 say. -/
def Obligations.RingControlRegisters : Prop :=
  ∀ (s : State) (v : Word) (r : RingId) (c : Instr), s.glb.imageFail = false →
    ((∃ m < 2, r = .mring m ∧ c = .cmdMringCtrlWrite m v) ∨
      (∃ f < 2048, vfOpen s f = true ∧ r = .tenant f ∧ c = .vfCringCtrlWrite f v)) →
    let g := getRing s r
    let top := match r with | .mring _ => 16 | .tenant _ => 12
    let size := max 4 (min top (v.toNat / 2 % 32))
    ∃ t, exec c s = .next t ∧
      (g.enable = false → ringActive s r = false → v.getLsbD 0 = true →
        (getRing t r).enable = true ∧ (getRing t r).sizeLog2 = size ∧ (getRing t r).fetched = 0 ∧ (getRing t r).written = 0 ∧
        (getRing t r).sqTail = 0 ∧ (getRing t r).cqHead = 0 ∧ (getRing t r).cplSizeLog2 = max g.cplSizeLog2 size ∧
        (getRing t r).vectorEn = v.getLsbD 32 ∧ (getRing t r).base = g.base ∧ (getRing t r).cplBase = g.cplBase) ∧
      (g.enable = true → v.getLsbD 0 = false →
        getRing t r = { g with enable := false, vector := (getRing t r).vector, vectorEn := v.getLsbD 32 }) ∧
      OnlyAreas [.cmd, .vf, .glb, .host, .out, .evt] s t

/-- The report ring, the proposal log and the capture ring take CTRL and TAIL writes as R48 and R74 say. -/
def Obligations.RecordRingRegisters : Prop :=
  ∀ (s : State) (v : Word),
    let legal := fun (produced consumed : Nat) => (v.toNat % 2 ^ 32 + 2 ^ 32 - consumed) % 2 ^ 32 ≤ (produced + 2 ^ 32 - consumed) % 2 ^ 32
    let size := fun (g : RecRing) => if g.enable then g.sizeLog2 else max 6 (min 16 (v.toNat / 2 % 32))
    (∃ t, exec (.glbCfgrptCtrlWrite v) s = .next t ∧ t.glb.rpt.enable = v.getLsbD 0 ∧ t.glb.rpt.sizeLog2 = size s.glb.rpt ∧
      t.glb.rpt.vectorEn = v.getLsbD 32 ∧ t.glb.rpt.base = s.glb.rpt.base ∧
      OnlyAreas [.glb, .host, .out, .evt] s t) ∧
    (∃ t, exec (.glbCfgrptTailWrite v) s = .next t ∧
      (legal s.glb.rpt.produced s.glb.rpt.consumed → t.glb.rpt.consumed = v.toNat % 2 ^ 32) ∧
      (¬legal s.glb.rpt.produced s.glb.rpt.consumed →
        t.glb.rpt.consumed = s.glb.rpt.consumed ∧ t.glb.clampCount = sat64 s.glb.clampCount) ∧
      OnlyAreas [.glb, .host, .out, .evt] s t) ∧
    (s.glb.imageFail = false →
      (∃ t, exec (.sagePlogCtrlWrite v) s = .next t ∧
        t.sage.plog = { s.sage.plog with
          enable := v.getLsbD 0, sizeLog2 := size s.sage.plog, vector := v.toNat / 2 ^ 16 % 2 ^ 13, vectorEn := v.getLsbD 32
          produced := if s.sage.plog.enable = false ∧ v.getLsbD 0 = true then 0 else s.sage.plog.produced
          consumed := if s.sage.plog.enable = false ∧ v.getLsbD 0 = true then 0 else s.sage.plog.consumed } ∧
        OnlyAreas [.sage, .glb, .host, .out, .evt] s t) ∧
      (legal s.sage.plog.produced s.sage.plog.consumed →
        exec (.sagePlogTailWrite v) s =
          .next { s with sage := { s.sage with plog := { s.sage.plog with consumed := v.toNat % 2 ^ 32 } } }) ∧
      (¬legal s.sage.plog.produced s.sage.plog.consumed → ∃ t, exec (.sagePlogTailWrite v) s = .next t ∧
        t.sage = s.sage ∧ t.glb.clampCount = sat64 s.glb.clampCount) ∧
      (legal s.cap.head s.cap.tail →
        exec (.capTailWrite v) s = .next { s with cap := { s.cap with tail := v.toNat % 2 ^ 32 } }) ∧
      (¬legal s.cap.head s.cap.tail → ∃ t, exec (.capTailWrite v) s = .next t ∧
        t.cap = s.cap ∧ t.glb.clampCount = sat64 s.glb.clampCount))

/-- A fetch takes the descriptor at FETCHED, gives it the next arrival number and sequences it; a failed read completes with DESC_FAULT. -/
def Obligations.DescriptorsAreFetchedInOrder : Prop :=
  ∀ (s : State) (r : RingId) (d : Desc), (match r with | .mring m => m < 2 | .tenant v => v < 2048) →
    let g := getRing s r
    let s1 := setRing r { g with fetched := (g.fetched + 1) % 2 ^ 32 } s
    (mayFetch s r = false → exec (.descriptorFetch r (some d)) s = .next s ∧ exec (.descriptorFetch r none) s = .next s) ∧
    (mayFetch s r = true → readUp s (ringFn r) true (descAddr g g.fetched) 64 = true → (r ≠ .mring 1 ∨ proxyHere s = false) →
      exec (.descriptorFetch r (some d)) s = .next (settle { s1 with cmd := { s1.cmd with
        seqNext := (s.cmd.seqNext + 1) % 2 ^ 64
        inflight := s.cmd.inflight ++ [⟨s.cmd.seqNext, .ring r, g.fetched % 2 ^ g.sizeLog2, d, .unchecked, 0, 0⟩] } })) ∧
    (mayFetch s r = true → readUp s (ringFn r) true (descAddr g g.fetched) 64 = true → ∃ c : SeqCmd, c.seq = s.cmd.seqNext ∧ c.origin = .ring r ∧
      exec (.descriptorFetch r none) s = .next (settle (retire c DESC_FAULT false 0 0
        { s1 with cmd := { s1.cmd with seqNext := (s.cmd.seqNext + 1) % 2 ^ 64 } })))

/-- CMD_FWD sequences a command of another switch, CPL_FWD and the 10 ms timeout complete a forwarded one. -/
def Obligations.ForwardedCommandsAndTheirAnswers : Prop :=
  ∀ (s : State) (src seq : Nat) (d : Desc) (x : Cpl), src < 32 →
    (∃ s0 : State, s0 = (if s.glb.mgrSel then s else { s with obl := { s.obl with mgrSwitch := src } }) ∧
      exec (.cmdFwd src d) s = .next (settle { s0 with cmd := { s0.cmd with
        seqNext := (s.cmd.seqNext + 1) % 2 ^ 64
        inflight := s.cmd.inflight ++
          [⟨s.cmd.seqNext, if s.glb.mgrSel then .proxy src else .fromManager src, 0, d, .unchecked, 0, 0⟩] } })) ∧
    (∀ c, findCmd s seq = some c → c.stage = .forwarded → c.note = 1 →
      (c.origin ≠ .relay → exec (.cplFwd seq x) s = .next (settle (sendCpl c
        ⟨c.desc.tag, x.status, x.clamped, x.newVersion, x.result, c.seq, c.descIndex, 0⟩
        { s with cmd := { s.cmd with inflight := s.cmd.inflight.filter (fun y => y.seq != seq) } }))) ∧
      (c.origin = .relay → ∃ t, exec (.cplFwd seq x) s = .next t) ∧
      exec (.forwardTimeout seq) s = .next (settle (retireFail c TIMEOUT s))) ∧
    ((∀ c, findCmd s seq = some c → c.stage ≠ .forwarded) →
      exec (.cplFwd seq x) s = .next s ∧ exec (.forwardTimeout seq) s = .next s)

/-- A completion takes the command out, moves WRITTEN on by 1 and writes the four words of R59 at the ring’s next entry. -/
def Obligations.CompletionOfARingCommand : Prop :=
  ∀ (s : State) (c : SeqCmd) (r : RingId) (status : Nat) (cl : Bool) (ver : Nat) (res : Word), c.origin = .ring r →
    (match r with | .mring m => m < 2 | .tenant _ => True) →
    let g := getRing s r
    let t := retire c status cl ver res s
    let w : HostWrite := ⟨ringFn r, .cpl r, g.cplBase * 4096 + g.written % 2 ^ g.cplSizeLog2 * 32,
      [pack [(c.desc.tag.toNat, 0), (status % 65536, 32), (b2n cl, 48), (b2n (decide (g.written / 2 ^ g.cplSizeLog2 % 2 = 0)), 63)],
       w64 ver, res, pack [(c.seq % 2 ^ 32, 0), (c.descIndex, 32), (ringField r, 48)]]⟩
    t.cmd.inflight = s.cmd.inflight.filter (fun x => x.seq != c.seq) ∧
    getRing t r = { g with written := (g.written + 1) % 2 ^ 32 } ∧ t.cmd.ownEpoch = s.cmd.ownEpoch ∧
    (fnHeld s (ringFn r) = true ∨ (∃ x ∈ s.host.held, x.fn = ringFn r) → t.host.held = s.host.held ++ [w]) ∧
    (fnHeld s (ringFn r) = false → (∀ x ∈ s.host.held, x.fn ≠ ringFn r) →
      t.host.held = s.host.held ∧ ∃ more, t.out = s.out ++ [Output.host w] ++ more)

/-- Completing or checking sequenced commands touches only command state, rings, report records, proposal counts, bypass traffic and vectors. -/
def Obligations.CompletingACommandLeavesTheRestAlone : Prop :=
  ∀ (c : SeqCmd) (bump : Bool) (r : Word) (ks : List FieldClamp) (s t : State),
    (t = Completed c bump r ks s ∨ t = NowWaits c ks s ∨ ∃ code, t = finishFail c code s) →
    OnlyAreas [.cmd, .free, .glb, .sage, .host, .out, .obl, .evt, .vf] s t ∧
    t.cmd.ownEpoch = s.cmd.ownEpoch ∧
    (∀ m, (getRing t (.mring m)) = { getRing s (.mring m) with written := (getRing t (.mring m)).written }) ∧
    t.glb = { s.glb with clampCount := t.glb.clampCount, rpt := t.glb.rpt, heldRecs := t.glb.heldRecs } ∧
    t.sage = { s.sage with plog := t.sage.plog, accepted := t.sage.accepted, rejected := t.sage.rejected,
                           migThisEpoch := t.sage.migThisEpoch, propThisEpoch := t.sage.propThisEpoch } ∧
    t.host = { s.host with held := t.host.held } ∧
    t.obl = { s.obl with links := t.obl.links } ∧ (∀ l, (getLink t l).state = (getLink s l).state) ∧
    t.evt = { s.evt with vec := t.evt.vec, sent := t.evt.sent } ∧
    t.vf = { s.vf with vfs := t.vf.vfs } ∧ (∀ v, (getVf t v).state = (getVf s v).state ∧ (getVf t v).instEpoch = (getVf s v).instEpoch)

/-- When Bus Master Enable returns or the upstream port comes up, the held records of the functions leave in order. -/
def Obligations.HeldRecordsAreWrittenInOrder : Prop :=
  ∀ (s : State) (f : Fn), (match f with | .pf => True | .vf v => v < 2048) →
    let mine := fun (x : State) (g : Fn) => x.host.held.filter (fun w => w.fn == g)
    (s.host.pfUp = true → ∃ t more, exec (.heldRecordFlush f false) s = .next t ∧ fnBme t f = true ∧
      t.out = s.out ++ (mine s f).map Output.host ++ more ∧ mine t f = [] ∧
      ((f = .pf ∨ s.glb.heldRecs = []) → t.host.held = s.host.held.filter (fun w => w.fn != f))) ∧
    (s.host.pfUp = false → ∃ t, exec (.heldRecordFlush f false) s = .next t ∧ fnBme t f = true ∧
      t.host.held = s.host.held ∧ t.out = s.out) ∧
    (∃ t l, exec (.heldRecordFlush f true) s = .next t ∧ t.host.pfUp = true ∧ t.out = s.out ++ l ∧
      ∀ g, (fnBme s g = true → ((mine s g).map Output.host).Sublist l ∧ mine t g = []) ∧
        (g ≠ .pf → fnBme s g = false → mine t g = mine s g))

/-- An aligned write at a register’s offset is the command that the register’s own row names. -/
def Obligations.RegisterWritesAreTheirRows : Prop :=
  ∀ (s : State) (v : Word), s.glb.imageFail = false →
    exec (.registerWrite .pf 0 0x28 v) s = exec (.glbCfgrptCtrlWrite v) s ∧
    exec (.registerWrite .pf 0 0x38 v) s = exec (.glbCfgrptTailWrite v) s ∧
    (v.getLsbD 17 = true → exec (.registerWrite .pf 0 0x48 v) s = exec (.glbResetCold v) s) ∧
    (v.getLsbD 17 = false → exec (.registerWrite .pf 0 0x48 v) s = exec (.glbResetWarm v) s) ∧
    (∀ m < 2, exec (.registerWrite .pf 0 (0x100008 + 0x80 * m) v) s = exec (.cmdMringCtrlWrite m v) s ∧
      exec (.registerWrite .pf 2 (0x1000 * m) v) s = exec (.sqTail m v) s ∧
      exec (.registerWrite .pf 2 (0x1000 * m + 8) v) s = exec (.cqHead m v) s) ∧
    exec (.registerWrite .pf 0 0x500010 v) s = exec (.capTailWrite v) s ∧
    (∀ h < 64, exec (.registerWrite .pf 0 (0x601030 + 0x40 * h) v) s = exec (.winDenyInfoWrite h v) s) ∧
    exec (.registerWrite .pf 0 0x800010 v) s = exec (.sagePlogCtrlWrite v) s ∧
    exec (.registerWrite .pf 0 0x800020 v) s = exec (.sagePlogTailWrite v) s ∧
    (∀ k < 32, exec (.registerWrite .pf 0 (0x8010C0 + 0x100 * k) v) s = exec (.sageInDoorbell k v) s) ∧
    (∀ e < 129, exec (.registerWrite .pf 0 (0xA10038 + 0x400 * e) v) s = exec (.histClear e v) s) ∧
    exec (.registerWrite .pf 0 0xD01008 v) s = exec (.vfInDoorbell v) s ∧
    (∀ r < 64, exec (.registerWrite .pf 0 (0xE00000 + 8 * r) v) s = exec (.evtPendWrite r v) s ∧
      exec (.registerWrite .pf 0 (0xE00200 + 8 * r) v) s = exec (.evtMaskWrite r v) s) ∧
    exec (.registerWrite .pf 0 0x1000000 v) s = exec (.fltStatusWrite v) s ∧
    (∀ f < 2048, exec (.registerWrite (.vf f) 0 0x28 v) s = exec (.vfCringCtrlWrite f v) s ∧
      exec (.registerWrite (.vf f) 0 0x48 v) s = exec (.vfEvqCtrlWrite f v) s ∧
      exec (.registerWrite (.vf f) 2 0x00 v) s = exec (.vfSqTail f v) s ∧
      exec (.registerWrite (.vf f) 2 0x08 v) s = exec (.vfCqHead f v) s ∧
      exec (.registerWrite (.vf f) 2 0x10 v) s = exec (.eqHead f v) s ∧
      exec (.registerWrite (.vf f) 2 0x18 v) s = exec (.mbSend f v) s ∧
      exec (.registerWrite (.vf f) 2 0x20 v) s = exec (.mbDone f v) s)

/-- Writes to registers without a row of their own apply their access codes and clamps; narrow and unaligned accesses have no effect and are clamps. -/
def Obligations.PlainRegisterAccesses : Prop :=
  ∀ (s : State) (v : Word), s.glb.imageFail = false →
    exec (.registerWrite .pf 0 0x50 v) s = .next { s with glb := { s.glb with scratch := v } } ∧
    exec (.registerWrite .pf 0 0x400058 v) s =
      .next { s with gh := { s.gh with ceLimit := v.toNat % 65536, writeFaultRetire := v.getLsbD 16 } } ∧
    exec (.registerWrite .pf 0 0x702080 v) s = .next { s with dir := { s.dir with cutSel := v.toNat % 64 } } ∧
    exec (.registerWrite .pf 0 0x900050 v) s = .next { s with move := { s.move with poolSel := v.toNat % 4096 } } ∧
    exec (.registerWrite .pf 0 0xD01000 v) s = .next { s with vf := { s.vf with sel := v.toNat % 2048 } } ∧
    exec (.registerWrite .pf 0 0x00 v) s = .next s ∧
    (∃ t, exec (.registerWrite .pf 0 0x1300008 v) s = .next t ∧ OnlyAreas [.pwr, .glb, .host, .out, .evt] s t ∧
      t.pwr.vminMv = max 620 (min 850 (v.toNat % 1024)) ∧
      t.pwr.vmaxMv = max t.pwr.vminMv (min 850 (v.toNat / 2 ^ 16 % 1024)) ∧ 620 ≤ t.pwr.fixedMv ∧ t.pwr.fixedMv ≤ 850 ∧
      t.pwr.guardKppm ≤ 100 ∧ t.pwr.vddMv = s.pwr.vddMv ∧ t.pwr.targetMv = s.pwr.targetMv) ∧
    (∀ (c : Instr), (c = .registerWrite .pf 0 0x60 v ∨
        (∃ off < 2 ^ 25, off % 8 ≠ 0 ∧ c = .registerWrite .pf 0 off v) ∨
        (∃ bar off write, (bar = 0 ∨ bar = 2) ∧ off < 2 ^ 25 ∧ c = .narrowAccess .pf bar off write v)) →
      ∃ t, exec c s = .next t ∧ OnlyAreas [.glb, .host, .out, .evt] s t ∧
        t.glb.clampCount = sat64 s.glb.clampCount ∧
        t.glb = { s.glb with clampCount := t.glb.clampCount, rpt := t.glb.rpt } ∧
        t.glb.rpt = { s.glb.rpt with produced := t.glb.rpt.produced, lost := t.glb.rpt.lost })

/-- NOP, EPOCH_CLAIM, OBJ_QUERY, EPOCH and the settling of the epoch do what R68, R71, R306 and R307 say. -/
def Obligations.EpochCommands : Prop :=
  ∀ (s : State) (seq : Nat) (c : SeqCmd),
    (Runs s seq 1 c → exec (.nop seq) s = .next (Completed c false 0 [] s)) ∧
    (Runs s seq 2 c → s.obl.epochSettled = true → s.cmd.ownEpoch < c.desc.arg0.toNat →
      ∃ s1, exec (.epochClaim seq) s = .next (Completed c false 0 [] s1) ∧ s1.cmd.ownEpoch = c.desc.arg0.toNat ∧
        s1.gh.routeStage = none ∧ (∀ h, (getHost s1 h).winStage = none ∧ (getHost s1 h).stageMgr = none) ∧
        (∀ k, (getSlot s1 k).stage = none) ∧ (∀ e, (getEgress s1 e).gclStage = none) ∧
        s1.sec.imageStage = none ∧ s1.sec.calStage = none ∧
        OnlyAreas [.cmd, .gh, .win, .sage, .sched, .sec, .obl, .out] s s1) ∧
    (Runs s seq 2 c → c.desc.arg0.toNat ≤ s.cmd.ownEpoch →
      exec (.epochClaim seq) s = .next (finishFail c PRECONDITION s)) ∧
    (Runs s seq 3 c → ∃ r : Word, exec (.objQuery seq) s = .next (Completed c false r [] s) ∧
      r.getLsbD 0 = staged s c ∧
      (objClass c.desc.objectId = 1 → r.toNat / 2 ^ 32 = s.gh.route.current % 2 ^ 32) ∧
      (objClass c.desc.objectId = 2 → r.toNat / 2 ^ 32 = (getHost s (objIndex c.desc.objectId)).win.current % 2 ^ 32) ∧
      (objClass c.desc.objectId = 3 → r.toNat / 2 ^ 32 = (getHost s (objIndex c.desc.objectId)).map.current % 2 ^ 32)) ∧
    (∀ e : Word, s.glb.mgrSel = false → ∃ t, exec (.epoch e) s = .next t ∧ t.cmd.ownEpoch = e.toNat ∧ t.obl.epochSettled = true) ∧
    (s.glb.ready = true → s.glb.mgrSel = true →
      exec .epochSettled s = .next { s with obl := { s.obl with epochSettled := true } })

/-- OBJ_COMMIT publishes or installs the staged copy and OBJ_ABORT discards it, by the class of the object. -/
def Obligations.CommitAndAbortOfStagedObjects : Prop :=
  ∀ (s : State) (seq : Nat) (ok : Bool) (c : SeqCmd),
    let i := objIndex c.desc.objectId
    (Runs s seq 4 c →
      (objClass c.desc.objectId = 1 →
        (s.gh.routeStage = none → exec (.objCommit seq ok) s = .next (finishFail c PRECONDITION s)) ∧
        (∀ r, s.gh.routeStage = some r → s.gh.route.slots.length < 4 →
          exec (.objCommit seq ok) s = .next (NowWaits c [] { s with gh := { s.gh with
            routeStage := none
            route := { current := (s.gh.route.current + 1) % 2 ^ 32, stamping := s.gh.route.stamping,
                       slots := s.gh.route.slots ++ [(genSlotFree s.gh.route, ⟨(s.gh.route.current + 1) % 2 ^ 32, 0, r⟩)],
                       publishing := some c.seq } } }))) ∧
      (objClass c.desc.objectId = 2 → winCommitCode s i = 0 → ∃ s1, exec (.objCommit seq ok) s = .next (NowWaits c [] s1) ∧
        (getHost s1 i).winStage = none ∧ (getHost s1 i).win.current = ((getHost s i).win.current + 1) % 2 ^ 32 ∧
        (getHost s1 i).win.publishing = some c.seq ∧ OnlyAreas [.win] s s1) ∧
      (objClass c.desc.objectId = 3 → mapCommitCode s i (issuerVf c) = 0 → ∃ s1, exec (.objCommit seq ok) s = .next (NowWaits c [] s1) ∧
        (stageSet s1 i (issuerVf c)).ents = [] ∧ (getHost s1 i).map.current = ((getHost s i).map.current + 1) % 2 ^ 32 ∧
        (getHost s1 i).map.publishing = some c.seq ∧ OnlyAreas [.win] s s1) ∧
      (objClass c.desc.objectId = 5 → ∀ code data, (getSlot s i).stage = some (code, data) → (getSlot s i).state ≠ .running →
        exec (.objCommit seq ok) s =
          .next (Completed c true 0 [] (setSlot i { getSlot s i with
            code := code, dataImage := data, stage := none
            state := if (getSlot s i).state = .empty then .stopped else (getSlot s i).state } s))) ∧
      (objClass c.desc.objectId = 16 → i = 1 → ∀ l, s.sec.calStage = some l → ∃ s1, exec (.objCommit seq ok) s = .next (NowWaits c [] s1) ∧
        s1.sec.flashQ = s.sec.flashQ ++ [⟨.calCommit l, some c.seq⟩] ∧ OnlyAreas [.sec, .out] s s1) ∧
      (objClass c.desc.objectId = 16 → i = 2 → s.sec.imageStage.isSome = true → ∃ s1, exec (.objCommit seq ok) s = .next (NowWaits c [] s1) ∧
        s1.sec.flashQ = s.sec.flashQ ++ [⟨.imageCommit, some c.seq⟩] ∧ OnlyAreas [.sec, .out, .cmd] s s1)) ∧
    (Runs s seq 5 c →
      (objClass c.desc.objectId = 1 →
        exec (.objAbort seq) s = .next (Completed c false 0 [] { s with gh := { s.gh with routeStage := none } })) ∧
      (objClass c.desc.objectId = 2 →
        exec (.objAbort seq) s = .next (Completed c false 0 [] (setHost i { getHost s i with winStage := none } s))) ∧
      (objClass c.desc.objectId = 5 →
        exec (.objAbort seq) s = .next (Completed c false 0 [] (setSlot i { getSlot s i with stage := none } s))) ∧
      (objClass c.desc.objectId = 3 → ∃ s1, exec (.objAbort seq) s = .next (Completed c false 0 [] s1) ∧
        (stageSet s1 i (issuerVf c)).ents = [] ∧ OnlyAreas [.win] s s1)) ∧
    (findCmd s seq = some c → c.stage = .waiting → c.desc.opcode = 4#16 → objClass c.desc.objectId = 1 →
      s.gh.route.publishing = some seq → ∃ t, exec (.generationCommitDone seq) s = .next t ∧
        t.gh.route.stamping = s.gh.route.current ∧ t.gh.route.publishing = none ∧ t.gh.route.current = s.gh.route.current ∧
        ∀ x ∈ t.cmd.inflight, x.seq ≠ c.seq)

/-- PORT_CONFIG, PORT_RESET, LANE_TEST and EYE_SCAN act on ports and lanes that are free for it, and a scan’s end writes its result. -/
def Obligations.PortAndLaneCommands : Prop :=
  ∀ (s : State) (seq : Nat) (c : SeqCmd),
    let n := objIndex c.desc.objectId % 2 ^ 48
    let a := c.desc.arg0
    let x := getLane s n
    (Runs s seq 0x7001 c → c.origin ≠ .script →
      let busy := ∃ p ∈ blockPorts s n, (getPort s p).linkUp = true ∨
        (portHeld (getPort s p) = false ∧ (getPort s p).cfg.enable = true)
      (busy → exec (.portConfig seq) s = .next (finishFail c PRECONDITION s)) ∧
      (¬busy → ∃ ks s1, exec (.portConfig seq) s = .next (Completed c true 0 ks s1) ∧
        tget 0 s1.port.bifur n = min 4 (fld a 2 0) ∧
        (∀ p ∈ blockPorts s1 n, (getPort s1 p).held = true ∧ (getPort s1 p).capRate = 0 ∧ (getPort s1 p).retrain = 0 ∧
          (getPort s1 p).cfg.role = fld c.desc.arg1 (16 * (p % 4) + 1) (16 * (p % 4)) ∧
          (getPort s1 p).cfg.maxRate = max 1 (min 6 (fld c.desc.arg1 (16 * (p % 4) + 4) (16 * (p % 4) + 2))) ∧
          (getPort s1 p).cfg.enable = c.desc.arg1.getLsbD (16 * (p % 4) + 5)) ∧
        (∀ p, p / 4 ≠ n → getPort s1 p = getPort s p))) ∧
    (Runs s seq 0x7002 c →
      ((getPort s n).retired = true → exec (.portReset seq) s = .next (finishFail c PRECONDITION s)) ∧
      ((getPort s n).retired = false → ∃ s1, exec (.portReset seq) s = .next (Completed c true 0 [] s1) ∧
        (getPort s1 n).linkUp = false ∧ (getPort s1 n).held = a.getLsbD 0 ∧ (getPort s1 n).capRate = 0 ∧
        (getPort s1 n).pwr = 6 ∧ (getPort s1 n).cfg = (getPort s n).cfg)) ∧
    (Runs s seq 0x7003 c →
      let loop := min (if n < 16 ∨ 448 ≤ n then 3 else 0) (fld a 6 5)
      let pb0 := n < 16 ∧ loop ≠ 0 ∧ ∃ p, portOfLane s n = some p ∧ portHeld (getPort s p) = false
      ((laneOut s n = false ∨ pb0) → exec (.laneTest seq) s = .next (finishFail c PRECONDITION s)) ∧
      (laneOut s n = true → ¬pb0 → ∃ ks y s1, exec (.laneTest seq) s = .next (Completed c true 0 ks s1) ∧
        getLane s1 n = y ∧ (∀ l, l ≠ n → getLane s1 l = getLane s l) ∧ OnlyAreas [.port, .free, .out] s s1 ∧
        (y.test ≠ x.test → s1.out = s.out ++ [.lanePins n (txPins y.test) (rxPins y.test)]) ∧
        y.prbsLock = false ∧ y.prbs.bits = 0 ∧ y.prbs.errAt = [] ∧ y.prbsErrs = (if a.getLsbD 20 then 0 else x.prbsErrs) ∧
        y.prbsBits = (if a.getLsbD 20 then 0 else x.prbsBits) ∧ y.scan = x.scan ∧ y.retired = x.retired ∧
        y.test.pattern = min 5 (fld a 2 0) ∧ y.test.genEn = a.getLsbD 3 ∧ y.test.chkEn = a.getLsbD 4 ∧ y.test.loop = loop ∧
        y.test.rate = (if n < 448 then max 1 (min 6 (fld a 10 7)) else max 8 (min 9 (fld a 10 7))) ∧
        y.test.injMode = min 2 (fld a 13 12) ∧ y.test.injLog2 = max 10 (min 40 (fld a 19 14)))) ∧
    (Runs s seq 0x7004 c →
      (scanOk s n = false → x.scan = none →
        (∀ y ∈ s.cmd.inflight, y.stage = .waiting → y.desc.opcode.toNat ≠ 0x7004) →
        exec (.eyeScan seq) s = .next (finishFail c PRECONDITION s)) ∧
      (scanOk s n = true → x.scan = none → x.margining = false →
        (∀ y ∈ s.cmd.inflight, y.stage = .waiting → y.desc.opcode.toNat ≠ 0x7004) → ∃ t e, exec (.eyeScan seq) s = .next t ∧
          (getLane t n).scan = some e ∧ e.seq = seq ∧ e.dwell = max 20 (min 40 (fld a 7 2)) ∧
          e.buffer = c.desc.arg1.toNat / 64 * 64 ∧ e.rate = laneRate s n ∧ e.aborted = false ∧
          e.counts = [])) ∧
    (∀ l < 512, ∀ sq counts,
      ((∀ e, (getLane s l).scan = some e → e.seq ≠ sq) → ∀ last, exec (.eyeScanEnd l sq last counts) s = .next s) ∧
      (∀ e, (getLane s l).scan = some e → e.seq = sq → fnHeld s .pf = false → s.host.held = [] →
        let all := if e.aborted || e.paused then e.counts else if counts = [] then e.counts else (e.counts ++ counts).take 8192
        let saturated := all.any (fun k => decide (0xFFFFFFFE < k))
        (∃ t points, exec (.eyeScanEnd l sq false counts) s = .next t ∧ t.out = s.out ++ points ∧
          (getLane t l).scan = some { e with counts := all } ∧ t.cmd = s.cmd) ∧
        ∃ t points rest, exec (.eyeScanEnd l sq true counts) s = .next t ∧ t.out = s.out ++ points ++
          [.host ⟨.pf, .eye, e.buffer,
            eyeHeader l e (e.aborted || decide (all.length < 8192)) saturated all.length s.time.now⟩] ++ rest) ∧
      (∀ e, (getLane s l).scan = some e → exec (.marginingCommand l true) s = .next (emit (.margining l false) s)) ∧
      ((getLane s l).scan = none →
        exec (.marginingCommand l true) s = .next (emit (.margining l true) (setLane l { getLane s l with margining := true } s))) ∧
      (∃ t, exec (.marginingCommand l false) s = .next t ∧ (getLane t l).margining = false ∧ OnlyAreas [.port] s t))

/-- A port reaches L0, retrains, narrows, changes power state and goes down by its own rows. -/
def Obligations.PortLinkStates : Prop :=
  ∀ (s : State) (p : Nat), p < 112 →
    let x := getPort s p
    let n := portLanes s p
    (∀ i, (x.linkUp = true ∨ canTrain s p = false) → exec (.linkUp p i) s = .next s) ∧
    (∀ i, x.linkUp = false → canTrain s p = true →
      let s0 := labelLanes (16 * (p / 4) + 4 * (p % 4)) n i.reversed i.inverted (lanesOf s p) s
      ((∀ w ∈ [16, 8, 4, 2, 1], ¬ FitsWidth s0 p (max 1 i.width) w) → exec (.linkUp p i) s = .next s0) ∧
      ∀ w ∈ [16, 8, 4, 2, 1], Widest s0 p (max 1 i.width) w → ∃ t, exec (.linkUp p i) s = .next t ∧
      let top := if x.capRate = 0 then x.cfg.maxRate else min x.cfg.maxRate x.capRate
      (getPort t p).linkUp = true ∧ (getPort t p).pwr = 0 ∧ (getPort t p).cfg = x.cfg ∧
      (1 ≤ top → (getPort t p).rate = max 1 (min top i.rate)) ∧ (getPort t p).width = w ∧
      (getPort t p).degraded = (decide ((getPort t p).width < n) || decide ((getPort t p).rate < x.cfg.maxRate)) ∧
      ((x.cfg.role < 2 ∨ i.partnerCxl = false) → (getPort t p).proto = 0) ∧
      (∀ l ∈ lanesOf s p, (getLane t l).logical = (if i.reversed then n - 1 - (l - (lanesOf s p).headD 0)
        else l - (lanesOf s p).headD 0)) ∧
      (5, unitCode 2 p) ∉ t.flt.asserted ∧ (∀ k, k ≠ p → getPort t k = getPort s k)) ∧
    (∀ rate, canTrain s p = true →
      (exec (.equalizationFail p rate false) s = .next (setPort p { x with eqFail := sat64 x.eqFail } s)) ∧
      (∃ t, exec (.equalizationFail p rate true) s = .next t ∧ getPort t p = { x with
        eqFail := sat64 x.eqFail, degraded := true, capRate := max 1 (min 6 (rate - 1)) } ∧ OnlyAreas [.port, .evt, .out] s t)) ∧
    (x.linkUp = false → exec (.portDown p) s = .next s) ∧
    (x.linkUp = true → ∃ t, exec (.portDown p) s = .next t ∧ (getPort t p).linkUp = false ∧ (getPort t p).rate = 0 ∧
      (getPort t p).width = 0 ∧ (getPort t p).pwr = 6 ∧ (asserted s 5 (unitCode 2 p) = false → t.flt.status.getLsbD 5 = true) ∧ (getPort t p).cfg = x.cfg ∧
      (x.engRunning = true → (getPort t p).dpcTrigger = (x.dpcTrigger || (x.dpcEnabled && x.cfg.role % 2 == 1))) ∧
      (x.engRunning = false → x.dpcEnabled = true → x.cfg.role % 2 = 1 → (getPort t p).engWork.getLast? = some .dpc)) ∧
    (x.dpcTrigger = false → exec (.dpcRelease p) s = .next s) ∧
    (x.dpcTrigger = true → x.retired = true → exec (.dpcRelease p) s = .next (setPort p { x with dpcTrigger := false } s)) ∧
    (x.dpcTrigger = true → x.retired = false → ∃ t, exec (.dpcRelease p) s = .next t ∧ (getPort t p).dpcTrigger = false ∧
      (getPort t p).held = false ∧ (getPort t p).capRate = 0 ∧ (getPort t p).linkUp = false) ∧
    (∀ l < 512, ∀ sg ev, (448 ≤ l ∨ portOfLane s l = none ∨ (portOfLane s l = some p ∧ x.flit = false ∧ lockBroken x ev = false)) →
      exec (.symbolLockLost l ⟨sg, ev⟩) s = .next (setLane l { getLane s l with signal := sg } s)) ∧
    (∀ l ∈ lanesOf s p, ∀ sg ev, portOfLane s l = some p → x.linkUp = true → (getLane s l).logical < x.width → lockBroken x ev = true →
      let k := match ev with
        | .flits fec crc rep _ => (fec, crc, rep)
        | _ => (0, 0, 0)
      ∃ t, exec (.symbolLockLost l ⟨sg, ev⟩) s = .next t ∧
      (getLane t l).signal = sg ∧ (getLane t l).symbolLock = false ∧ (getPort t p).recovering = true ∧
      (getPort t p).retrain = sat64 x.retrain ∧ (getPort t p).linkUp = true ∧ (getPort t p).width = x.width ∧
      (x.flit = true → (getPort t p).fecCorr = satAdd 64 x.fecCorr k.1 ∧
        (getPort t p).crcErr = satAdd 64 x.crcErr k.2.1 ∧ (getPort t p).replay = satAdd 64 x.replay k.2.2) ∧
      (4, unitCode 2 p) ∈ t.flt.asserted ∧ OnlyAreas [.port, .flt, .evt, .free, .out] s t) ∧
    (∀ w, (x.linkUp = false ∨ x.recovering = false) → exec (.recoveryRetrainDone p w) s = .next s) ∧
    (∀ most, ∀ w ∈ [16, 8, 4, 2, 1], x.linkUp = true → x.recovering = true → Widest s p (max 1 most) w →
      ∃ t, exec (.recoveryRetrainDone p most) s = .next t ∧
      getPort t p = { x with
        recovering := false, width := w, trainedWidth := w, pwr := 0
        degraded := decide (w < n) || decide (x.rate < x.cfg.maxRate) } ∧
      (4, unitCode 2 p) ∉ t.flt.asserted) ∧
    (
      let idle := x.linkUp = true ∧ x.cfg.l0pAuto = true ∧ x.recovering = false ∧ x.pwr ≤ 1 ∧ 2 ≤ x.width ∧
        (if 8 ≤ n then 4 else 1) ≤ x.width / 2
      (¬idle → exec (.l0pNarrow p) s = .next s) ∧
      (idle → ∃ t, exec (.l0pNarrow p) s = .next t ∧
        getPort t p = { x with width := x.width / 2, pwr := if x.width / 2 < x.trainedWidth then 1 else 0 } ∧
        OnlyAreas [.port] s t)) ∧
    (exec (.l0pRestore p) s = .next (if x.linkUp = true ∧ x.pwr = 1
      then setPort p { x with width := x.trainedWidth, pwr := 0 } s else s)) ∧
    (x.linkUp = false → ∀ d, exec (.linkPowerState p d) s = .next s) ∧
    (x.linkUp = true →
      (∃ t, exec (.linkPowerState p .l0) s = .next t ∧
        getPort t p = { x with width := x.trainedWidth, pwr := 0, clkOff := false } ∧ OnlyAreas [.port, .out] s t) ∧
      (∃ t, exec (.linkPowerState p .l1) s = .next t ∧ getPort t p = { x with pwr := 2, clkOff := false } ∧
        OnlyAreas [.port, .out] s t) ∧
      (∀ d k, (d, k) ∈ [(PwrState.l11, 3), (.l12, 4)] → ∃ t, exec (.linkPowerState p d) s = .next t ∧
        getPort t p = { x with pwr := k, clkOff := true } ∧ OnlyAreas [.port, .out] s t) ∧
      (∃ t, exec (.linkPowerState p .l2) s = .next t ∧ (getPort t p).linkUp = false ∧ (getPort t p).pwr = 5))

/-- Reference clocks, PERST_N, port engines and configuration requests change exactly the ports they name. -/
def Obligations.PortsFromOutside : Prop :=
  ∀ (s : State),
    (∀ q < 4, (∃ t, exec (.refclkLost q) s = .next t ∧ t.flt.status.getLsbD 3 = (s.flt.status.getLsbD 3 || !(asserted s 3 (unitCode 10 q))) ∧
        (3, unitCode 10 q) ∈ t.flt.asserted ∧
        (∀ p ∈ quadPorts q, (getPort t p).refLost = true ∧ (getPort t p).linkUp = false) ∧
        (∀ l ∈ quadLinks q, (getLink t l).refLost = true)) ∧
      (∃ t, exec (.refclkReturn q) s = .next t ∧ (3, unitCode 10 q) ∉ t.flt.asserted ∧
        (∀ p ∈ quadPorts q, getPort t p = { getPort s p with refLost := false }) ∧
        (∀ l ∈ quadLinks q, getLink t l = { getLink s l with refLost := false }) ∧ OnlyAreas [.port, .obl, .flt] s t)) ∧
    (∀ p < 112,
      let x := getPort s p
      (∀ on, (portCreated s p = false ∨ x.cfg.role % 2 = 1 ∨ x.perstIn = on) → exec (.portPerstN p on) s = .next s) ∧
      (∀ on, portCreated s p = true → x.cfg.role % 2 = 0 → x.perstIn ≠ on → ∃ t, exec (.portPerstN p on) s = .next t ∧
        (getPort t p).perstIn = on ∧ (getPort t p).linkUp = false ∧ (getPort t p).cfg = x.cfg ∧ (getPort t p).held = x.held) ∧
      (x.engRunning = false → exec (.portEngineStop p) s = .next s) ∧
      (x.engRunning = true → ∃ t, exec (.portEngineStop p) s = .next t ∧
        getPort t p = { x with engRunning := false, engRestarting := true } ∧ (6, unitCode 13 p) ∈ t.flt.asserted ∧
        OnlyAreas [.port, .flt, .evt, .free, .out] s t) ∧
      (x.engRestarting = false → exec (.portEngineRestartDone p) s = .next s) ∧
      (x.engRestarting = true → x.heldCfgReqs = [] → x.engWork = [] → ∃ t, exec (.portEngineRestartDone p) s = .next t ∧
        getPort t p = { x with engRunning := true, engRestarting := false, engRestarts := satAdd 32 x.engRestarts 1 } ∧
        (6, unitCode 13 p) ∉ t.flt.asserted ∧ OnlyAreas [.port, .flt, .evt, .out] s t) ∧
      (∀ op, x.engRestarting = true →
        exec (.configRequest p .pf op) s = .next (setPort p { x with heldCfgReqs := x.heldCfgReqs ++ [(.pf, op)] } s)) ∧
      (x.engRestarting = false →
        (∀ v < 2048, ∀ op, vfShown s v = .absent → exec (.configRequest p (.vf v) op) s = .next (emit (.cfgRsp p cfgUr 0) s)) ∧
        ((p ≠ s.host.pfPort ∨ s.glb.ready = true) →
          (∀ off, exec (.configRequest p .pf (.read off)) s =
            .next { s with free := s.free + 1, out := s.out ++ [.cfgRsp p cfgOk (Config.freeWord s.free)] }) ∧
          (∀ on, exec (.configRequest p .pf (.dpcEnable on)) s = .next
            { setPort p { x with dpcEnabled := on } s with out := s.out ++ [.cfgRsp p cfgOk 0] }))))

/-- CAP_CONFIG sets a filter or the capture ring within its legal values. -/
def Obligations.CaptureCommands : Prop :=
  ∀ (s : State) (seq : Nat) (c : SeqCmd), Runs s seq 0x1003 c →
    let d := c.desc
    (objIndex d.objectId / 2 ^ 48 = 1 → ∃ ks x, exec (.capConfigFilter seq) s = .next (Completed c true 0 ks
        { s with cap := { s.cap with filters := tput CapFilter.reset s.cap.filters (objIndex d.objectId % 8) x } }) ∧
      x.enable = d.arg0.getLsbD 0 ∧ (x.ingress = 0xFF ∨ x.ingress ≤ 128) ∧ (x.egress = 0xFF ∨ x.egress ≤ 128) ∧
      (fld d.arg0 8 1 ≤ 128 → x.ingress = fld d.arg0 8 1) ∧ (fld d.arg0 16 9 ≤ 128 → x.egress = fld d.arg0 16 9) ∧
      x.queue = fld d.arg0 20 17 ∧ x.queueAny = d.arg0.getLsbD 21 ∧ x.dir = min 2 (fld d.arg0 23 22) ∧
      x.sampleN = max 1 (fld d.arg0 39 24) ∧
      x.count = (if d.arg0.getLsbD 0 = true ∧ (tget CapFilter.reset s.cap.filters (objIndex d.objectId % 8)).enable = false then 0
                 else (tget CapFilter.reset s.cap.filters (objIndex d.objectId % 8)).count)) ∧
    (objIndex d.objectId / 2 ^ 48 = 2 → s.cap.enable = false → ∃ ks x, exec (.capConfigRing seq) s =
        .next (Completed c true 0 ks (settleCredits { s with cap := x })) ∧
      x.enable = d.arg1.getLsbD 5 ∧ x.vector = fld d.arg1 18 6 ∧ x.vectorEn = d.arg1.getLsbD 19 ∧
      x.creditClass = min 63 (fld d.arg2 7 0) ∧ x.filters = s.cap.filters ∧ x.buffer = s.cap.buffer ∧ x.lost = s.cap.lost ∧
      (d.arg1.getLsbD 5 = true → x.base = d.arg0.toNat / 64 * 64 ∧ x.sizeLog2 = max 10 (min 20 (fld d.arg1 4 0)) ∧
        x.head = 0 ∧ x.tail = 0)) ∧
    (objIndex d.objectId / 2 ^ 48 = 2 → s.cap.enable = true → d.arg0.toNat / 64 * 64 ≠ s.cap.base →
      exec (.capConfigRing seq) s = .next (finishFail c PRECONDITION s))

/-- RT_WRITE stages clamped routing entries, GH_THRESH_SET sets a class’s K_CODE, and a bank’s relocation ends by shrinking the shared pool. -/
def Obligations.RoutingAndThresholdCommands : Prop :=
  (
    ∀ (s : State) (seq : Nat) (data : ReadData) (c : SeqCmd),
      let a := c.desc.arg0.toNat
      (Runs s seq 0x1002 c → ∃ ks, exec (.ghThreshSet seq) s = .next (Completed c true 0 ks { s with gh := { s.gh with
          kCode := tput 6 s.gh.kCode (objIndex c.desc.objectId % 16) (min 9 (a % 16)) } }) ∧ (ks = [] ↔ a % 16 ≤ 9)) ∧
      (Runs s seq 0x1001 c → c.desc.arg3.toNat % 2 ^ 15 = 0 → c.desc.arg0.getLsbD 0 = false → a / 2 ^ 16 % 2 ^ 14 < 4096 →
        ∃ ks e, exec (.rtWrite seq data) s = .next (Completed c false 0 ks { s with gh := { s.gh with
            routeStage := some { routeStaging s with did := tput 0 (routeStaging s).did (a / 2 ^ 16 % 2 ^ 14) e } } }) ∧
          fld e 9 2 = min 128 (fld c.desc.arg1 9 2) ∧ fld e 1 0 = fld c.desc.arg1 1 0 ∧ fld e 19 10 = fld c.desc.arg1 19 10 ∧
          fld e 39 28 = fld c.desc.arg1 39 28 ∧
          (fld e 27 20 = 0xFF ∨ (112 ≤ fld e 27 20 ∧ fld e 27 20 ≤ 119))) ∧
      (Runs s seq 0x1001 c → c.desc.arg3.toNat % 2 ^ 15 = 0 → c.desc.arg0.getLsbD 0 = true →
        ∃ ks, exec (.rtWrite seq data) s = .next (Completed c false 0 ks { s with gh := { s.gh with
            routeStage := some { routeStaging s with
              bus := tput 0 (routeStaging s).bus (a / 2 ^ 16 % 2 ^ 14) (c.desc.arg1.setWidth 16 &&& 0x8FFF#16) } } })) ∧
      (Runs s seq 0x1001 c → c.desc.arg3.toNat % 2 ^ 15 ≠ 0 → ReadsUp s false rtRange c →
        exec (.rtWrite seq none) s = .next (finishFail c DESC_FAULT s) ∧
        ∀ ws, ∃ r ks, exec (.rtWrite seq (some ws)) s = .next (Completed c false 0 ks
          { s with gh := { s.gh with routeStage := some r } }))
  ) ∧
  (
    ∀ (s : State),
      (s.gh.relocQ = [] → exec .bankRelocationDone s = .next s) ∧
      (∀ b rest, s.gh.relocQ = b :: rest → ∃ t, exec .bankRelocationDone s = .next t ∧
        t.gh.relocQ = rest ∧ t.gh.retired = insNat s.gh.retired b ∧ t.gh.free = s.gh.free - 6144 ∧
        (∀ k, (getQueue t k).map (·.id) = (getQueue s k).map (·.id)) ∧ t.gh.waits = s.gh.waits ∧
        (11, unitCode 3 b) ∉ t.flt.asserted ∧ t.flt.retired = insNat s.flt.retired (unitCode 3 b) ∧
        t.port = s.port ∧ t.win = s.win ∧ t.move = s.move)
  )

/-- WIN_WRITE stages an entry or the aperture, WIN_LOCK locks one at once, and WIN_DENY_INFO re-arms the denial record. -/
def Obligations.WindowCommands : Prop :=
  ∀ (s : State) (seq : Nat) (c : SeqCmd),
    let h := objIndex c.desc.objectId
    let i := fld c.desc.arg0 9 0
    let old := tget WinEntry.reset (winNow s h).entries i
    (Runs s seq 0x2001 c → c.desc.arg0.getLsbD 16 = false →
      (old.locked = true → exec (.winWrite seq) s = .next (finishFail c LOCKED s)) ∧
      (old.locked = false → ∃ ks e, exec (.winWrite seq) s = .next (Completed c false 0 ks (setHost h { getHost s h with
          winStage := some { winStaging s h with entries := tput WinEntry.reset (winStaging s h).entries i e } } s)) ∧
        e.valid = c.desc.arg1.getLsbD 0 ∧ e.base = fld c.desc.arg1 63 12 ∧ e.limit = max (fld c.desc.arg2 63 12) e.base ∧
        e.perm = c.desc.arg3.setWidth 12 ∧ e.locked = false ∧ e.shared = old.shared ∧ e.mapLocked = old.mapLocked)) ∧
    (Runs s seq 0x2001 c → c.desc.arg0.getLsbD 16 = true → ∃ ks n, exec (.winWrite seq) s =
        .next (Completed c false 0 ks (setHost h { getHost s h with
          winStage := some { winStaging s h with aperBase := fld c.desc.arg1 51 21, aper2m := n } } s)) ∧
        n ≤ 2097152 ∧ (0 < n → fld c.desc.arg1 51 21 + n ≤ 2 ^ 31)) ∧
    (Runs s seq 0x2002 c →
      (old.valid = false → exec (.winLock seq) s = .next (finishFail c PRECONDITION s)) ∧
      (old.valid = true → (getHost s h).winStage = none → ∃ s1, exec (.winLock seq) s = .next (Completed c true 0 [] s1) ∧
        tget WinEntry.reset (winNow s1 h).entries i =
          { old with locked := true, mapLocked := old.mapLocked || c.desc.arg0.getLsbD 16 } ∧
        (getHost s1 h).winStage = none ∧ (getHost s1 h).win.current = (getHost s h).win.current ∧
        (∀ k, k ≠ h → getHost s1 k = getHost s k) ∧ OnlyAreas [.win] s s1)) ∧
    (∀ host < 64, ∀ v : Word, s.glb.imageFail = false →
      (v.getLsbD 0 = true → exec (.winDenyInfoWrite host v) s = .next s) ∧
      (v.getLsbD 0 = false →
        exec (.winDenyInfoWrite host v) s = .next (setHost host { getHost s host with denyValid := false } s)))

/-- MAP_WRITE stages entries in the issuer’s set; TBL_DRAIN and WIN_EPOCH_FENCE wait for the transactions stamped with older generations. -/
def Obligations.MapWriteStagesEntries : Prop :=
  (
    ∀ (s : State) (seq : Nat) (c : SeqCmd), Runs s seq 0x2004 c → issuerVf c = none →
      let h := objIndex c.desc.objectId
      let e := mapWordUsed (c.desc.arg1.getLsbD 1) c.desc.arg1
      let hpa := fld c.desc.arg0 51 12
      let page := if c.desc.arg1.getLsbD 1 then hpa / 512 * 512 else hpa
      let n := if c.desc.arg1.getLsbD 1 then 512 else 1
      let old := (getHost s h).stageMgr.getD ⟨[], 0⟩
      (fld c.desc.arg3 15 0 = 0 → ∀ data,
        (mapLockedAt (winNow s h) page n = true → exec (.mapWrite seq data) s = .next (finishFail c LOCKED s)) ∧
        (mapLockedAt (winNow s h) page n = false → (page < aperPage (winNow s h) ∨ aperPage (winNow s h) + aperPages (winNow s h) ≤ page) →
          exec (.mapWrite seq data) s = .next (finishFail c PRECONDITION s)) ∧
        (mapLockedAt (winNow s h) page n = false → aperPage (winNow s h) ≤ page → page < aperPage (winNow s h) + aperPages (winNow s h) →
          migratingAt s h page n = false → 1 ≤ leafFree s → 1 ≤ stageFree s →
          ∃ ks x, exec (.mapWrite seq data) s = .next (Completed c false 0 ks (setHost h { getHost s h with stageMgr := some x } s)) ∧
            x.ents = old.ents.filter (fun y => !(y.page == page && y.ent.huge == c.desc.arg1.getLsbD 1)) ++ [⟨page, e, false⟩])) ∧
      (fld c.desc.arg3 15 0 ≠ 0 → ReadsUp s false mapRange c → exec (.mapWrite seq none) s = .next (finishFail c DESC_FAULT s))
  ) ∧
  (
    ∀ (s : State) (seq : Nat) (c : SeqCmd),
      let h := objIndex c.desc.objectId
      let g := c.desc.arg0.toNat % 2 ^ 32
      let now := if objClass c.desc.objectId = 1 then s.gh.route.current
        else if objClass c.desc.objectId = 2 then (getHost s h).win.current else (getHost s h).map.current
      let isOlder := 1 ≤ (now + 2 ^ 32 - g) % 2 ^ 32 ∧ (now + 2 ^ 32 - g) % 2 ^ 32 ≤ 2 ^ 31
      (Runs s seq 0x2003 c →
        exec (.winEpochFence seq) s = .next (wakeTables (NowWaits c [] (setAux c.seq (getHost s h).win.current s)))) ∧
      (Runs s seq 0x0006 c → isOlder → exec (.tblDrain seq) s = .next (wakeTables (NowWaits c [] s))) ∧
      (Runs s seq 0x0006 c → ¬isOlder → exec (.tblDrain seq) s = .next (wakeTables (finishFail c PRECONDITION s)))
  )

/-- The command may be admitted: its ingress is up and holds credit, nothing waits for cells, its routing copy is in place
and no warm reset drains the switch (04 R110; 15 R394; 01 R469). It is a request, not an INTx message or an Unlock. -/
def Admissible (s : State) (r : Request) : Prop :=
  r.ingress < 129 ∧ ingressUp s r.ingress = true ∧ hasCredit s (sourced r) = true ∧ s.gh.deferred = [] ∧
    routeReloading s r.ingress = false ∧ warmDrains s = false ∧ r.intx = none ∧ r.unlock = false

/-- The hardware meets nothing on the request's way. -/
def Quiet (hw : PathHw) : Prop :=
  hw.winEcc = .ok ∧ hw.cacheEcc = .ok ∧ hw.storeEcc = .ok ∧ hw.writeFail = none ∧ hw.malformed = false ∧
    hw.routeEcc = .ok ∧ hw.telBad = false

/-- A request waits upstream without credit, faults if malformed, reaches its DID’s queue, or is aborted and recorded where windows deny it. -/
def Obligations.RequestsAtTheirIngress : Prop :=
  ∀ (s : State) (r : Request) (hw : PathHw),
    (r.ingress < 129 → (ingressUp s r.ingress = false ∨ hasCredit s (sourced r) = false ∨ warmDrains s = true) →
      exec (.hostRequest r hw) s = .next s) ∧
    (Admissible s r → hw.malformed = true →
      (r.ingress < 112 → (getPort s r.ingress).engRunning = true → ∃ t, exec (.hostRequest r hw) s = .next t ∧
        t.flt.status.getLsbD 7 = true ∧ tget 0 t.flt.count 7 = sat64 (tget 0 s.flt.count 7) ∧
        getPort t r.ingress = { getPort s r.ingress with aer := (getPort s r.ingress).aer ||| (1#32 <<< AER_MALFORMED) } ∧
        t.win.hosts = s.win.hosts ∧ t.gh.waits = s.gh.waits) ∧
      (r.ingress < 112 → (getPort s r.ingress).engRunning = false → exec (.hostRequest r hw) s =
        .next (setPort r.ingress { getPort s r.ingress with
          engWork := (getPort s r.ingress).engWork ++ [.malformed (sourced r)] } s))) ∧
    (Admissible s r → Quiet hw → r.ingress < 112 → r.kind = .pcieWr → r.locked = false → r.poison = false → r.len ≤ 512 →
      ∀ did, r.route = .range none did →
        let e := didEntry s s.gh.route.stamping did
        let p := fld e 9 2
        e.getLsbD 0 = true → e.getLsbD 1 = false → p < 112 → portCreated s p = true → (getPort s p).linkUp = true →
        (getPort s p).proto = 0 → accessDomain s s.gh.route.stamping ⟨⟨r.addr, r.len, r.data⟩, did, none, r.addr, none, none, false⟩ = none → s.sched.held = [] →
        policerFor s r.ingress r.tc none = none →
        ∃ t x, exec (.hostRequest r hw) s = .next t ∧
          getQueue t (qkey p (didQueue e (r.tc % 16))) = getQueue s (qkey p (didQueue e (r.tc % 16))) ++ [x] ∧
          (∀ k, k ≠ qkey p (didQueue e (r.tc % 16)) → getQueue t k = getQueue s k) ∧
          x.id = s.gh.nextTxn ∧ x.ingress = r.ingress ∧ x.egress = p ∧ x.posted = true ∧
          x.gen = s.gh.route.stamping ∧ x.cells = max 1 ((r.len + 63) / 64) ∧ x.body = .req (sourced r) r.addr ∧
          t.gh.waits = s.gh.waits ∧ t.gh.nextTxn = s.gh.nextTxn + 1 ∧ t.port = s.port ∧ t.move = s.move) ∧
    (Admissible s r → Quiet hw → r.ingress < 112 → r.kind = .pcieRd → r.poison = false → r.addr % 4096 + r.len ≤ 4096 →
      ∀ h, r.route = .aperture h →
        let w := winAt s h (getHost s h).win.stamping
        let q := qkey r.ingress (r.tc % 16)
        inAperture w (r.addr / 4096) = true → winGrants w (r.addr / 4096) 1 none .r = false → sharedFits s q 1 false = true →
        (getHost s h).reloading = false → cacheHit s h (getHost s h).map.stamping (r.addr / 4096) = true →
        ∃ t x, exec (.hostRequest r hw) s = .next t ∧
          getQueue t q = getQueue s q ++ [x] ∧ x.body = .rsp true .abort [] ∧ (∀ k, k ≠ q → getQueue t k = getQueue s k) ∧
          (getHost t h).denyCount = sat64 (getHost s h).denyCount ∧ (getHost t h).denyValid = true ∧
          ((getHost s h).denyValid = false → (getHost t h).denyAddr = r.addr ∧ (getHost t h).denyLevel = 1 ∧
            (getHost t h).denyType = 0 ∧ (getHost t h).denySource = r.ingress ∧
            (getHost t h).denyEpoch = (getHost s h).win.stamping) ∧
          ((getHost s h).denyValid = true → (getHost t h).denyAddr = (getHost s h).denyAddr) ∧
          t.gh.waits = s.gh.waits ∧ t.tel.samples = s.tel.samples)

/-- A read’s answer goes back to its ingress, a fill resumes the oldest waiting access, a policer releases its first held request. -/
def Obligations.AnswersFillsAndReleases : Prop :=
  ∀ (s : State),
    (∀ r : Response, r.ingress < 129 → rspUp s r.ingress = true → rspCredit s r = true →
      s.dir.expander.find? (fun e => e.1 == r.txn) = none →
      (s.gh.waits.find? (fun w => w.id == r.txn && w.done.isNone && w.target == r.ingress) = none → r.ingress < 112 →
        ∃ t, exec (.responseArrival r) s = .next t ∧ t.flt.status.getLsbD 7 = true ∧ t.gh = s.gh ∧
          ((getPort s r.ingress).engRunning = true →
            (getPort t r.ingress).aer = (getPort s r.ingress).aer ||| (1#32 <<< AER_UNEXPECTED)) ∧
          OnlyAreas [.port, .stw, .out, .free, .evt, .flt] s t) ∧
      (∀ w ∈ s.gh.waits, w.id = r.txn → w.done = none → w.target = r.ingress → w.kind = .pcieRd → w.parent = w.id →
        w.shadow = false → w.line = none → w.cells = 0 → w.remote = none → w.ingress < 112 →
        (getPort s w.ingress).linkUp = true → rspError r.kind = false →
        (∀ x ∈ s.gh.waits, (x.id = w.id ∨ x.parent = w.parent) → x = w) →
        (∀ k m, getMig s k = some m → m.waiting = []) → s.gh.deferred = [] → r.writeFail = none →
        sharedFits s (qkey w.ingress w.queue) (cellsOf (8 * r.data.length)) false = true →
        ∃ t x, exec (.responseArrival r) s = .next t ∧
          getQueue t (qkey w.ingress w.queue) = getQueue s (qkey w.ingress w.queue) ++ [x] ∧
          x.body = .rsp true r.kind r.data ∧ x.egress = w.ingress ∧ x.ingress = r.ingress ∧
          (∀ k, k ≠ qkey w.ingress w.queue → getQueue t k = getQueue s k) ∧
          t.gh.waits = s.gh.waits.filter (fun y => y.id != w.id))) ∧
    (∀ hw, (s.win.fills = [] → exec (.mapCacheMissFill hw) s = .next s) ∧
      (∀ x rest h, s.win.fills = x :: rest → x.host = some h → hw.memRetry = none → hw.storeEcc = .ok →
        let s1 := fillPages x hw { s with win := { s.win with fills := rest } }
        exec (.mapCacheMissFill hw) s = .next (resume x hw true s1) ∧ s1.win.fills = rest ∧ s1.win.hosts = s.win.hosts ∧
        (onFallback x.req = false → inAperture (winAt s h x.epoch) (x.req.addr / 4096) = true → cacheHit s1 h x.mapGen (x.req.addr / 4096) = true) ∧ OnlyAreas [.win, .free] s s1)) ∧
    (∀ p < 4096,
      let full := policerFill s.time.localNs (getPolicer s p)
      (heldReady s p full.tp [] s.sched.held = none → exec (.policerRelease p) s = .next s) ∧
      (∀ h, heldReady s p full.tp [] s.sched.held = some h → h.policer = p ∧ 64 * h.txn.cells * 1000 ≤ full.tp) ∧
      (∀ h, heldReady s p full.tp [] s.sched.held = some h → h.txn.egress < 128 → s.gh.deferred = [] →
        let k := qkey h.txn.egress h.txn.queue
        sharedFits s k h.txn.cells true = true → sharedFits s k h.txn.cells false = true →
        ∃ t x, exec (.policerRelease p) s = .next t ∧
          getQueue t k = getQueue s k ++ [x] ∧ x.id = h.txn.id ∧ x.body = h.txn.body ∧ x.cells = h.txn.cells ∧
          t.sched.held = s.sched.held.filter (fun y => y.txn.id != h.txn.id) ∧
          (getPolicer t p).tp = full.tp - 64 * h.txn.cells * 1000 ∧ t.gh.waits = s.gh.waits ∧ t.win = s.win ∧ t.move = s.move)) ∧
    (∀ h < 64, ∀ port < 112, (getHost s h).reloading = true → (getHost s h).waiting = [] →
      ∃ t, exec (.reloadComplete (some h) (some port)) s = .next t ∧
        getHost t h = { getHost s h with reloading := false, waiting := [] } ∧
        t.flt.asserted = (s.flt.asserted.filter (fun e => !(e.1 == 13 && e.2 == unitCode 11 h))).filter
          (fun e => !(e.1 == 13 && e.2 == unitCode 2 port)) ∧ OnlyAreas [.win, .flt] s t)

/-- The body of a capture record, which leaves as a host write. -/
def captureBody : Body → Bool
  | .record _ _ _ => true
  | _ => false

/-- EGRESS_SELECT sends the head of the best selectable queue and nothing when none is selectable. -/
def Obligations.EgressesSendTheirBestHead : Prop :=
  ∀ (s : State),
    (∀ e < 129, ∀ hw,
      let s1 := countNpw e (guardCount e (List.range 16) (refresh e s))
      (best s1 e = none → (e < 112 ∨ 120 ≤ e) → exec (.egressSelect e hw) s = .next s1 ∧ OnlyAreas [.sched, .stw] s s1) ∧
      (best s1 e = none → 112 ≤ e → e < 120 →
        ((getLink s (e - 112)).state ≠ .active ∨ (getLink s (e - 112)).txAsleep = true → exec (.egressSelect e hw) s = .next s1) ∧
        ((getLink s (e - 112)).state = .active → (getLink s (e - 112)).txAsleep = false → ∃ t hdr,
          exec (.egressSelect e hw) s = .next t ∧ t.out = s.out ++ [.flit (e - 112) hdr none] ∧ t.gh = s.gh)) ∧
      (∀ q tx, best s1 e = some q → headOf s1 e q = some tx → e < 112 → tx.egress = e → tx.queue = q →
        captureBody tx.body = false → badWord true tx hw = false → hw.link ≠ .uncorrectable → s.gh.deferred = [] →
        let bad := badWord false tx hw && decide (0 < bodyBytes (txnBody tx))
        ∃ t l1 l2, exec (.egressSelect e hw) s = .next t ∧
          t.out = s.out ++ l1 ++ [Output.tx { tx with body := if bad then poisoned tx.body else tx.body }] ++ l2 ∧
          (tx.posted = false → tx.srcIngress < 120 → hw.words = [] →
            getQueue t (qkey e q) = (getQueue s (qkey e q)).filter (fun x => x.id != tx.id) ∧
            (∀ k, k ≠ qkey e q → getQueue t k = getQueue s k)))) ∧
    ((∀ e ∈ s.move.movers, e.2.state = .granted → ∀ j, e.2.job = some j → j.kind ≠ .capture) →
      exec .captureRecordWrite s = .next s) ∧
    (∀ m x, s.move.movers.find? (fun e => e.2.state == .granted &&
          (match e.2.job with | some j => j.kind == .capture | none => false)) = some (m, x) → m < 64 → s.cap.head < 2 ^ 32 →
      ∃ t n w, exec .captureRecordWrite s = .next t ∧ t.cap.buffer = s.cap.buffer.drop n ∧ w ≤ n ∧ n ≤ s.cap.buffer.length ∧
        t.cap.head = (s.cap.head + w) % 2 ^ 32 ∧ (w < n → t.cap.lost = satAdd 64 s.cap.lost (n - w)) ∧
        (s.cap.buffer ≠ [] → x.grantBytes < 2 ^ x.burst → reserveFits s (120 + m / 8) (m % 8) 1 = true → 1 ≤ n) ∧
        t.cap.filters = s.cap.filters ∧ t.cap.tail = s.cap.tail ∧ t.win = s.win ∧ t.dir = s.dir ∧ t.port = s.port)

/-- No other switch takes part in the fabric-wide command, or the manager switch has sent it here to be applied
(10 R308). -/
def Alone (s : State) (c : SeqCmd) : Prop := fabricOthers s = [] ∨ ∃ sw, c.origin = .fromManager sw

/-- Nothing of the line's set can go on by itself: no transaction of it is done, no request waits, no walk is on, the line is
not to be recovered, and no transaction waits for cells. -/
def SetQuiet (s : State) (dla : Nat) : Prop :=
  doneLines s (dirSet s dla) = [] ∧ s.dir.waiters = [] ∧ s.dir.walks = [] ∧ (getLine s dla).lost = false ∧ s.gh.deferred = []

/-- The request reaches its home here with its set in the directory cache and an error-free entry. -/
def AtHome (s : State) (r : HomeReq) : Prop :=
  r.domain < 64 ∧ homeHere s r = true ∧ s.dir.cached.contains (dirSet s r.dla) = true ∧ r.ecc0 = .ok ∧ r.ecc1 = .ok

/-- The message with body `b` is linked last in queue `k`, or waits for cells to be linked there; no other queue changes. -/
def Queued (s t : State) (k : Nat) (b : Body) : Prop :=
  (∃ x, x.body = b ∧ qkey x.egress x.queue = k ∧
    ((getQueue t k = getQueue s k ++ [x] ∧ t.gh.deferred = []) ∨ (getQueue t k = getQueue s k ∧ t.gh.deferred = [x]))) ∧
  ∀ j, j ≠ k → getQueue t j = getQueue s j

/-- DIR_SHARE_SET, DIR_PARTITION_SET and DIR_QUOTA_SET define, attach, destroy, readmit, partition and limit sharing domains. -/
def Obligations.DomainCommands : Prop :=
  ∀ (s : State) (seq : Nat) (c : SeqCmd),
    let n := objIndex c.desc.objectId % 64
    let a := c.desc.arg0
    let h := fld a 21 16
    let i := fld a 41 32
    let d := getDomain s n
    let w := winEntry (winNow s h) i
    (Runs s seq 0x3001 c → fld a 2 0 = 0 → ReadsUp s false defineRange c → ∀ answers,
      (exec (.define seq none answers) s = .next (finishFail c DESC_FAULT s)) ∧
      (∀ ws, let np := max 1 (min 1024 (fld (nth ws 0) 15 0))
        let nr := max 1 (min 8 (fld (nth ws 0) 23 16))
        let rs := (clampSizes (2 ^ 25) (recRanges ws nr)).map (fun r => { r with size := r.size * 2097152 })
        (defineOk s n rs (recParts ws np) = false →
          exec (.define seq (some ws) answers) s = .next (finishFail c PRECONDITION s)) ∧
        (defineOk s n rs (recParts ws np) = true → Alone s c → ∃ ks s1,
          exec (.define seq (some ws) answers) s = .next (Completed c true 0 ks s1) ∧
          getDomain s1 n = { Domain.reset with
            defined := true, ranges := rs, participants := recParts ws np, homes := [fld (nth ws 1) 4 0], granLog2 := 30
            ways := 16 } ∧
          (∀ m, m ≠ n → getDomain s1 m = getDomain s m) ∧ s1.dir.lines = s.dir.lines ∧ s1.win = s.win))) ∧
    (Runs s seq 0x3001 c → fld a 2 0 = 1 →
      (w.locked = true → exec (.attach seq) s = .next (finishFail c LOCKED s)) ∧
      (w.locked = false → w.valid = true → d.defined = true → winStageChanges s h i = false → winMigrating s h w = false →
        (∃ k, participantOf d s.glb.switchId h = some k ∧ k ∉ d.cut) → (h, i, n) ∉ s.dir.attach →
        (getPort s (Config.hostPort h)).linkUp = true → (getPort s (Config.hostPort h)).proto = 3 →
        (getPort s (Config.hostPort h)).backInval = true → s.dir.attach.length < Config.attachPairs →
        ∃ ks s1, exec (.attach seq) s = .next (Completed c true 0 ks s1) ∧
          s1.dir = { s.dir with attach := s.dir.attach ++ [(h, i, n)] } ∧
          winEntry (winNow s1 h) i = { w with shared := true } ∧ OnlyAreas [.dir, .win, .cmd] s s1)) ∧
    (Runs s seq 0x3001 c → fld a 2 0 = 2 →
      ((h, i, n) ∉ s.dir.attach → exec (.detach seq (.here false)) s = .next (finishFail c PRECONDITION s)) ∧
      ((h, i, n) ∈ s.dir.attach → ∀ b, ∃ t, exec (.detach seq (.here b)) s = .next t ∧
        t.dir.attach = s.dir.attach.filter (fun x => x != (h, i, n)) ∧ t.dir.domains = s.dir.domains)) ∧
    (∀ p, ∃ t, exec (.detach seq (.away n p)) s = .next t ∧ t.dir.attach = s.dir.attach ∧ t.dir.domains = s.dir.domains ∧
      t.cmd = s.cmd ∧ t.win = s.win) ∧
    (Runs s seq 0x3001 c → fld a 2 0 = 3 → ∀ answers,
      ((d.defined = false ∨ attachedTo s n = true) → exec (.destroy seq answers) s = .next (finishFail c PRECONDITION s)) ∧
      (d.defined = true → attachedTo s n = false →
        (Alone s c → ∃ s1, exec (.destroy seq answers) s = .next (Completed c false 0 [] s1) ∧
          getDomain s1 n = Domain.reset ∧ (∀ m, m ≠ n → getDomain s1 m = getDomain s m) ∧ OnlyAreas [.dir, .cmd] s s1) ∧
        (managerOrigin c = true → fabricCheck s answers ≠ 0 → ∃ s1,
          exec (.destroy seq answers) s = .next (finishFail c (fabricCheck s answers) s1) ∧ s1.dir = s.dir))) ∧
    (Runs s seq 0x3001 c → 4 ≤ fld a 2 0 → ∀ answers,
      (i ∉ d.cut → exec (.readmit seq answers) s = .next (finishFail c PRECONDITION s)) ∧
      (i ∈ d.cut → Alone s c → ∃ ks, exec (.readmit seq answers) s =
        .next (Completed c true 0 ks (setDomain n { d with cut := d.cut.filter (fun x => x != i) } s)))) ∧
    (Runs s seq 0x3002 c → ∀ answers,
      (d.defined = false → exec (.dirPartitionSet seq answers) s = .next (finishFail c PRECONDITION s)) ∧
      (d.defined = true → attachedTo s n = false → (∃ sw, c.origin = .fromManager sw) → ∃ ks homes,
        exec (.dirPartitionSet seq answers) s =
          .next (Completed c true 0 ks (setDomain n { d with homes := homes, granLog2 := max 21 (min 36 (fld a 13 8)) } s)) ∧
        homes.length = max 1 (min 8 (fld a 3 0)) ∧
        ∀ j < homes.length, homes.getD j 0 = c.desc.arg1.toNat / 2 ^ (5 * j) % 32)) ∧
    (Runs s seq 0x3003 c → objIndex c.desc.objectId / 2 ^ 48 = 3 → ∃ ks p, exec (.dirQuotaSetHome seq) s =
        .next (Completed c true 0 ks { s with dir := { s.dir with
          agePriority := p, ageReserve := max (p + 1) (fld a 12 8), snoopTo := min 10 (fld a 19 16) } }) ∧
      p = max 1 (min 30 (fld a 4 0))) ∧
    (Runs s seq 0x3003 c → objIndex c.desc.objectId / 2 ^ 48 = 2 →
      (d.defined = false → exec (.dirQuotaSetDomain seq) s = .next (finishFail c PRECONDITION s)) ∧
      (d.defined = true → ∃ ks, exec (.dirQuotaSetDomain seq) s =
        .next (Completed c true 0 ks (setDomain n { d with ways := max 1 (min 16 (fld a 4 0)) } s))))

/-- A resend drops what a switch has applied, and a switch that joins is reachable and gets or adopts the fabric’s definitions. -/
def Obligations.FabricMembers : Prop :=
  ∀ (s : State) (sw : Nat), sw < 32 →
    (∀ b, (∀ e ∈ s.obl.resend, e.1 ≠ sw) → exec (.fabricApplyResend sw b) s = .next s) ∧
    (∀ b, (b = true ∨ s.obl.reach.getLsbD sw = false) → (∃ e ∈ s.obl.resend, e.1 = sw) →
      exec (.fabricApplyResend sw b) s =
        .next { s with obl := { s.obl with resend := s.obl.resend.filter (fun e => e.1 != sw) } }) ∧
    (s.obl.reach.getLsbD sw = true → ∃ t, exec (.fabricApplyResend sw false) s = .next t ∧
      t.obl.resend = s.obl.resend ∧ OnlyAreas [.obl, .out] s t) ∧
    (isManager s = true → ∀ defs, ∃ t, exec (.switchJoin sw defs) s = .next t ∧ t.obl.reach = s.obl.reach ||| (1#32 <<< sw) ∧
      t.obl.resend = s.obl.resend.filter (fun e => e.1 != sw) ∧ OnlyAreas [.obl, .out] s t) ∧
    (isManager s = false → exec (.switchJoin sw none) s = .next s) ∧
    (isManager s = false → ∀ ws, ∃ t, exec (.switchJoin sw (some ws)) s = .next t ∧
      t.obl.reach = s.obl.reach ||| (1#32 <<< sw) ∧ t.obl.mgrSwitch = sw ∧ t.obl.heartbeatUs = fld (nth ws 0) 15 0 ∧
      t.obl.mgrLossMs = fld (nth ws 0) 31 16 ∧ t.obl.standbyEn = (nth ws 0).getLsbD 40)

/-- A request at a line’s home waits for its set, for its line, or takes the line’s block and does what R178 says. -/
def Obligations.HomeRequests : Prop :=
  ∀ (s : State) (r : HomeReq),
    let dla := r.dla
    let x := getLine s dla
    let anon := { r with participant := none }
    (r.domain < 64 → homeHere s r = false → homeHere s anon = false →
      exec (.cachingRead r) s = .next s ∧ exec (.meminv r) s = .next s ∧ exec (.writeback r) s = .next s ∧
      exec (.cleanEvict r) s = .next s ∧ exec (.nonCachingRead r) s = .next s ∧ exec (.nonCachingWrite r) s = .next s) ∧
    (∀ c q k caching, (c, q, k, caching) ∈ [(Instr.cachingRead r, r, readKind r.md, true), (.meminv r, r, .memInv, true),
        (.writeback r, r, .writeback (r.md == .S), true), (.cleanEvict r, r, .cleanEvict, true),
        (.nonCachingRead r, anon, .ncRead, false), (.nonCachingWrite r, anon, .ncWrite, false)] →
      (caching = true → r.participant ≠ none) → r.domain < 64 → homeHere s q = true → homeFull s q k = false →
      s.dir.cached.contains (dirSet s dla) = false →
      exec c s = .next { s with dir := { s.dir with miss := sat64 s.dir.miss, fills := s.dir.fills ++ [(q, k)] } }) ∧
    (∀ c q k caching, (c, q, k, caching) ∈ [(Instr.cachingRead r, r, readKind r.md, true), (.meminv r, r, .memInv, true),
        (.nonCachingRead r, anon, .ncRead, false), (.nonCachingWrite r, anon, .ncWrite, false)] →
      (caching = true → r.participant ≠ none) → AtHome s q → homeFull s q k = false →
      (∀ y, x.txn = some y → y.phase ≠ .done → doneLines s (dirSet s dla) = [] → wayWaiters s (dirSet s dla) = [] → ∃ t, exec c s = .next t ∧
        getLine t dla = x ∧ ∃ w, t.dir.waiters = s.dir.waiters ++ [w] ∧ w.req = q ∧ w.kind = k ∧ w.age = 0 ∧
        OnlyAreas [.dir] s t) ∧
      (x.txn = none → SetQuiet s dla → x.state = .I → s.dir.suspect.contains (dirSet s dla) = false →
        (needsWay k = true → x.hasWay = false ∧ ∃ w, chooseWay s dla = .free w) →
        ∀ e dst, expanderEgress s dla = some (e, dst) → ∃ t y, exec c s = .next t ∧ (getLine t dla).txn = some y ∧
          y.kind = k ∧ y.req = q ∧ (getLine t dla).state = .I ∧
          (k = .memInv → y.phase = .ack) ∧
          (k = .ncWrite → y.phase = .expander ∧ Queued s t (qkey e (homeQueue s q)) (writeBody q)) ∧
          (k ≠ .memInv → k ≠ .ncWrite → y.phase = .expander ∧ Queued s t (qkey e (homeQueue s q)) (.homeRead dla)) ∧
          (needsWay k = true → (getLine t dla).hasWay = true))) ∧
    (AtHome s r → x.txn = none → SetQuiet s dla → x.state = .EM → r.participant = some x.owner →
      (∀ e dst, expanderEgress s dla = some (e, dst) → ∃ t y, exec (.writeback r) s = .next t ∧
        (getLine t dla).txn = some y ∧ y.kind = .writeback (r.md == .S) ∧ y.phase = .expander ∧
        (getLine t dla).state = .EM ∧ (getLine t dla).owner = x.owner ∧
        Queued s t (qkey e (homeQueue s r)) (writeBody r)) ∧
      (∃ t, exec (.cleanEvict r) s = .next t ∧ (getLine t dla).state = .I ∧ (getLine t dla).hasWay = false ∧
        (getLine t dla).vector = 0 ∧ (getLine t dla).txn = none ∧ t.dir.waiters = [])) ∧
    (r.domain < 64 → s.gh.deferred = [] →
      let q := tagQueue s r.source r.tag
      (homeHere s r = true → ∃ t, exec (.biconflict r) s = .next t ∧ t.dir = s.dir ∧ Queued s t (qkey r.source q) (.biConflictAck dla)) ∧
      (lineHere s dla = false → (getDomain s (dlaDomain dla)).defined = true →
        ∀ l, linkToward s (homeOf (getDomain s (dlaDomain dla)) (dlaOffset dla)) = some l →
        ∃ t, exec (.biconflict r) s = .next t ∧ t.dir = s.dir ∧ Queued s t (qkey (112 + l) q) (.biConflict r)))

/-- Snoop answers, acknowledgements, set fetches and snoop timeouts carry a home transaction on. -/
def Obligations.HomeTransactionsGoOn : Prop :=
  ∀ (s : State) (dla p : Nat), dlaDomain dla < 64 →
    let x := getLine s dla
    (∀ t0, x.txn = some t0 → lineHere s dla = true → SetQuiet s dla → t0.phase = .snooping → ∀ ans,
      (t0.waitSnoops.contains p = false → exec (.birsp dla p ans) s = .next s ∧ exec (.snoopTimeout dla p) s = .next s) ∧
      (t0.waitSnoops.contains p = true → (t0.waitSnoops.filter (fun y => y != p) ≠ [] ∨ t0.inner ≠ []) →
        exec (.birsp dla p ans) s = .next (setLine dla { x with txn := some { t0 with
          waitSnoops := t0.waitSnoops.filter (fun y => y != p), kept := if ans = .I then t0.kept else t0.kept ++ [p] } } s)) ∧
      (t0.waitSnoops.contains p = true → t0.waitSnoops.filter (fun y => y != p) = [] → t0.inner = [] → t0.kind = .ncRead →
        ∀ e dst, expanderEgress s dla = some (e, dst) → ∃ t y, exec (.birsp dla p ans) s = .next t ∧
          (getLine t dla).txn = some y ∧ y.phase = .expander ∧ y.waitSnoops = [] ∧
          Queued s t (qkey e (homeQueue s t0.req)) (.homeRead dla)) ∧
      (t0.waitSnoops.contains p = true →
        (getDomain s (dlaDomain dla)).participants.findIdx?
          (fun h => h == (getDomain s (dlaDomain dla)).participants.getD p (0, 0)) = some p →
        ∃ t, exec (.snoopTimeout dla p) s = .next t ∧ t.dir.snoopTimeouts = sat64 s.dir.snoopTimeouts ∧
          p ∈ (getDomain t (dlaDomain dla)).cut ∧ t.flt.status.getLsbD 18 = true)) ∧
    (lineHere s dla = false → (getDomain s (dlaDomain dla)).participants.length ≤ p →
      ∀ ans, ∃ t, exec (.birsp dla p ans) s = .next t ∧ t.dir.lines = s.dir.lines ∧ exec (.snoopTimeout dla p) s = .next s) ∧
    (∀ t0, x.txn = some t0 → SetQuiet s dla → t0.forLine = none → t0.failed = false →
      (t0.phase = .snooping → ∀ ecc, exec (.completionAck dla .requester ecc) s = .next s) ∧
      (t0.phase = .ack → (t0.kind = .readOwn ∨ t0.kind = .memInv) → ∀ ecc, ∃ t, exec (.completionAck dla .requester ecc) s = .next t ∧
        (getLine t dla).txn = none ∧ (getLine t dla).state = .EM ∧ (getLine t dla).owner = t0.req.participant.getD 0 ∧
        (∀ a, a ≠ dla → getLine t a = getLine s a) ∧ OnlyAreas [.dir] s t) ∧
      (t0.phase = .expander → t0.kind = .ncWrite → ∀ ecc, ∃ t, exec (.completionAck dla .expander ecc) s = .next t ∧
        (getLine t dla).txn = none ∧ (getLine t dla).state = .I ∧ t.dir.waiters = []) ∧
      (∀ id, t0.phase = .expander → t0.inner = [(id, none)] → ∀ ecc, exec (.completionAck dla .writeback ecc) s =
        .next (setLine dla { x with txn := some { t0 with inner := [] } } s)) ∧
      (∀ sw < 32, (t0.phase ≠ .ack ∨ t0.req.remote = false) → exec (.deliveryNotice dla sw) s = .next s) ∧
      (∀ sw < 32, t0.phase = .ack → t0.req.remote = true → (t0.kind = .readOwn ∨ t0.kind = .memInv) →
        ∃ t, exec (.deliveryNotice dla sw) s = .next t ∧ (getLine t dla).txn = none ∧ (getLine t dla).state = .EM ∧
          (getLine t dla).owner = t0.req.participant.getD 0 ∧ OnlyAreas [.dir] s t)) ∧
    (∀ set < 2 ^ dirBits s, ∀ ecc0 ecc1 way retry,
      ((∀ f ∈ s.dir.fills, dirSet s f.1.dla ≠ set) → exec (.dirCacheMissFill set ecc0 ecc1 way retry) s = .next s) ∧
      ((∃ f ∈ s.dir.fills, dirSet s f.1.dla = set) → ∃ t, exec (.dirCacheMissFill set ecc0 ecc1 way retry) s = .next t ∧
        t.dir.fills = s.dir.fills.filter (fun f => dirSet s f.1.dla != set) ∧ t.dir.cached.contains set = true))

/-- Every register and immediate instruction of Sage writes the result of R207 to its destination and nothing else. -/
def Obligations.SageRegisterInstructions : Prop :=
  (
    ∀ (s : State) (slot rd ra rb : Nat), slot < 32 → CodeAt s slot ((getSlot s slot).pc + 8) →
      (slotRuns s slot 0x01 (some rd) (some ra) (some rb) none = true →
        exec (.add slot rd ra rb) s = Wrote s slot rd (reg s slot ra + reg s slot rb)) ∧
      (slotRuns s slot 0x02 (some rd) (some ra) (some rb) none = true →
        exec (.sub slot rd ra rb) s = Wrote s slot rd (reg s slot ra - reg s slot rb)) ∧
      (slotRuns s slot 0x03 (some rd) (some ra) (some rb) none = true →
        exec (.and slot rd ra rb) s = Wrote s slot rd (reg s slot ra &&& reg s slot rb)) ∧
      (slotRuns s slot 0x04 (some rd) (some ra) (some rb) none = true →
        exec (.or slot rd ra rb) s = Wrote s slot rd (reg s slot ra ||| reg s slot rb)) ∧
      (slotRuns s slot 0x05 (some rd) (some ra) (some rb) none = true →
        exec (.xor slot rd ra rb) s = Wrote s slot rd (reg s slot ra ^^^ reg s slot rb)) ∧
      (slotRuns s slot 0x06 (some rd) (some ra) (some rb) none = true →
        exec (.shl slot rd ra rb) s = Wrote s slot rd (reg s slot ra <<< ((reg s slot rb).extractLsb' 0 6))) ∧
      (slotRuns s slot 0x07 (some rd) (some ra) (some rb) none = true →
        exec (.shr slot rd ra rb) s = Wrote s slot rd (reg s slot ra >>> ((reg s slot rb).extractLsb' 0 6))) ∧
      (slotRuns s slot 0x08 (some rd) (some ra) (some rb) none = true →
        exec (.sar slot rd ra rb) s = Wrote s slot rd ((reg s slot ra).sshiftRight ((reg s slot rb).extractLsb' 0 6).toNat)) ∧
      (slotRuns s slot 0x09 (some rd) (some ra) (some rb) none = true →
        exec (.mul slot rd ra rb) s = Wrote s slot rd (BitVec.ofNat 64 ((reg s slot ra).toNat * (reg s slot rb).toNat))) ∧
      (slotRuns s slot 0x0A (some rd) (some ra) (some rb) none = true →
        exec (.mulhu slot rd ra rb) s = Wrote s slot rd
          (((reg s slot ra).setWidth 128 * (reg s slot rb).setWidth 128).extractLsb' 64 64)) ∧
      (slotRuns s slot 0x0B (some rd) (some ra) (some rb) none = true →
        exec (.divu slot rd ra rb) s = Wrote s slot rd (if reg s slot rb = 0 then 0 else reg s slot ra / reg s slot rb)) ∧
      (slotRuns s slot 0x0C (some rd) (some ra) (some rb) none = true →
        exec (.remu slot rd ra rb) s = Wrote s slot rd (if reg s slot rb = 0 then 0 else reg s slot ra % reg s slot rb)) ∧
      (slotRuns s slot 0x0D (some rd) (some ra) (some rb) none = true →
        exec (.ltu slot rd ra rb) s = Wrote s slot rd (if (reg s slot ra).toNat < (reg s slot rb).toNat then 1 else 0)) ∧
      (slotRuns s slot 0x0E (some rd) (some ra) (some rb) none = true →
        exec (.lt slot rd ra rb) s = Wrote s slot rd (if (reg s slot ra).toInt < (reg s slot rb).toInt then 1 else 0)) ∧
      (slotRuns s slot 0x0F (some rd) (some ra) (some rb) none = true →
        exec (.minu slot rd ra rb) s = Wrote s slot rd (BitVec.ofNat 64 (min (reg s slot ra).toNat (reg s slot rb).toNat))) ∧
      (slotRuns s slot 0x10 (some rd) (some ra) (some rb) none = true →
        exec (.maxu slot rd ra rb) s = Wrote s slot rd (BitVec.ofNat 64 (max (reg s slot ra).toNat (reg s slot rb).toNat))) ∧
      (slotRuns s slot 0x11 (some rd) (some ra) none none = true →
        exec (.popc slot rd ra) s = Wrote s slot rd (BitVec.ofNat 64 ((List.range 64).filter (fun i => (reg s slot ra).getLsbD i)).length)) ∧
      (slotRuns s slot 0x12 (some rd) (some ra) none none = true →
        ∃ n ≤ 64, exec (.clz slot rd ra) s = Wrote s slot rd (BitVec.ofNat 64 n) ∧
          (∀ i < n, (reg s slot ra).getLsbD (63 - i) = false) ∧ (n < 64 → (reg s slot ra).getLsbD (63 - n) = true))
  ) ∧
  (
    ∀ (s : State) (slot rd ra : Nat) (imm : BitVec 32), slot < 32 → CodeAt s slot ((getSlot s slot).pc + 8) →
      (slotRuns s slot 0x21 (some rd) (some ra) none (some imm) = true →
        exec (.addi slot rd ra imm) s = Wrote s slot rd (BitVec.ofInt 64 ((reg s slot ra).toInt + imm.toInt))) ∧
      (slotRuns s slot 0x23 (some rd) (some ra) none (some imm) = true →
        exec (.andi slot rd ra imm) s = Wrote s slot rd (reg s slot ra &&& imm.zeroExtend 64)) ∧
      (slotRuns s slot 0x24 (some rd) (some ra) none (some imm) = true →
        exec (.ori slot rd ra imm) s = Wrote s slot rd (reg s slot ra ||| imm.zeroExtend 64)) ∧
      (slotRuns s slot 0x25 (some rd) (some ra) none (some imm) = true →
        exec (.xori slot rd ra imm) s = Wrote s slot rd (reg s slot ra ^^^ imm.zeroExtend 64)) ∧
      (slotRuns s slot 0x26 (some rd) (some ra) none (some imm) = true →
        exec (.shli slot rd ra imm) s = Wrote s slot rd (reg s slot ra <<< imm.extractLsb' 0 6)) ∧
      (slotRuns s slot 0x27 (some rd) (some ra) none (some imm) = true →
        exec (.shri slot rd ra imm) s = Wrote s slot rd (reg s slot ra >>> imm.extractLsb' 0 6)) ∧
      (slotRuns s slot 0x28 (some rd) (some ra) none (some imm) = true →
        exec (.sari slot rd ra imm) s = Wrote s slot rd ((reg s slot ra).sshiftRight (imm.extractLsb' 0 6).toNat)) ∧
      (slotRuns s slot 0x2D (some rd) (some ra) none (some imm) = true →
        exec (.ltui slot rd ra imm) s = Wrote s slot rd (if (reg s slot ra).toNat < (imm.signExtend 64).toNat then 1 else 0)) ∧
      (slotRuns s slot 0x2E (some rd) (some ra) none (some imm) = true →
        exec (.lti slot rd ra imm) s = Wrote s slot rd (if (reg s slot ra).toInt < imm.toInt then 1 else 0)) ∧
      (slotRuns s slot 0x30 (some rd) (some ra) none (some imm) = true →
        exec (.immhi slot rd ra imm) s = Wrote s slot rd (imm ++ (reg s slot ra).extractLsb' 0 32 : BitVec 64))
  )

/-- The state in which slot `slot` goes on at `pc` and nothing else has changed. -/
def WentTo (s : State) (slot pc : Nat) : Out := .next (setSlot slot { getSlot s slot with pc := pc } s)

/-- LD, ST, BR, CALL, JUMPR and TIMER move one aligned word, branch, link and arm the timer as R204-R207 say. -/
def Obligations.SageLoadsStoresAndControl : Prop :=
  ∀ (s : State) (slot rd ra rb : Nat) (imm : BitVec 32), slot < 32 →
    let x := getSlot s slot
    let target := (BitVec.ofNat 64 x.pc + imm.signExtend 64 * 8).toNat
    let data := (reg s slot ra + imm.signExtend 64).toNat % 65536 / 8
    (slotRuns s slot 0x40 (some rd) (some ra) none (some imm) = true → CodeAt s slot (x.pc + 8) →
      exec (.ld slot rd ra imm .ok) s = Wrote s slot rd (tget 0 x.mem data) ∧
      exec (.ld slot rd ra imm .corrected) s =
        .next (setSlot slot { slotWrote s slot rd (tget 0 x.mem data) (x.pc + 8) with eccCorr := satAdd 16 x.eccCorr 1 } s)) ∧
    (slotRuns s slot 0x41 none (some ra) (some rb) (some imm) = true → CodeAt s slot (x.pc + 8) →
      exec (.st slot ra rb imm) s = .next (setSlot slot { x with mem := tput 0 x.mem data (reg s slot rb), pc := x.pc + 8 } s)) ∧
    (∀ cond, cond ≤ 8 → slotRuns s slot 0x50 (some cond) (some ra) (some rb) (some imm) = true →
      ∃ taken : Bool, taken = [true, reg s slot ra == reg s slot rb, reg s slot ra != reg s slot rb,
          decide ((reg s slot ra).toNat < (reg s slot rb).toNat), decide ((reg s slot rb).toNat ≤ (reg s slot ra).toNat),
          decide ((reg s slot ra).toInt < (reg s slot rb).toInt), decide ((reg s slot rb).toInt ≤ (reg s slot ra).toInt),
          reg s slot ra &&& reg s slot rb != 0, reg s slot ra &&& reg s slot rb == 0].getD cond false ∧
        (taken = true → CodeAt s slot target → exec (.br slot cond ra rb imm) s = WentTo s slot target) ∧
        (taken = false → CodeAt s slot (x.pc + 8) → exec (.br slot cond ra rb imm) s = WentTo s slot (x.pc + 8))) ∧
    (slotRuns s slot 0x56 (some rd) none none (some imm) = true → CodeAt s slot target →
      exec (.call slot rd imm) s = .next (setSlot slot (slotWrote s slot rd (BitVec.ofNat 64 (x.pc + 8)) target) s)) ∧
    (slotRuns s slot 0x57 (some rd) (some ra) none (some imm) = true →
      CodeAt s slot ((reg s slot ra + imm.signExtend 64) &&& ~~~7#64).toNat →
      exec (.jumpr slot rd ra imm) s = .next (setSlot slot
        (slotWrote s slot rd (BitVec.ofNat 64 (x.pc + 8)) ((reg s slot ra + imm.signExtend 64) &&& ~~~7#64).toNat) s)) ∧
    (slotRuns s slot 0x62 none (some ra) none (some imm) = true → CodeAt s slot (x.pc + 8) →
      exec (.timer slot ra imm) s = .next (setSlot slot { x with
        timer := if reg s slot ra + imm.zeroExtend 64 = 0 then none
                 else some (s.time.localNs + (reg s slot ra + imm.zeroExtend 64).toNat * 1000)
        pc := x.pc + 8 } s))

/-- The reading Sage instructions put into rd what R207 says of Thyme, the epoch, heat, summaries, maps, pools and mailboxes. -/
def Obligations.SageReadsOfTheSwitch : Prop :=
  ∀ (s : State) (slot rd ra rb : Nat) (imm : BitVec 32), slot < 32 → CodeAt s slot ((getSlot s slot).pc + 8) →
    let x := getSlot s slot
    (slotRuns s slot 0x63 (some rd) none none none = true → exec (.time slot rd) s = Wrote s slot rd (BitVec.ofNat 64 s.time.now)) ∧
    (slotRuns s slot 0x64 (some rd) none none none = true → exec (.epochn slot rd) s = Wrote s slot rd (BitVec.ofNat 64 s.tel.epoch)) ∧
    (slotRuns s slot 0x71 (some rd) (some ra) (some rb) (some imm) = true →
      let host := ((reg s slot ra).extractLsb' 0 6).toNat
      let page := ((reg s slot rb).extractLsb' 12 40).toNat
      let set := heatSet s host page (imm.getLsbD 0)
      ((∀ way < 8, ∀ e, heatWay s set way = some e →
          ¬(e.host = host ∧ e.page = heatPage page (imm.getLsbD 0) ∧ e.huge = imm.getLsbD 0)) →
        ∀ bad, exec (.heatrd slot rd ra rb imm bad) s = Wrote s slot rd 0) ∧
      (∀ way < 8, ∀ e, heatWay s set way = some e →
        (e.host = host ∧ e.page = heatPage page (imm.getLsbD 0) ∧ e.huge = imm.getLsbD 0) →
        (∀ w < way, ∀ e', heatWay s set w = some e' →
          ¬(e'.host = host ∧ e'.page = heatPage page (imm.getLsbD 0) ∧ e'.huge = imm.getLsbD 0)) →
        exec (.heatrd slot rd ra rb imm false) s = Wrote s slot rd (heatWord1 s e))) ∧
    (slotRuns s slot 0x72 (some rd) (some ra) none none = true →
      exec (.heatidx slot rd ra false) s = Wrote s slot rd
        (((tget none s.tel.heat ((reg s slot ra).toNat % 2 ^ (heatBits s + 3))).map heatWord0).getD 0)) ∧
    (slotRuns s slot 0x73 (some rd) (some ra) none (some imm) = true →
      let e := tget Summary.reset s.tel.summary (reg s slot ra).toNat
      exec (.egrd slot rd ra imm false) s = Wrote s slot rd
        (if 128 < (reg s slot ra).toNat then 0
         else [w64 e.bytes, w64 e.backlogUs, w64 e.peak, w64 e.epoch].getD (imm.extractLsb' 0 2).toNat 0)) ∧
    (slotRuns s slot 0x74 (some rd) (some ra) (some rb) none = true →
      exec (.maprd slot rd ra rb) s = Wrote s slot rd (mapRead s ((reg s slot ra).extractLsb' 0 6).toNat (reg s slot rb).toNat)) ∧
    (slotRuns s slot 0x75 (some rd) (some ra) none none = true →
      exec (.poolrd slot rd ra) s = Wrote s slot rd (BitVec.ofNat 64 (poolPages s ((reg s slot ra).extractLsb' 0 12).toNat))) ∧
    (slotRuns s slot 0x7A (some rd) none none (some imm) = true →
      exec (.mbrd slot rd imm) s = Wrote s slot rd (tget 0 x.mbIn (imm.extractLsb' 0 3).toNat)) ∧
    (slotRuns s slot 0x7B none (some ra) none (some imm) = true →
      exec (.mbwr slot ra imm) s = .next (setSlot slot
        { x with mbOut := tput 0 x.mbOut (imm.extractLsb' 0 3).toNat (reg s slot ra), pc := x.pc + 8 } s))

/-- HOTPOP, PROP, RES, MBSEND, MBDONE, WAIT and HALT work on the slot’s own queues, mailboxes and causes. -/
def Obligations.SageQueueInstructions : Prop :=
  ∀ (s : State) (slot rd ra : Nat), slot < 32 → 
    let x := getSlot s slot
    let next := CodeAt s slot (x.pc + 8)
    (slotRuns s slot 0x70 (some rd) none none none = true → next → s.tel.hot.length ≤ s.tel.hotPushed →
      s.tel.hotPushed - s.tel.hot.length ≤ x.hotCursor →
      (x.hotCursor < s.tel.hotPushed → exec (.hotpop slot rd false) s = .next (setSlot slot
        { slotWrote s slot rd (nth s.tel.hot (x.hotCursor + s.tel.hot.length - s.tel.hotPushed)) (x.pc + 8) with
          hotCursor := x.hotCursor + 1, hotLost := satAdd 16 x.hotLost 0 } s)) ∧
      (s.tel.hotPushed ≤ x.hotCursor → ∀ bad, exec (.hotpop slot rd bad) s = .next (setSlot slot
        { slotWrote s slot rd 0 (x.pc + 8) with hotLost := satAdd 16 x.hotLost 0 } s))) ∧
    (slotRuns s slot 0x78 (some rd) (some ra) none none = true → next →
      let w := fun (k : Nat) => tget 0 x.mem ((reg s slot ra).toNat % 65536 / 32 * 4 + k)
      (x.props.length < 64 → exec (.prop slot rd ⟨ra, []⟩) s = .next (setSlot slot { slotWrote s slot rd 0 (x.pc + 8) with
        props := x.props ++ [⟨w 0, w 1, w 2, w 3⟩], posted := sat64 x.posted } s)) ∧
      (64 ≤ x.props.length → exec (.prop slot rd ⟨ra, []⟩) s = Wrote s slot rd 1)) ∧
    (slotRuns s slot 0x79 (some rd) none none none = true → next →
      exec (.res slot rd) s = .next (setSlot slot { slotWrote s slot rd (x.results.headD 0) (x.pc + 8) with
        results := x.results.tail } s)) ∧
    (slotRuns s slot 0x7C (some rd) none none none = true → next →
      (x.outFull = true → exec (.mbsend slot rd) s = Wrote s slot rd 1) ∧
      (x.outFull = false → ∃ t, exec (.mbsend slot rd) s = .next t ∧
        getSlot t slot = { slotWrote s slot rd 0 (x.pc + 8) with outFull := true } ∧
        (∀ k, k ≠ slot → getSlot t k = getSlot s k) ∧
        tget 0 t.evt.count (64 + slot) = (tget 0 s.evt.count (64 + slot) + 1) % 65536 ∧
        OnlyAreas [.sage, .evt, .out] s t)) ∧
    (slotRuns s slot 0x7D none none none none = true → next →
      exec (.mbdone slot) s = .next (setSlot slot { x with inFull := false, pc := x.pc + 8 } s)) ∧
    (slotRuns s slot 0x60 (some rd) none none none = true →
      ((withHot s x).causes = 0 → exec (.wait slot rd) s = .next (setSlot slot { x with state := .waiting, waitRd := rd } s)) ∧
      ((withHot s x).causes ≠ 0 → next → exec (.wait slot rd) s = .next (setSlot slot
        { slotWrote s slot rd ((withHot s x).causes.zeroExtend 64) (x.pc + 8) with causes := 0 } s))) ∧
    (slotRuns s slot 0x61 none none none none = true → x.props = [] →
      exec (.halt slot) s = .next (setSlot slot { x with state := .stopped, causes := 0, timer := none } s))

/-- A sprig fault restarts the slot until the ninth within 1 s; a trigger wakes a waiting slot; a mailbox write acts on both fields. -/
def Obligations.SprigFaultsAndWakes : Prop :=
  ∀ (s : State) (slot : Nat), slot < 32 →
    let x := getSlot s slot
    let recent := x.faultTimes.filter (fun t => decide (s.time.localNs < t + 1000000000))
    let faulted := fun (cause : Nat) (t : State) =>
      OnlyAreas [.sage, .out, .free, .evt, .flt] s t ∧ t.flt.status.getLsbD 21 = true ∧
      (∀ k, k ≠ slot → getSlot t k = getSlot s k) ∧ t.sage.plog = s.sage.plog ∧
      (getSlot t slot).faultPc = x.pc % 2 ^ 14 ∧ (getSlot t slot).faultCause = cause ∧
      (getSlot t slot).restarts = satAdd 16 x.restarts 1 ∧ (getSlot t slot).faultTimes = recent ++ [s.time.localNs] ∧
      (getSlot t slot).code = x.code ∧ (getSlot t slot).regs = x.regs ∧ (getSlot t slot).props = x.props ∧
      (getSlot t slot).timer = none ∧
      (recent.length ≤ 7 → (getSlot t slot).state = .running ∧ (getSlot t slot).pc = 0 ∧ (getSlot t slot).causes = 1 ∧
        (getSlot t slot).results = [] ∧ ∀ k < x.dataImage.length, tget 0 (getSlot t slot).mem k = nth x.dataImage k) ∧
      (8 ≤ recent.length → (getSlot t slot).state = .faulted ∧ (getSlot t slot).causes = 0 ∧ (getSlot t slot).mem = x.mem)
    (x.state = .running → CodeAt s slot 0 → ∃ t, exec (.sprigBudgetExpiry slot) s = .next t ∧ faulted 3 t) ∧
    (∀ rd ra imm, slotRuns s slot 0x40 (some rd) (some ra) none (some imm) = true → CodeAt s slot 0 →
      ∃ t, exec (.ld slot rd ra imm .uncorrectable) s = .next t ∧ faulted 4 t) ∧
    (x.state = .waiting → (withHot s x).causes ≠ 0 → CodeAt s slot (x.pc + 8) →
      exec (.sprigWake slot) s = .next (setSlot slot { slotWrote s slot x.waitRd ((withHot s x).causes.zeroExtend 64) (x.pc + 8) with
        state := .running, causes := 0 } s)) ∧
    (∀ n, x.timer = some n → (x.state = .running ∨ x.state = .waiting) →
      exec (.sprigTimerExpiry slot) s = .next (setSlot slot { x with
        timer := none, causes := if testb x.trigEn 3 then x.causes ||| 8#6 else x.causes } s)) ∧
    (∀ v : Word, s.glb.imageFail = false →
      (v.getLsbD 0 = true → x.inFull = false → (x.state = .running ∨ x.state = .waiting) → ∃ t,
        exec (.sageInDoorbell slot v) s = .next t ∧ t = setSlot slot { x with
          inFull := true, outFull := x.outFull && v.getLsbD 2,
          causes := if testb x.trigEn 4 then x.causes ||| 16#6 else x.causes } s) ∧
      (v.getLsbD 0 = true → x.inFull = true → ∃ t, exec (.sageInDoorbell slot v) s = .next t ∧
        getSlot t slot = { x with outFull := x.outFull && v.getLsbD 2 } ∧ t.glb.clampCount = sat64 s.glb.clampCount) ∧
      (v.getLsbD 0 = false →
        exec (.sageOutFullClear slot v) s = .next (if v.getLsbD 2 then s else setSlot slot { x with outFull := false } s)))

/-- SPRIG_LOAD stages, SPRIG_START starts or re-adopts, SPRIG_STOP stops a slot, COMMIT_LIMITS_SET sets the limits. -/
def Obligations.SprigCommands : Prop :=
  ∀ (s : State) (seq : Nat) (c : SeqCmd),
    let k := objIndex c.desc.objectId
    let x := getSlot s k
    let d := c.desc
    let code := max 8 (min 16384 ((d.arg1.toNat % 2 ^ 15 + 7) / 8 * 8))
    let dat := min 65536 ((d.arg3.toNat % 2 ^ 17 + 7) / 8 * 8)
    (Runs s seq 0x4001 c → ReadsUp s true codeRange c → ReadsUp s true dataRange c →
      (∀ y, exec (.sprigLoad seq none y) s = .next (finishFail c DESC_FAULT s)) ∧
      (∀ cw dw, (x.state = .running ∨ x.state = .waiting) →
        exec (.sprigLoad seq (some cw) (some dw)) s = .next (finishFail c PRECONDITION s)) ∧
      (∀ cw dw, x.state ≠ .running → x.state ≠ .waiting → ∃ ks cs ds,
        exec (.sprigLoad seq (some cw) (some dw)) s =
          .next (Completed c false 0 ks (setSlot k { x with stage := some (cs, ds) } s)) ∧
        cs.length = code / 8 ∧ ds.length = dat / 8 ∧ (∀ i < code / 8, nth cs i = nth cw i) ∧
        (0 < dat → ∀ i < dat / 8, nth ds i = nth dw i) ∧
        (ks = [] ↔ code = d.arg1.toNat % 2 ^ 15 ∧ dat = d.arg3.toNat % 2 ^ 17))) ∧
    (Runs s seq 0x4002 c → c.origin ≠ .script →
      let adopted := { x with
        trigEn := d.arg0.toNat % 64, budgetUs := max 10 (min 1000000 (d.arg1.toNat % 2 ^ 20)), epoch := d.ownEpoch.toNat }
      (x.code = [] → exec (.sprigStart seq) s = .next (finishFail c PRECONDITION s)) ∧
      (x.code ≠ [] → d.arg0.getLsbD 8 = true → (x.state = .running ∨ x.state = .waiting) → ∃ ks,
        exec (.sprigStart seq) s = .next (Completed c true 0 ks (setSlot k adopted s))) ∧
      (CodeAt s k 0 → d.arg0.getLsbD 8 = false → x.retired = false → ∃ ks mem,
        exec (.sprigStart seq) s = .next (Completed c true 0 ks (setSlot k { adopted with
          state := .running, mem := mem, pc := 0, causes := 1, timer := none, results := [], props := [] } s)) ∧
        ∀ i < x.dataImage.length, tget 0 mem i = nth x.dataImage i)) ∧
    (Runs s seq 0x4003 c → ∃ s1, exec (.sprigStop seq) s = .next (Completed c true 0 [] s1) ∧
      (getSlot s1 k).state = (if x.state = .running ∨ x.state = .waiting then .stopped else x.state) ∧
      (getSlot s1 k).props = [] ∧ (getSlot s1 k).causes = 0 ∧ (getSlot s1 k).timer = none ∧
      (getSlot s1 k).code = x.code ∧ (getSlot s1 k).mem = x.mem ∧ (getSlot s1 k).trigEn = x.trigEn ∧
      (x.results.length ≤ 64 → (getSlot s1 k).results.length = min 64 (x.results.length + x.props.length)) ∧
      (∀ j, j ≠ k → getSlot s1 j = getSlot s j) ∧ OnlyAreas [.sage, .free, .host, .out, .evt] s s1) ∧
    (Runs s seq 0x4004 c → ∃ ks, exec (.commitLimitsSet seq) s = .next (Completed c true 0 ks { s with sage := { s.sage with
        limits := { migPerEpoch := fld d.arg0 15 0, migConcurrent := max 1 (min 64 (fld d.arg0 22 16)),
                    dwellEpochs := fld d.arg0 31 24, knobPerEpoch := fld d.arg0 35 32, span := min 4 (fld d.arg0 38 36),
                    allow := d.arg0.extractLsb' 40 5, propPerEpoch := max 1 (fld d.arg1 15 0),
                    migClass := min 63 (fld d.arg1 23 16) } } }))

/-- Slot `slot` is the next in round-robin order with a posted proposal, and `p` is its oldest; no proposal waits at the commit
unit, and no command on the object of `p` is under way (07 R211). -/
def NextProposal (s : State) (slot : Nat) (p : Proposal) : Prop :=
  slot < 32 ∧ s.sage.turn < 32 ∧ s.sage.taken = none ∧ (getSlot s slot).props.head? = some p ∧
    (∀ j < (slot + 32 - s.sage.turn) % 32, (getSlot s ((s.sage.turn + j) % 32)).props = []) ∧
    ∀ k, propKey p = some k → keyBusy s s.cmd.seqNext k = false

/-- The proposal with its arrival number and its slot's adopted epoch, as the commit unit takes it. -/
def refOf (s : State) (slot : Nat) (p : Proposal) : PropRef × Nat :=
  (⟨slot, s.cmd.seqNext, p, s.tel.epoch⟩, (getSlot s slot).epoch)

/-- The proposal at the head of the slot's queue has left it and got arrival number `s.cmd.seqNext`, the turn has passed
to the next slot, and the result with `status` is in the slot's result queue if that had room; the other slots keep
theirs (07 R211, R216). -/
def Answered (s : State) (slot : Nat) (p : Proposal) (status : Nat) (t : State) : Prop :=
  t.cmd.seqNext = (s.cmd.seqNext + 1) % 2 ^ 64 ∧ t.cmd.inflight = s.cmd.inflight ∧ t.sage.turn = (slot + 1) % 32 ∧
    (getSlot t slot).props = (getSlot s slot).props.tail ∧
    (getSlot t slot).results = (if (getSlot s slot).results.length < 64
      then (getSlot s slot).results ++ [pack [(fld p.word0 31 16, 0), (status, 16), (s.cmd.seqNext % 2 ^ 31, 33)]]
      else (getSlot s slot).results) ∧
    (∀ k, k ≠ slot → getSlot t k = getSlot s k) ∧
    t.sage.accepted = (if status ≤ 1 then sat64 s.sage.accepted else s.sage.accepted) ∧
    t.sage.rejected = (if status ≤ 1 then s.sage.rejected else sat64 s.sage.rejected)

/-- The proposal was refused with `status`: it is answered and nothing is applied. -/
def Refused (s : State) (slot : Nat) (p : Proposal) (status : Nat) (c : Instr) : Prop :=
  ∃ t, exec c s = .next t ∧ Answered s slot p status t ∧ t.sage.propThisEpoch = s.sage.propThisEpoch ∧
    OnlyAreas [.sage, .cmd, .host, .out, .evt] s t

/-- A proposal that fails a check is answered with that status and not applied; an accepted one has the effect of its kind. -/
def Obligations.ProposalsAreApplied : Prop :=
  (
    ∀ (s : State) (slot : Nat) (p : Proposal), NextProposal s slot p →
      let counted := fun (t : State) => t.sage.propThisEpoch =
        tput 0 s.sage.propThisEpoch (s.glb.switchId * 32 + slot) (tget 0 s.sage.propThisEpoch (s.glb.switchId * 32 + slot) + 1)
      let within := fun (base v u hi : Nat) => u = max 1 (min hi (max (base / 2 ^ s.sage.limits.span)
        (min (base * 2 ^ s.sage.limits.span) v)))
      (propKind p = 5 → noteStatus s (refOf s slot p) = 0 → ∃ t, exec (.note slot) s = .next t ∧ Answered s slot p 0 t ∧ counted t ∧
        OnlyAreas [.sage, .cmd, .host, .out, .evt] s t) ∧
      (propKind p = 3 → knobStatus s 0 (refOf s slot p) = 0 → ∃ t u, exec (.weight slot) s = .next t ∧
        let k := qkey (objIndex p.a % 65536 / 256) (objIndex p.a % 256)
        within (tget 64 s.sage.baseWeight k) p.b.toNat u 4095 ∧ (getSchedQ t k).weight = u ∧
        Answered s slot p (if u = p.b.toNat then 0 else 1) t ∧ counted t ∧ t.sage.baseWeight = s.sage.baseWeight ∧
        OnlyAreas [.sage, .cmd, .sched, .glb, .host, .out, .evt] s t) ∧
      (propKind p = 4 → knobStatus s 1 (refOf s slot p) = 0 → ∃ t cir pir, exec (.policer slot) s = .next t ∧
        let n := objIndex p.a % 4096
        within (tget (128000, 128000) s.sage.baseRates n).1 p.b.toNat cir 128000 ∧
        (∃ u, within (tget (128000, 128000) s.sage.baseRates n).2 p.c.toNat u 128000 ∧ pir = max cir u) ∧
        (getPolicer t n).cir = cir ∧ (getPolicer t n).pir = pir ∧ (getPolicer t n).cbs = (getPolicer s n).cbs ∧
        (∀ m, m ≠ n → getPolicer t m = getPolicer s m) ∧
        Answered s slot p (if cir = p.b.toNat ∧ pir = p.c.toNat then 0 else 1) t ∧ counted t) ∧
      (propKind p = 2 → splitStatus s (refOf s slot p) = 0 →
        let h := fld p.a 5 0
        let page := fld p.a 51 12 / 512 * 512
        (genFull (getHost s h).map = true → ∃ t, exec (.split slot) s = .next t ∧ t.sage.taken = some (refOf s slot p) ∧
            t.cmd.seqNext = (s.cmd.seqNext + 1) % 2 ^ 64 ∧ (getSlot t slot).props = (getSlot s slot).props.tail ∧
            (getSlot t slot).results = (getSlot s slot).results ∧ OnlyAreas [.sage, .cmd] s t) ∧
        (genFull (getHost s h).map = false →
          (∀ e ∈ (getHost s h).map.slots, e.2.gen ≠ ((getHost s h).map.current + 1) % 2 ^ 32) →
          (∃ r, tget Region.invalid (mapNow s h) ((page - aperPage (winNow s h)) / 512) = .huge r) →
          ∃ t, exec (.split slot) s = .next t ∧ Answered s slot p 0 t ∧ counted t ∧
            (∀ i < 512, pageEntry t h (page + i) =
              { pageEntry s h page with huge := false, pfn := (pageEntry s h page).pfn + i }) ∧
            OnlyAreas [.sage, .cmd, .tel, .host, .out, .win, .evt] s t)) ∧
      (propKind p = 1 → s.glb.mgrSel = true → migrateStatus s (refOf s slot p) = 0 → ∃ t k m, exec (.migrate slot) s = .next t ∧
        getMig s k = none ∧ (∀ j < k, getMig s j ≠ none) ∧ getMig t k = some m ∧ m.state = .mark ∧ m.host = fld p.a 5 0 ∧
        m.oldEnt = pageEntry s (fld p.a 5 0) (fld p.a 51 12) ∧ m.destDid = fld p.b 11 0 ∧ m.fromPool = true ∧ m.copied = [] ∧
        Answered s slot p 0 t ∧ counted t ∧ t.sage.migThisEpoch = s.sage.migThisEpoch + 1 ∧
        OnlyAreas [.sage, .cmd, .host, .out, .tel, .move, .evt] s t) ∧
      (propKind p = 1 → s.glb.mgrSel = false → ∃ t, exec (.migrate slot) s = .next t ∧
        t.sage.forwarded = s.sage.forwarded ++ [(refOf s slot p).1] ∧
        t.cmd.seqNext = (s.cmd.seqNext + 1) % 2 ^ 64 ∧ (getSlot t slot).props = (getSlot s slot).props.tail ∧
        (getSlot t slot).results = (getSlot s slot).results ∧ OnlyAreas [.sage, .cmd, .out, .obl] s t)
  ) ∧
  (
    ∀ (s : State) (slot : Nat) (p : Proposal), NextProposal s slot p →
      let kind := p.word0.toNat % 256
      let spent := s.sage.limits.propPerEpoch ≤ tget 0 s.sage.propThisEpoch (s.glb.switchId * 32 + slot)
      let stale := (getSlot s slot).epoch ≠ s.cmd.ownEpoch
      (∀ i c, (i, c) ∈ [(1, Instr.migrate slot), (2, Instr.split slot), (3, Instr.weight slot), (4, Instr.policer slot),
          (5, Instr.note slot)] → kind = i → (i = 1 → s.glb.mgrSel = true) →
        (s.sage.limits.allow.getLsbD (i - 1) = false → Refused s slot p 0x20 c) ∧
        (s.sage.limits.allow.getLsbD (i - 1) = true →
          (stale → Refused s slot p 0x10 c) ∧
          (¬stale → ((i = 3 ∧ knobExists s 0 p.a = false) ∨ (i = 4 ∧ knobExists s 1 p.a = false)) → Refused s slot p 0x13 c) ∧
          (¬stale → spent → (i = 3 → knobExists s 0 p.a = true) → (i = 4 → knobExists s 1 p.a = true) →
            Refused s slot p 0x21 c))) ∧
      ((kind = 0 ∨ 5 < kind) → Refused s slot p 0x20 (.note slot))
  )

/-- A worker’s MIGRATE is checked or run at the manager switch, and its answer or a TIMEOUT comes back as a result. -/
def Obligations.ForwardedProposalsAndTheirAnswers : Prop :=
  ∀ (s : State) (src slot epoch tag : Nat) (w0 a b c : Word), src < 32 → slot < 32 →
    let p : Proposal := ⟨w0, a, b, c⟩
    (s.glb.mgrSel = false → exec (.propFwd src slot epoch [w0, a, b, c]) s = .next s) ∧
    (s.glb.mgrSel = true → remoteStatus s src slot epoch p = 0 → ∃ q, exec (.propFwd src slot epoch [w0, a, b, c]) s =
        .next (settle { s with cmd := { s.cmd with
          seqNext := (s.cmd.seqNext + 1) % 2 ^ 64, inflight := s.cmd.inflight ++ [q] } }) ∧
      q.seq = s.cmd.seqNext ∧ q.desc.opcode = 0x5001 ∧ q.desc.arg0 = a ∧ q.desc.ownEpoch = w64 s.cmd.ownEpoch ∧
      objSwitch q.desc.objectId = src ∧ objClass q.desc.objectId = 3 ∧ objIndex q.desc.objectId = fld a 5 0 ∧
      fld q.desc.arg1 11 0 = fld b 11 0) ∧
    (s.glb.mgrSel = true → 2 ≤ remoteStatus s src slot epoch p → ∃ t, exec (.propFwd src slot epoch [w0, a, b, c]) s = .next t ∧
      t.sage.rejected = sat64 s.sage.rejected ∧ t.sage.migThisEpoch = s.sage.migThisEpoch ∧
      t.cmd = { s.cmd with seqNext := (s.cmd.seqNext + 1) % 2 ^ 64 } ∧ OnlyAreas [.sage, .cmd, .host, .out, .obl, .evt] s t) ∧
    (forwardedProp s slot tag = none → (∀ status, exec (.propRes status tag slot) s = .next s) ∧
      exec (.proposalTimeout slot tag) s = .next s) ∧
    (∀ e, forwardedProp s slot tag = some e →
      let result := fun (status : Nat) (t : State) =>
        (e ∉ t.sage.forwarded) ∧ (∀ f, f ≠ e → (f ∈ t.sage.forwarded ↔ f ∈ s.sage.forwarded)) ∧
        ((getSlot s slot).results.length < 64 → (getSlot t slot).results = (getSlot s slot).results ++
          [pack [(fld e.prop.word0 31 16, 0), (status, 16), (e.seq % 2 ^ 31, 33)]]) ∧
        (64 ≤ (getSlot s slot).results.length → (getSlot t slot).results = (getSlot s slot).results ∧
          (getSlot t slot).resLost = satAdd 16 (getSlot s slot).resLost 1) ∧ t.win = s.win ∧ t.cmd = s.cmd
      (∀ status, ∃ t, exec (.propRes status tag slot) s = .next t ∧ result status t) ∧
      (∃ t, exec (.proposalTimeout slot tag) s = .next t ∧ result 0x1B t))

/-- TEL_CONFIG sets the next epoch’s settings; a boundary publishes summaries, counts the epoch and resets the epoch’s limits. -/
def Obligations.TelemetryEpochs : Prop :=
  ∀ (s : State),
    (∀ seq c, Runs s seq 0x4005 c → ∃ ks s1 n, exec (.telConfig seq) s = .next (Completed c true 0 ks s1) ∧
      n = { enable := c.desc.arg0.getLsbD 0, sampleLog2 := max 4 (min 16 (fld c.desc.arg0 8 4)),
            epochMs := max 1 (min 60000 (fld c.desc.arg0 31 16)), decayShift := min 8 (fld c.desc.arg0 35 32),
            hotThresh := max 1 (fld c.desc.arg0 63 48), hostEn := c.desc.arg1 : TelCfg } ∧
      s1.tel.next = n ∧
      (n.epochMs = s.tel.cfg.epochMs → s1 = { s with tel := { s.tel with next := n } }) ∧
      (n.epochMs ≠ s.tel.cfg.epochMs → s1.tel.cfg = n ∧ s1.tel.epoch = (s.tel.epoch + 1) % 2 ^ 32 ∧
        s1.tel.epochStart = s.time.localNs ∧ OnlyAreas [.tel, .sage] s s1)) ∧
    (s.glb.ready = true → s.glb.imageFail = false → ∃ t, exec .epochBoundary s = .next t ∧
      t.tel.epoch = (s.tel.epoch + 1) % 2 ^ 32 ∧ t.tel.cfg = s.tel.next ∧ t.tel.next = s.tel.next ∧
      t.tel.epochStart = s.time.localNs ∧
      t.tel.heat = s.tel.heat ∧ t.tel.hot = s.tel.hot ∧
      (∀ e < 129, (tget Summary.reset t.tel.summary e).bytes = (tget Summary.reset s.tel.running e).bytes ∧
        (tget Summary.reset t.tel.summary e).peak = (tget Summary.reset s.tel.running e).peak ∧
        (tget Summary.reset t.tel.summary e).epoch = s.tel.epoch ∧
        tget Summary.reset t.tel.running e = ⟨0, 0, egressOcc s e, 0⟩) ∧
      t.sage.migThisEpoch = 0 ∧ (∀ k, tget 0 t.sage.propThisEpoch k = 0 ∧ tget 0 t.sage.knobThisEpoch k = 0) ∧
      t.sage.limits = s.sage.limits ∧ OnlyAreas [.tel, .sage] s t) ∧
    (∀ set < 2 ^ heatBits s, ∃ t, exec (.heatSweep set none) s = .next t ∧
      (∀ n, (n < set * 8 ∨ set * 8 + 8 ≤ n) → tget none t.tel.heat n = tget none s.tel.heat n) ∧
      (∀ w < 8, heatWay s set w = none → heatWay t set w = none) ∧
      (∀ w < 8, ∀ e, heatWay s set w = some e → ∃ e', heatWay t set w = some e' ∧
        e'.host = e.host ∧ e'.page = e.page ∧ e'.huge = e.huge ∧
        (heatAge s e < 16384 → e'.reads = e.reads ∧ e'.writes = e.writes ∧ e'.home = e.home ∧ e'.lastSample = e.lastSample) ∧
        (16384 ≤ heatAge s e → e'.reads = decayed s e e.reads ∧ e'.writes = decayed s e e.writes ∧
          e'.home = decayed s e e.home)) ∧ OnlyAreas [.tel] s t)

/-- MOVE_SUBMIT queues its jobs in order, ARB_CLASS_SET sets a class, PAGE_MIGRATE starts a migration in MARK. -/
def Obligations.MoverCommands : Prop :=
  ∀ (s : State) (seq : Nat) (c : SeqCmd),
    let cls := objIndex c.desc.objectId % 64
    let x := getClass s cls
    let a := c.desc.arg0
    let b := c.desc.arg1
    let count := max 1 (min 64 (fld b 6 0))
    (Runs s seq 0x5002 c → issuerVf c = none → ReadsUp s false moveRange c →
      exec (.moveSubmit seq none) s = .next (finishFail c DESC_FAULT s) ∧
      (∀ ws, x.stuck = true → exec (.moveSubmit seq (some ws)) s = .next (finishFail c PRECONDITION s)) ∧
      (∀ ws, x.stuck = false → (∀ i < count, moveKind (moveWords ws i) ≤ 3) →
        ((x.queueMax < queuedJobs x + count ∨ Config.jobSlots < jobSlotsUsed s + count) →
          exec (.moveSubmit seq (some ws)) s = .next (finishFail c NO_RESOURCE s)) ∧
        (queuedJobs x + count ≤ x.queueMax → jobSlotsUsed s + count ≤ Config.jobSlots → ∃ ks gs s1 js,
          exec (.moveSubmit seq (some ws)) s = .next (Completed c true (w64 count) ks (preemptGroups gs s1)) ∧
          (getClass s1 cls).queue = x.queue ++ js ∧ js.length = count ∧ s1.move.nextJob = s.move.nextJob + count ∧
          (∀ i < count, ∀ j, js[i]? = some j → j.id = s.move.nextJob + i ∧ j.submitter = .pf ∧ j.next = 0 ∧
            j.length = clampNat ((nth (moveWords ws i) 3).toNat / 64 * 64) 64 (2 ^ 40) ∧
            j.src = (nth (moveWords ws i) 1).toNat / 64 * 64 ∧ j.dst = (nth (moveWords ws i) 2).toNat / 64 * 64) ∧
          OnlyAreas [.move] s s1))) ∧
    (Runs s seq 0x5003 c → ∃ ks s1, exec (.arbClassSet seq) s = .next (Completed c true 0 ks s1) ∧
      let cfg : ClassCfg := {
        weight := max 1 (fld a 7 0), burstLog2 := max 12 (min 24 (fld a 12 8)), marginLog2 := max 12 (min 24 (fld a 20 16))
        maxMovers := max 1 (min 8 (fld a 27 24)), groups := BitVec.ofNat 8 (max 1 (fld a 39 32))
        queueMax := max 1 (min 4096 (fld b 13 0)), watchdogUs := max 10 (min 4000 (fld b 31 20)) }
      (someFree s = true → classCfg (getClass s1 cls) = cfg ∧ (getClass s1 cls).next = none) ∧
      (classCfg (getClass s1 cls) = cfg ∨ (getClass s1 cls).next = some cfg) ∧
      (getClass s1 cls).stuck = (x.stuck && !(b.getLsbD 16)) ∧ OnlyAreas [.move] s s1) ∧
    (Runs s seq 0x5001 c →
      let q := askOf c.desc
      (migCode s q ≠ 0 → exec (.pageMigrate seq) s = .next (finishFail c (migCode s q) s)) ∧
      (migCode s q = 0 → ∃ ks s1 k m, exec (.pageMigrate seq) s =
          .next (Completed c false (w64 (m.destPfn * 4096 + k)) ks s1) ∧
        getMig s k = none ∧ (∀ j < k, getMig s j ≠ none) ∧ getMig s1 k = some m ∧ m.state = .mark ∧
        m.host = objIndex c.desc.objectId % 64 ∧ m.oldEnt = pageEntry s m.host (fld a 51 12) ∧ m.destDid = fld b 11 0 ∧
        m.keepOld = b.getLsbD 17 ∧ m.cls = fld b 29 24 ∧ m.copied = [] ∧ m.fromPool = !(b.getLsbD 16) ∧
        (∀ j, j ≠ k → getMig s1 j = getMig s j) ∧ OnlyAreas [.move, .tel] s s1))

/-- No line of a domain is held at this home, and no request waits for one. -/
def NoLines (s : State) : Prop := s.dir.lines = [] ∧ s.dir.waiters = [] ∧ s.dir.walks = []

/-- Ticks share credit, decisions grant idle movers, bursts and watchdogs end grants, and lines issue, go out and complete. -/
def Obligations.MoverArbitration : Prop :=
  ∀ (s : State),
    (∀ g < 8, (∃ m ∈ groupMovers g, (getMover s m).state = .idle) → ∃ t, exec (.arbiterTick g) s = .next t ∧
      tget 0 t.move.issued g = 0 ∧ t.move.movers = s.move.movers ∧ OnlyAreas [.move] s t ∧
      let total := ((requesters s g).map (fun c => (getClass s c).weight)).sum
      (0 < total → ∀ c ∈ requesters s g, creditOf (getClass t c) g =
        clamp24 (creditOf (getClass s c) g + Int.ofNat (tget 0 s.move.issued g * (getClass s c).weight / total))) ∧
      (∀ c, c ∉ requesters s g → getClass t c = getClass s c)) ∧
    (∀ m < 64,
      let x := getMover s m
      (x.state ≠ .idle → ∀ ecc, exec (.moverDecision m ecc) s = .next s) ∧
      (∀ c, x.state = .idle → winner (adoptAll s) (m / 8) = some c → ∃ t, exec (.moverDecision m .ok) s = .next t ∧
        (getMover t m).state = .granted ∧ (getMover t m).owner = c ∧ (getMover t m).grantBytes = 0 ∧
        (getMover t m).burst = (getClass (adoptAll s) c).burstLog2 ∧ (getMover t m).job.isSome = true ∧ (getMover t m).lines = x.lines ∧
        (∀ k, k ≠ m → getMover t k = getMover s k) ∧ OnlyAreas [.move] s t) ∧
      ((x.state ≠ .granted ∨ x.grantBytes < 2 ^ x.burst) → exec (.burstEnd m) s = .next s) ∧
      (x.state = .granted → 2 ^ x.burst ≤ x.grantBytes → ∃ t, exec (.burstEnd m) s = .next t ∧
        (getMover t m).grantBytes = 0 ∧ (getMover t m).lines = x.lines ∧ t.move.bursts = sat64 s.move.bursts ∧
        OnlyAreas [.move] s t) ∧
      ((∀ k mg, getMig s k = some mg → mg.waiting = []) →
        (∀ j, x.state = .granted → x.job = some j → (j.kind = .copy ∨ j.kind = .fill ∨ j.kind = .scrub) → j.submitter = .pf →
          j.failed = none → j.next < j.length → x.lines.length < 128 → x.grantBytes < 2 ^ x.burst →
          let fill := j.kind == .fill
          let r := lineReq s m j fill j.next (lineTag s m) false (if fill then List.replicate 8 j.pattern else [])
          (canSend s r quietHw = false → exec (.moverLineComplete m .issue) s = .next s) ∧
          (canSend s r quietHw = true → NoLines s → (∀ l ∈ x.lines, l.tag ≠ lineTag s m) →
            ∃ t st, exec (.moverLineComplete m .issue) s = .next t ∧ getMover t m = { x with
              lines := x.lines ++ [⟨j.id, j.next, lineTag s m, st, false, none⟩], job := some { j with next := j.next + 64 }
              grantBytes := x.grantBytes + 64 } ∧
            creditOf (getClass t x.owner) (m / 8) = clamp24 (creditOf (getClass s x.owner) (m / 8) - 64) ∧
            t.cmd = s.cmd ∧ t.sage = s.sage)) ∧
        (∀ pre l post p d j, x.lines = pre ++ l :: post → (∀ y ∈ pre, ∀ q w, y.stage ≠ .held q w) → l.stage = .held p d →
          l.left = false → findJob s l.job = some j →
          let r := lineReq s m j true l.off l.tag p d
          (canSend s r quietHw = false → exec (.moverLineComplete m .sent) s = .next s) ∧
          (canSend s r quietHw = true → NoLines s → (∀ y ∈ pre ++ post, y.tag ≠ l.tag) →
            ∃ t st, exec (.moverLineComplete m .sent) s = .next t ∧
              getMover t m = { x with lines := pre ++ { l with stage := st } :: post } ∧ t.cmd = s.cmd ∧ t.sage = s.sage)) ∧
        (∀ pre l post w r, x.lines = pre ++ l :: post → (∀ y ∈ pre, ∀ u v, y.stage ≠ .ended u v) → l.stage = .ended w r →
          l.mig = none → findJob (setMover m { x with lines := x.lines.filter (fun y => y.tag != l.tag) } s) l.job = none →
          ∃ t, exec (.moverLineComplete m .complete) s = .next t ∧
            getMover t m = { x with lines := x.lines.filter (fun y => y.tag != l.tag) } ∧ OnlyAreas [.move] s t) ∧
        (x.lines = [] → exec (.moverLineComplete m .sent) s = .next s ∧ exec (.moverLineComplete m .complete) s = .next s) ∧
        (x.state ≠ .granted → exec (.moverWatchdog m) s = .next s) ∧
        (x.state = .granted → (∀ j k, x.job = some j → j.kind ≠ .copyPage k) → ∃ t, exec (.moverWatchdog m) s = .next t ∧
          getMover t m = { x with
            state := .restarting, job := none, grantBytes := 0, restarts := satAdd 32 x.restarts 1
            lines := (x.lines.filter lineSent).map (fun l => { l with left := true }) } ∧
          t.move.stalls = sat64 s.move.stalls ∧ (22, unitCode 4 m) ∈ t.flt.asserted)) ∧
      (x.state ≠ .restarting → exec (.moverRestartDone m) s = .next s) ∧
      (x.state = .restarting → exec (.moverRestartDone m) s = .next (dropLine 22 (unitCode 4 m) (setMover m { x with state := .idle } s))))

/-- A live migration goes MARK, FENCE, COPY, SWAP, SETTLE and ends, or ends through UNDO, each at its own row. -/
def Obligations.MigrationSteps : Prop :=
  ∀ (s : State) (k : Nat) (m : Migration), k < 256 → getMig s k = some m →
    let g := ((getHost s m.host).map.current + 1) % 2 ^ 32
    (m.state ≠ .mark → exec (.migrationMarkCommitted k) s = .next s) ∧
    (m.state = .mark → genFull (getHost s m.host).map = true → exec (.migrationMarkCommitted k) s = .next s) ∧
    (m.state = .mark → genFull (getHost s m.host).map = false → ∃ t, exec (.migrationMarkCommitted k) s = .next t ∧
      getMig t k = some { m with state := .fence, gen := some g } ∧ (getHost t m.host).map.current = g ∧
      OnlyAreas [.move, .win] s t) ∧
    ((m.state ≠ .fence ∨ writesDone s m.host (m.gen.getD 0) = false) → exec (.migrationFenceDrained k) s = .next s) ∧
    (m.state = .fence → writesDone s m.host (m.gen.getD 0) = true → ∃ gs s1 j,
      exec (.migrationFenceDrained k) s = .next (preemptGroups gs s1) ∧ getMig s1 k = some { m with state := .copy } ∧
      (getClass s1 m.cls).queue = (getClass s m.cls).queue.filter (fun q => q.started) ++
        j :: (getClass s m.cls).queue.filter (fun q => !q.started) ∧
      j.kind = .copyPage k ∧ j.started = false ∧ j.length = (if m.huge then 2 ^ 21 else 2 ^ 12) ∧ OnlyAreas [.move] s s1) ∧
    (∀ line mv tag, mv < 64 → (∀ l ∈ (getMover s mv).lines, ∀ w r, l.stage = .ended w r →
        ¬(l.tag = tag ∧ l.mig = some k ∧ l.off = 64 * line)) →
      exec (.migrationLineCopied k line mv tag) s = .next s) ∧
    (∀ line mv tag l w r, mv < 64 → m.state = .copy → (∀ i mg, getMig s i = some mg → mg.waiting = []) →
      (getMover s mv).lines.find? (fun x => x.tag == tag) = some l → l.stage = .ended w r → l.mig = some k → l.off = 64 * line →
      ∃ t, exec (.migrationLineCopied k line mv tag) s = .next t ∧
        (r = .ok → getMig t k = some { m with
          copied := insNat m.copied line
          state := if (insNat m.copied line).length = (if m.huge then 32768 else 64) then .swap else .copy }) ∧
        (r ≠ .ok → r ≠ .poison → getMig t k = some { m with
          state := .undo, undoStatus := if w then 0x36 else 0x37, gen := none })) ∧
    ((m.state ≠ .swap ∨ genFull (getHost s m.host).map = true) → exec (.migrationSwapCommitted k) s = .next s) ∧
    (m.state = .swap → genFull (getHost s m.host).map = false → ∃ t, exec (.migrationSwapCommitted k) s = .next t ∧
      getMig t k = some { m with state := .settle, gen := some g } ∧ (getHost t m.host).map.current = g ∧
      OnlyAreas [.move, .win] s t) ∧
    ((m.state ≠ .settle ∨ onlySince s m.host (m.gen.getD 0) = false ∨ pageWrites s k (m.gen.getD 0) = true) →
      exec (.migrationSettled k) s = .next s) ∧
    (m.state = .settle → onlySince s m.host (m.gen.getD 0) = true → pageWrites s k (m.gen.getD 0) = false → m.waiting = [] →
      ∃ t, exec (.migrationSettled k) s = .next t ∧ getMig t k = none ∧
        (∀ i, i ≠ k → getMig t i = getMig s i) ∧ t.win = s.win) ∧
    (m.state ≠ .undo → exec (.migrationUndoDone k) s = .next s) ∧
    (∀ n, m.state = .undo → m.gen = some n → m.waiting = [] →
      ((olderWrites s m.host n = true ∨ copyingLines s k ≠ []) → exec (.migrationUndoDone k) s = .next s) ∧
      (olderWrites s m.host n = false → copyingLines s k = [] → ∃ t, exec (.migrationUndoDone k) s = .next t ∧ getMig t k = none ∧
        (∀ i, i ≠ k → getMig t i = getMig s i) ∧ t.win = s.win))

/-- GCL_WRITE stages a list, its commit sets the instant it takes effect, and the gates follow the entries. -/
def Obligations.GateControlLists : Prop :=
  ∀ (s : State) (seq : Nat) (c : SeqCmd) (data : ReadData) (ok : Bool),
    let d := c.desc
    let n := objIndex d.objectId % 2 ^ 48
    let x := getEgress s n
    let g := x.gclStage.getD ((x.gclPending.map (·.1)).getD x.gcl)
    (Runs s seq 0x6004 c → d.arg0.getLsbD 16 = true → ∃ ks, exec (.gclWrite seq data) s = .next (Completed c false 0 ks
      (setEgress n { x with gclStage := some { g with
        baseTime := d.arg1.toNat
        cycleNs := max 1000 (min 1000000000 (fld d.arg2 29 0))
        length := max 1 (min 256 (fld d.arg2 40 32))
        enable := d.arg2.getLsbD 48 } } s))) ∧
    (Runs s seq 0x6004 c → d.arg0.getLsbD 16 = false → fld d.arg0 40 32 = 0 → ReadsUp s false gclRange c → ∃ ks, exec (.gclWrite seq data) s =
      .next (Completed c false 0 ks (setEgress n { x with gclStage := some { g with
        entries := tput (0#16, 1) g.entries (fld d.arg0 7 0) (d.arg1.setWidth 16, max 1 (min 1000000000 (fld d.arg1 45 16))) } } s))) ∧
    (Runs s seq 4 c → objClass d.objectId = 9 → ∀ l, x.gclStage = some l → ∃ t, exec (.objCommit seq ok) s = .next (Completed c true 0 []
      (setEgress n { x with gclStage := none, gclPending := some (l, t) } s)) ∧
      s.time.now + 10000 ≤ t ∧ (0 < l.cycleNs → t < s.time.now + 10000 + l.cycleNs ∧ ((t : Int) - l.baseTime) % l.cycleNs = 0)) ∧
    (∀ e < 129, let y := getEgress s e
      (y.gclPending = none → exec (.gclSwitchover e) s = .next s) ∧
      (y.gcl.enable = false → exec (.gateEntryChange e) s = .next s) ∧
      (∀ l at_, y.gclPending = some (l, at_) → ∃ t, exec (.gclSwitchover e) s = .next t ∧
        getEgress t e = { y with
          gcl := l
          gclPending := none
          gclEntry := 0
          realignAt := none
          gclShift := 0
          gates := if l.enable then (tget (0#16, 1) l.entries 0).1 else 0xFFFF } ∧
        OnlyAreas [.sched] s t) ∧
      (y.gcl.enable = true → y.realignAt = none → ∃ t, exec (.gateEntryChange e) s = .next t ∧
        getEgress t e = { y with gclEntry := (getEgress t e).gclEntry, gates := (tget (0#16, 1) y.gcl.entries (getEgress t e).gclEntry).1 } ∧
        ((getEgress t e).gclEntry = 0 ∨ (getEgress t e).gclEntry = y.gclEntry + 1) ∧
        (y.gcl.length ≤ y.gclEntry + 1 → (getEgress t e).gclEntry = 0) ∧
        OnlyAreas [.sched] s t))

/-- QUEUE_SET, SHAPER_SET and POLICER_SET set their objects within the legal values; a sample counts depth bins. -/
def Obligations.SchedulerCommands : Prop :=
  (
    ∀ (s : State) (seq : Nat) (c : SeqCmd),
      let d := c.desc
      let e := objIndex d.objectId % 65536 / 256
      let q := objIndex d.objectId % 256
      let k := e * 16 + q
      (Runs s seq 0x6001 c → q < 16 → ∃ ks s1, exec (.queueSet seq) s = .next (Completed c true 0 ks s1) ∧
        (getSchedQ s1 k).weight = max 1 (fld d.arg0 11 0) ∧ tget 64 s1.sage.baseWeight k = max 1 (fld d.arg0 11 0) ∧
        (getSchedQ s1 k).shaper = (getSchedQ s k).shaper ∧ (getSchedQ s1 k).bytes = (getSchedQ s k).bytes ∧
        OnlyAreas [.sched, .sage] s s1) ∧
      (Runs s seq 0x6001 c → q = 16 → ∃ ks, exec (.queueSet seq) s = .next (Completed c true 0 ks (setEgress e { getEgress s e with
        sampleUs := max 1 (fld d.arg0 15 0), depthLog2 := min 16 (fld d.arg0 20 16), delayLog2 := min 20 (fld d.arg0 28 24) } s))) ∧
      (Runs s seq 0x6003 c → ∃ ks s1, exec (.shaperSet seq) s = .next (Completed c true 0 ks s1) ∧
        (let x := if q = 16 then (getEgress s e).shaper else (getSchedQ s k).shaper
         let y := if q = 16 then (getEgress s1 e).shaper else (getSchedQ s1 k).shaper
         q ≤ 16 → y.enable = d.arg0.getLsbD 0 ∧ y.rate = max 1 (min 128000 (fld d.arg0 25 8)) ∧
          y.burst = max 128 (min 16777216 (fld d.arg1 24 0)) ∧ y.last = s.time.localNs ∧
          (x.enable = false → d.arg0.getLsbD 0 = true → y.tokens = Int.ofNat (y.burst * 1000)) ∧
          y.tokens ≤ Int.ofNat (y.burst * 1000)) ∧
        OnlyAreas [.sched] s s1) ∧
      (Runs s seq 0x6002 c → ∃ ks p, exec (.policerSet seq) s = .next (Completed c true 0 ks
          (setPolicer (objIndex d.objectId % 4096) p { s with sage := { s.sage with
            baseRates := tput (128000, 128000) s.sage.baseRates (objIndex d.objectId % 4096) (p.cir, p.pir) } })) ∧
        (let old := getPolicer s (objIndex d.objectId % 4096)
         p.enable = d.arg0.getLsbD 0 ∧ p.ingress = min 128 (fld d.arg0 8 1) ∧ p.tcMask = (d.arg0 >>> 16).setWidth 16 ∧
         1 ≤ p.cir ∧ p.cir ≤ p.pir ∧ p.pir ≤ 128000 ∧ p.cbs = max 128 (min 16777216 (fld d.arg2 24 0)) ∧
         p.pbs = max 128 (min 16777216 (fld d.arg2 56 32)) ∧ p.green = old.green ∧ p.yellow = old.yellow ∧ p.red = old.red ∧
         (old.enable = false → p.enable = true → p.tc = p.cbs * 1000 ∧ p.tp = p.pbs * 1000) ∧
         p.tc ≤ p.cbs * 1000 ∧ p.tp ≤ p.pbs * 1000))
  ) ∧
  (
    ∀ (s : State) (e : Nat), e < 129 →
      (∃ t, exec (.histSample e) s = .next t ∧ (getEgress t e).samples = satAdd 32 (getEgress s e).samples 1 ∧
        (∀ q < 16, let k := e * 16 + q
          let b := binOf (tget 0 s.gh.sharedOcc k + tget 0 s.gh.reserveOcc k) (getEgress s e).depthLog2
          tget 0 (getSchedQ t k).depthBins b = satAdd 32 (tget 0 (getSchedQ s k).depthBins b) 1 ∧
          (getSchedQ t k).weight = (getSchedQ s k).weight ∧ (getSchedQ t k).finish = (getSchedQ s k).finish ∧
          (getSchedQ t k).shaper = (getSchedQ s k).shaper) ∧
        (∀ k, k / 16 ≠ e → getSchedQ t k = getSchedQ s k) ∧ OnlyAreas [.sched] s t)
  )

/-- A write of 1 to an egress’s HIST_CLEAR zeroes every bin of its 16 queues and SAMPLES, and nothing of another egress. -/
def Obligations.HistogramClear : Prop :=
  ∀ (s : State) (e : Nat) (v : Word), e < 129 → s.glb.imageFail = false →
    (v.getLsbD 0 = false → exec (.histClear e v) s = .next s) ∧
    (v.getLsbD 0 = true → ∃ t, exec (.histClear e v) s = .next t ∧ getEgress t e = { getEgress s e with samples := 0 } ∧
      (∀ d, d ≠ e → getEgress t d = getEgress s d) ∧
      (∀ q < 16, getSchedQ t (e * 16 + q) = { getSchedQ s (e * 16 + q) with depthBins := [], delayBins := [] }) ∧
      (∀ k, k / 16 ≠ e → getSchedQ t k = getSchedQ s k) ∧ OnlyAreas [.sched] s t)

/-- A link trains stage by stage, is held or resumes by its peer’s INIT, and breaks on failed retrains or a credit timeout. -/
def Obligations.ObmulumLinksTrainAndBreak : Prop :=
  ∀ (s : State) (l : Nat), l < 8 →
    let x := getLink s l
    let broke := fun (t : State) (cause : Nat) => (getLink t l).state = .down ∧ (getLink t l).broken = true ∧
      (getLink t l).heldCause = cause ∧ (getLink t l).failovers = sat64 x.failovers ∧ (getLink t l).unacked = [] ∧
      (25, unitCode 6 l) ∉ t.flt.asserted
    let peer := fun (y : Link) (i : InitInfo) => y.peerSwitch = i.switchId % 32 ∧ y.peerLink = i.link % 8
    (∀ st, (linkCanTrain s l = false ∨ (st = .lanesReady ∧ x.state ≠ .down) ∨ (st = .signal ∧ x.state ≠ .detect) ∨
        ((∃ w h r v, st = .aligned w h r v) ∧ x.state ≠ .align) ∨ (st = .equalized ∧ x.state ≠ .equalize) ∨
        (st = .fail ∧ x.state ∉ [.detect, .align, .equalize, .identify])) →
      exec (.oblTrainingStep l st) s = .next s) ∧
    (linkCanTrain s l = true →
      (x.state = .down → ∃ t, exec (.oblTrainingStep l .lanesReady) s = .next t ∧
        getLink t l = { x with state := .detect, heldCause := 0 } ∧ OnlyAreas [.obl, .evt, .out, .free] s t) ∧
      (x.state = .detect → ∃ t, exec (.oblTrainingStep l .signal) s = .next t ∧ getLink t l = { x with state := .align }) ∧
      (x.state = .align → ∀ w h r v, halfBad s l false = false → halfBad s l true = false → ∃ t,
        exec (.oblTrainingStep l (.aligned w h r v)) s = .next t ∧
        (∀ k < 8, (getLane t (oLane l + k)).logical = if r then 7 - k else k) ∧ getLink t l = { x with
          state := .equalize, width := if w = 8 then 8 else 4, high := decide (w ≠ 8) && h, cfgSince := false }) ∧
      (x.state = .equalize → ∃ t, exec (.oblTrainingStep l .equalized) s = .next t ∧ getLink t l = { x with
          state := .identify, rate := if x.cfg.force56 then 8 else 9, forerunner := x.cfg.force56 } ∧
        ∃ i, Output.bypass 32 (.init i) ∈ t.out ∧ i.fresh = true ∧ i.switchId = s.glb.switchId ∧ i.mgrSel = s.glb.mgrSel ∧
          i.adv = x.limitsNext ∧ i.epoch = s.cmd.ownEpoch) ∧
      (x.state ∈ [.detect, .align, .equalize, .identify] → ∃ t, exec (.oblTrainingStep l .fail) s = .next t ∧
        (getLink t l).state = .down ∧ (getLink t l).width = 0 ∧ (getLink t l).rate = 0 ∧ (getLink t l).cfg = x.cfg)) ∧
    (∀ i,
      (x.state = .identify → i.switchId % 32 = s.glb.switchId → ∃ t, exec (.init l i) s = .next t ∧
        getLink t l = { x with state := .held, heldCause := 1 }) ∧
      (x.state = .identify → i.switchId % 32 ≠ s.glb.switchId → i.mgrSel = true → s.glb.mgrSel = true →
        ∃ t, exec (.init l i) s = .next t ∧ getLink t l = { x with state := .held, heldCause := 2 }) ∧
      (x.state = .identify → i.switchId % 32 ≠ s.glb.switchId → (i.mgrSel && s.glb.mgrSel) = false →
        ∃ t, exec (.init l i) s = .next t ∧
          let y := getLink t l
          y.state = .active ∧ y.broken = false ∧ y.heldCause = 0 ∧ peer y i ∧ y.peerKnown = true ∧ y.txNext = 0 ∧
          y.rxExpect = 0 ∧ y.txAcked = 0xFFF ∧ y.unacked = [] ∧ y.brxExpect = 0 ∧
          y.forerunner = (x.cfg.force56 || !i.native) ∧ y.rate = (if x.cfg.force56 || !i.native then 8 else 9) ∧
          ∀ v < 4, (getCredit y v).granted = i.adv.getD v 0 % 2 ^ 24 ∧ (getCredit y v).consumed = 0 ∧
            (getCredit y v).limit = x.limitsNext.getD v 64) ∧
      (x.state = .init → i.fresh = true → ∃ t, exec (.init l i) s = .next t ∧ broke t 0) ∧
      (x.state = .init → i.fresh = false → x.peerKnown = true → ¬peer x i → ∃ t, exec (.init l i) s = .next t ∧
        (getLink t l).state = .held ∧ (getLink t l).heldCause = 3 ∧ (getLink t l).unacked = []) ∧
      (x.state = .init → i.fresh = false → peer x i → x.draining = false → ∃ t, exec (.init l i) s = .next t ∧
        (getLink t l).state = .active ∧ (getLink t l).rxExpect = x.rxExpect ∧ (getLink t l).txNext = x.txNext ∧
        (∀ v < 4, (getCredit (getLink t l) v).granted = i.adv.getD v 0 % 2 ^ 24) ∧
        (24, unitCode 6 l) ∉ t.flt.asserted) ∧
      (x.state ≠ .identify → x.state ≠ .init → exec (.init l i) s = .next s)) ∧
    (∀ ok, x.state ≠ .retrain → exec (.retrainDone l ok) s = .next s) ∧
    (x.state = .retrain →
      (x.widthNext = 8 → ∃ t, exec (.retrainDone l true) s = .next t ∧
        getLink t l = { x with state := .init, width := 8, high := x.highNext, failedRetrains := 0 } ∧
        ∃ i, Output.bypass x.peerSwitch (.init i) ∈ t.out ∧ i.fresh = false ∧ i.rxExpect = x.rxExpect) ∧
      (x.failedRetrains + 1 < x.cfg.retrainTries → exec (.retrainDone l false) s =
        .next (setLink l { x with failedRetrains := x.failedRetrains + 1 } s)) ∧
      (x.cfg.retrainTries ≤ x.failedRetrains + 1 → ∃ t, exec (.retrainDone l false) s = .next t ∧ broke t 4)) ∧
    (∀ vc < 4,
      let due := x.state = .active ∧ creditWaits s l vc = true ∧ congSeen s.time.localNs (getCredit x vc) = false
      (¬due → exec (.creditTimeout l vc) s = .next s) ∧
      (due → ∃ t, exec (.creditTimeout l vc) s = .next t ∧ broke t 5 ∧ (getLink t l).creditTo = sat64 x.creditTo)) ∧
    (x.draining = false → exec (.linkDrainTimeout l) s = .next s) ∧
    (x.draining = true → ∃ t, exec (.linkDrainTimeout l) s = .next t ∧ broke t 0 ∧ (getLink t l).draining = false) ∧
    (∀ lane < 512,
      let inUse := 448 ≤ lane ∧ linkOfLane lane = l ∧ lane ∈ linkLanes s l ∧ x.state = .active
      (lane < 448 → exec (.commaLockLost lane) s = .next s) ∧
      (448 ≤ lane → linkOfLane lane = l → x.state ≠ .active → exec (.commaLockLost lane) s = .next s) ∧
      (inUse → ∃ t, exec (.commaLockLost lane) s = .next t ∧ (getLink t l).state = .retrain ∧
        (getLink t l).retrains = sat64 x.retrains ∧ (24, unitCode 6 l) ∈ t.flt.asserted))

/-- Flits are taken in sequence, replayed when unacknowledged and counted when bad; directions sleep and wake; heartbeats rule MGR_LOST. -/
def Obligations.FlitsReplaySleepAndHeartbeats : Prop :=
  ∀ (s : State) (l : Nat), l < 8 →
    let x := getLink s l
    (x.state ≠ .active →
      (∀ h ok fec p, exec (.payloadFlit l h ok fec p) s = .next s) ∧ (∀ h ok, exec (.idleFlit l h ok) s = .next s) ∧
      (∀ mf ok, mf.dest < 32 → exec (.microFlit l mf ok) s = .next s) ∧ (∀ hw, exec (.replayTimer l hw) s = .next s) ∧
      exec (.sleep l) s = .next s ∧ exec (.sleepEntry l) s = .next s ∧ exec (.directionWake l) s = .next s) ∧
    (x.state = .active →
      (∀ h fec p, ∃ t, exec (.payloadFlit l h false fec p) s = .next t ∧ (getLink t l).rxExpect = x.rxExpect ∧
        (getLink t l).flitsRx = x.flitsRx ∧ (getLink t l).crcErr = sat64 x.crcErr ∧
        (getLink t l).fecCorr = satAdd 64 x.fecCorr (min fec 3) ∧
        (x.crcRun < 7 → (getLink t l).crcRun = x.crcRun + 1 ∧ (getLink t l).state = .active ∧ OnlyAreas [.obl] s t) ∧
        (7 ≤ x.crcRun → (getLink t l).state = .retrain ∧ (24, unitCode 6 l) ∈ t.flt.asserted)) ∧
      (∀ h fec p, x.draining = false → h.seq % 4096 = x.rxExpect → ∃ t, exec (.payloadFlit l h true fec p) s = .next t ∧
        (getLink t l).rxExpect = (x.rxExpect + 1) % 4096 ∧ (getLink t l).flitsRx = sat64 x.flitsRx ∧
        (getLink t l).crcRun = 0 ∧ (getLink t l).lastGood = s.time.localNs) ∧
      (∀ h fec p, x.draining = false → h.seq % 4096 ≠ x.rxExpect → ∃ t, exec (.payloadFlit l h true fec p) s = .next t ∧
        (getLink t l).rxExpect = x.rxExpect ∧ (getLink t l).flitsRx = x.flitsRx ∧ t.obl.heldMsgs = s.obl.heldMsgs) ∧
      (∀ h, x.draining = false → ∃ t, exec (.idleFlit l h true) s = .next t ∧ (getLink t l).rxExpect = x.rxExpect ∧
        (getLink t l).crcRun = 0 ∧ (getLink t l).rxAsleep = false) ∧
      (∀ h, ∃ t, exec (.idleFlit l h false) s = .next t ∧ (getLink t l).crcErr = sat64 x.crcErr) ∧
      (∀ mf ok, mf.dest < 32 → (ok = false ∨ mf.mtype = 0 ∨ 9 < mf.mtype) →
        exec (.microFlit l mf ok) s = .next (setLink l { x with crcErr := sat64 x.crcErr } s)) ∧
      (∀ mf, mf.dest < 32 → 1 ≤ mf.mtype → mf.mtype ≤ 9 → x.draining = false → ∃ t, exec (.microFlit l mf true) s = .next t ∧
        (getLink t l).brxExpect = (if mf.bseq % 256 = x.brxExpect then (x.brxExpect + 1) % 256 else x.brxExpect)) ∧
      (x.unacked = [] → x.bunacked = [] → ∀ hw, exec (.replayTimer l hw) s = .next s) ∧
      (
        let recent := x.expiries.filter (fun e => decide ((s.time.localNs + 2 ^ 64 - e) % 2 ^ 64 < 1000000))
        (x.unacked ≠ [] ∨ x.bunacked ≠ []) → ∀ hw, hw.ecc = .ok → ∃ t, exec (.replayTimer l hw) s = .next t ∧
          (getLink t l).replays = sat64 x.replays ∧ (24, unitCode 6 l) ∈ t.flt.asserted ∧
          (x.cfg.retrainReplays ≤ recent.length + 1 → (getLink t l).state = .retrain) ∧
          (recent.length + 1 < x.cfg.retrainReplays → (getLink t l).state = .active ∧ (getLink t l).unacked = x.unacked ∧
            ∀ f ∈ x.unacked, ∃ h, h.seq = f.seq ∧ h.vc = f.vc ∧ Output.flit l h f.msg ∈ t.out)) ∧
      (canSleep s l = false → exec (.sleepEntry l) s = .next s) ∧
      (canSleep s l = true → ∃ t, exec (.sleepEntry l) s = .next t ∧ (getLink t l).txAsleep = true ∧
        (getLink t l).rxAsleep = (x.rxAsleep || x.forerunner) ∧ (getLink t l).sleeps = sat64 x.sleeps ∧
        OnlyAreas [.obl, .out, .port] s t) ∧
      (∃ t, exec (.sleep l) s = .next t ∧ (getLink t l).rxAsleep = true ∧
        (getLink t l).txAsleep = (x.txAsleep || x.forerunner) ∧ OnlyAreas [.obl, .port] s t) ∧
      (x.txAsleep = false → exec (.directionWake l) s = .next s) ∧
      (x.txAsleep = true → ∃ t, exec (.directionWake l) s = .next t ∧ (getLink t l).txAsleep = false ∧
        (getLink t l).rxAsleep = (x.rxAsleep && !x.forerunner) ∧ OnlyAreas [.obl, .port, .sched, .out] s t)) ∧
    (∀ dest < 32, ∀ ingress < 129, ∀ vc < 4,
      (flowBusy s dest ingress vc = true → exec (.flowQuiescence dest ingress vc) s = .next s) ∧
      (flowBusy s dest ingress vc = false → ∃ t, exec (.flowQuiescence dest ingress vc) s = .next t ∧
        getFlow t (flowKey dest ingress vc) = { getFlow s (flowKey dest ingress vc) with link := none } ∧
        (∀ k, k ≠ flowKey dest ingress vc → getFlow t k = getFlow s k) ∧ OnlyAreas [.obl] s t)) ∧
    (isManager s = false → exec .heartbeatSend s = .next s) ∧
    (isManager s = true → ∃ t, exec .heartbeatSend s = .next t ∧ t.obl.hbCount = (s.obl.hbCount + 1) % 2 ^ 32 ∧
      OnlyAreas [.obl, .out] s t) ∧
    (∀ e n, (s.glb.mgrSel = true → exec (.heartbeat e n) s = .next s) ∧
      (s.glb.mgrSel = false → ∃ t, exec (.heartbeat e n) s = .next t ∧ t.obl = { s.obl with mgrLost := false } ∧
        (27, unitCode 0 0) ∉ t.flt.asserted ∧ OnlyAreas [.obl, .flt] s t)) ∧
    (s.glb.mgrSel = true → exec .mgrLost s = .next s) ∧
    (s.glb.mgrSel = false → ∃ t, exec .mgrLost s = .next t ∧ t.obl = { s.obl with mgrLost := true } ∧
      (27, unitCode 0 0) ∈ t.flt.asserted)

/-- OBL_CONFIG sets a link, a route entry or the fabric parameters, and STW_CONFIG a bridge’s settings or a binding. -/
def Obligations.ObmulumConfiguration : Prop :=
  ∀ (s : State) (seq : Nat) (c : SeqCmd),
    let n := objIndex c.desc.objectId
    let a := c.desc.arg0
    (Runs s seq 0x7005 c → n / 2 ^ 48 = 0 →
      let x := getLink s (n % 8)
      let cfg : LinkCfg := ⟨a.getLsbD 0, a.getLsbD 1, a.getLsbD 2, max 1 (min 255 (fld a 15 8)), max 10 (min 640 (fld a 25 16)),
        max 10 (min 10000 (fld a 45 32)), max 1 (min 255 (fld a 55 48)), max 1 (min 15 (fld a 59 56))⟩
      let want := fun (v : Nat) => fld c.desc.arg1 (16 * v + 15) (16 * v)
      ∃ ks s1, exec (.oblConfigLink seq) s = .next (Completed c true 0 ks s1) ∧
        (getLink s1 (n % 8)).cfg = cfg ∧ (getLink s1 (n % 8)).limitsNext.length = 4 ∧
        (∀ v < 4, 64 ≤ (getLink s1 (n % 8)).limitsNext.getD v 0 ∧ (getLink s1 (n % 8)).limitsNext.getD v 0 ≤ 8192) ∧
        (getLink s1 (n % 8)).limitsNext.sum ≤ 8192 ∧
        ((∀ v < 4, 64 ≤ want v) → want 0 + want 1 + want 2 + want 3 ≤ 8192 →
          (getLink s1 (n % 8)).limitsNext = [want 0, want 1, want 2, want 3]) ∧
        (x.cfg.enable = cfg.enable → (getLink s1 (n % 8)).state = x.state ∧ s1.obl.routes = s.obl.routes) ∧
        (x.cfg.enable = true → cfg.enable = false → linkLive x = true → x.unacked ≠ [] →
          (getLink s1 (n % 8)).state = x.state ∧ (getLink s1 (n % 8)).draining = true) ∧
        (x.cfg.enable = true → cfg.enable = false → (linkLive x = false ∨ (x.unacked = [] ∧ x.bunacked = [])) →
          (getLink s1 (n % 8)).state = .down)) ∧
    (Runs s seq 0x7005 c → n / 2 ^ 48 = 1 →
      let link := fun (e : Nat) => if e = 0xFF then 0xFF else max 112 (min 119 e)
      (n % 32 = s.glb.switchId → exec (.oblConfigRoute seq) s = .next (finishFail c PRECONDITION s)) ∧
      (n % 32 ≠ s.glb.switchId → ∃ ks s1, exec (.oblConfigRoute seq) s = .next (Completed c true 0 ks s1) ∧
        (getRouteEnt s1 (n % 32)).primary = link (fld a 7 0) ∧ (getRouteEnt s1 (n % 32)).alt = link (fld a 15 8) ∧
        (∀ w, w ≠ n % 32 → getRouteEnt s1 w = getRouteEnt s w) ∧ (ks = [] ↔ link (fld a 7 0) = fld a 7 0 ∧ link (fld a 15 8) = fld a 15 8))) ∧
    (Runs s seq 0x7005 c → n / 2 ^ 48 = 2 → Alone s c → ∀ answers, ∃ ks, exec (.oblConfigFabric seq answers) s =
      .next (Completed c true 0 ks { s with obl := { s.obl with
        heartbeatUs := max 10 (min 10000 (fld a 15 0)), mgrLossMs := max 1 (min 1000 (fld a 31 16))
        standbySwitch := fld a 36 32, standbyEn := a.getLsbD 40 } })) ∧
    (Runs s seq 0x7006 c → n / 2 ^ 48 = 3 → ∃ ks s1, exec (.stwConfig seq) s = .next (Completed c true 0 ks s1) ∧
      getStw s1 (n % 8) = { getStw s (n % 8) with
        npwMax := max 64 (min (max 64 ((getLink s (n % 8)).vc3.limit - 64)) (fld a 12 0))
        lockToMs := max 1 (min 1000 (fld a 25 16)) } ∧
      (∀ j, j ≠ n % 8 → getStw s1 j = getStw s j) ∧ OnlyAreas [.stw, .sched] s s1) ∧
    (Runs s seq 0x7006 c → n / 2 ^ 48 = 4 → ∃ ks s1, exec (.stwConfig seq) s = .next (Completed c true 0 ks s1) ∧
      tget ⟨false, 0, 0⟩ s1.stw.bindHost (n % 8192) = ⟨a.getLsbD 0, fld a 12 8, min 111 (fld a 22 16)⟩ ∧
      (∀ k, k ≠ n % 8192 → tget ⟨false, 0, 0⟩ s1.stw.bindHost k = tget ⟨false, 0, 0⟩ s.stw.bindHost k) ∧
      s1.stw.bindSlot = s.stw.bindSlot ∧ OnlyAreas [.stw] s s1) ∧
    (Runs s seq 0x7006 c → n / 2 ^ 48 ≠ 3 → n / 2 ^ 48 ≠ 4 → ∃ ks s1,
      exec (.stwConfig seq) s = .next (Completed c true 0 ks s1) ∧
      tget ⟨false, 0, 0, 0⟩ s1.stw.bindSlot (n % 128) = ⟨a.getLsbD 0, fld a 12 8, fld a 21 16, fld a 30 24⟩ ∧
      (∀ k, k ≠ n % 128 → tget ⟨false, 0, 0, 0⟩ s1.stw.bindSlot k = tget ⟨false, 0, 0, 0⟩ s.stw.bindSlot k) ∧
      s1.stw.bindHost = s.stw.bindHost ∧ OnlyAreas [.stw] s s1)

/-- A held message is released at its flow’s number behind its fence, and what it carries takes effect; locks follow their owners. -/
def Obligations.MessagesAreReleasedInFlowOrder : Prop :=
  ∀ (s : State),
    (∀ (l : Nat) (m : Msg) (h : HeldMsg), l < 8 → m.srcSwitch < 32 → m.destSwitch < 32 → m.srcIngress < 129 → m.vc < 4 →
      findHeld s l m = some h →
      let x := h.msg
      let due := x.fseq % 65536 = expected s x.srcSwitch x.srcIngress x.vc
      let gone := fun (t : State) => expected t x.srcSwitch x.srcIngress x.vc = (x.fseq + 1) % 65536 ∧
        ∀ y ∈ t.obl.heldMsgs, y.link = h.link → sameMsg y.msg x = false
      (∀ k sel, (k, sel) ∈ [(Instr.messageRelease l m, isTraffic x), (.intx l m, isIntx x), (.sideband l m, isSideband x),
          (.sidebandOut l m, isSidebandOut x)] →
        (sel = false → exec k s = .next s) ∧
        (flagOf x 4 = false → (¬due ∨ fenceMet s x = false ∨ mustWait s l x = true) → exec k s = .next s) ∧
        (sel = true → flagOf x 4 = false → due → fenceMet s x = true → mustWait s l x = false →
          ∃ t, exec k s = .next t ∧ gone t)) ∧
      (∀ k rs y, x.body = .signal rs y → flagOf x 4 = false → due → fenceMet s x = true →
          ((k = .intx l m ∧ isIntx x = true) ∨ (k = .sideband l m ∧ isSideband x = true)) → ∃ t, exec k s = .next t ∧
        t.stw.sbRecv = sat64 s.stw.sbRecv ∧
        (boundHost s x y = true → tget 0 t.stw.wires (wireKey y) = y.state ∧
          tget 0 t.stw.wireSrc (wireKey y) = x.srcSwitch + 1) ∧
        (boundHost s x y = false → t.stw.wires = s.stw.wires)) ∧
      (∀ rs y, x.body = .signal rs y → flagOf x 4 = false → due → fenceMet s x = true → isSidebandOut x = true →
        ∃ t, exec (.sidebandOut l m) s = .next t ∧ t.stw.sbRecv = sat64 s.stw.sbRecv ∧
          (boundSlot s x y = false → t.slot = s.slot) ∧
          (∀ n, boundSlot s x y = true → portChan s y.port = some n → y.signal = 17 →
            getChan t n = { getChan s n with attn := min 2 y.state } ∧ Output.pin (.attnInd n) (y.state != 0) ∈ t.out)) ∧
      (x.mkind ≠ 9 → exec (.gap l m) s = .next s) ∧
      (x.mkind = 9 → flagOf x 4 = false → ¬due → exec (.gap l m) s = .next s) ∧
      (x.mkind = 9 → flagOf x 4 = false → due → ∃ t, exec (.gap l m) s = .next t ∧ gone t) ∧
      (flagOf x 4 = false → exec (.flowRestart l m) s = .next s) ∧
      (flagOf x 4 = true → ∃ t, exec (.flowRestart l m) s = .next t ∧
        expected t x.srcSwitch x.srcIngress x.vc = x.fseq % 65536 ∧
        ∀ y ∈ t.obl.heldMsgs, y.msg.srcSwitch = x.srcSwitch → y.msg.srcIngress = x.srcIngress → y.msg.vc = x.vc →
          sameMsg y.msg x = true)) ∧
    (∀ p o i, p < 112 → o < 32 → i < 129 →
      let y := getPort s p
      let free := portCreated s p = true ∧ y.linkUp = true ∧ y.lock = none ∧ y.brokenLock ≠ some (o, i)
      (free → exec (.mrdlk p o i) s = .next (setPort p { y with lock := some (o, i) } s)) ∧
      (¬free → exec (.mrdlk p o i) s = .next s) ∧
      (∃ t, exec (.unlock p o i) s = .next t ∧ getPort t p = { y with
          lock := if y.lock = some (o, i) then none else y.lock
          brokenLock := if y.brokenLock = some (o, i) then none else y.brokenLock } ∧ OnlyAreas [.port, .sched] s t) ∧
      (y.lock = none → ∃ t, exec (.lockTimeout p) s = .next t ∧ OnlyAreas [.sched] s t) ∧
      (y.lock = some (o, i) → ∃ t, exec (.lockTimeout p) s = .next t ∧
        getPort t p = { y with lock := none, brokenLock := some (o, i) } ∧
        t.stw.lockBroken = sat64 s.stw.lockBroken ∧ t.flt.status.getLsbD 28 = true))

/-- VFs are created and destroyed by command, reset by FLR, orphaned when not enabled any more, and their mailboxes released. -/
def Obligations.VirtualFunctions : Prop :=
  ∀ (s : State),
    (∀ seq c, Runs s seq 0x8001 c → ReadsUp s false vfRange c →
      let v := objIndex c.desc.objectId
      (vfExists (getVf s v) = true → ∀ data, exec (.vfCreate seq data) s = .next (finishFail c VERSION_CONFLICT s)) ∧
      (vfExists (getVf s v) = false →
        exec (.vfCreate seq none) s = .next (finishFail c DESC_FAULT s) ∧
        ∀ ws,
          let x := vfOf ws (getVf s v) s.vf.instNext
          (vfEnabled s v = false → exec (.vfCreate seq (some ws)) s = .next (finishFail c PRECONDITION s)) ∧
          (vfEnabled s v = true → vfLacks s x = true → exec (.vfCreate seq (some ws)) s = .next (finishFail c NO_RESOURCE s)) ∧
          (vfEnabled s v = true → vfLacks s x = false → ∃ ks s1,
            exec (.vfCreate seq (some ws)) s = .next (Completed c true (w64 s.vf.instNext) ks s1) ∧
            getVf s1 v = x ∧ x.state = .created ∧ x.flr = false ∧ x.instEpoch = s.vf.instNext ∧ x.ring = CmdRing.reset ∧
            x.evq = EventRing.reset ∧ x.mbIn = [] ∧ x.mbOut = [] ∧ x.host = min 63 (fld (nth ws 0) 7 0) ∧
            x.vecCount = max 4 (min 64 (fld (nth ws 0) 15 8)) ∧ x.vecBase + x.vecCount ≤ 8192 ∧
            x.ringSlots = max 1 (min 64 (fld (nth ws 0) 39 32)) ∧ x.cls = min 63 (fld (nth ws 0) 47 40) ∧
            x.jobsMax = max 1 (min 4096 (fld (nth ws 0) 63 48)) ∧ x.polBase + x.polCount ≤ 4096 ∧
            s1.vf.instNext = (s.vf.instNext + 1) % 2 ^ 64 ∧ (∀ k ∈ List.range' x.vecBase x.vecCount,
              tget false s1.evt.unmasked k = false ∧ getVec s1 k = Coalescer.reset) ∧
            (∀ w, w ≠ v → getVf s1 w = getVf s w) ∧ OnlyAreas [.vf, .evt, .sched] s s1))) ∧
    (∀ seq c, Runs s seq 0x8002 c →
      let v := objIndex c.desc.objectId
      let x := getVf s v
      (x.flr = true → exec (.vfDestroy seq) s = .next s) ∧
      (x.flr = false → vfNamed s v = true → ∃ t, exec (.vfDestroy seq) s = .next t ∧ (getVf t v).state = x.state ∧
        (getVf t v).instEpoch = x.instEpoch ∧ t.move = s.move) ∧
      (x.flr = false → vfNamed s v = false →
        (∃ o ∈ s.cmd.inflight, o.origin = .ring (.tenant v) ∧ o.stage = .waiting ∧ o.seq ≠ seq) → ∃ t,
          exec (.vfDestroy seq) s = .next t ∧ (getVf t v).state = .destroying ∧ (getVf t v).instEpoch = 0 ∧
          (getVf t v).destroySeq = some seq ∧ t.move = s.move) ∧
      (x.flr = false → vfNamed s v = false → (∀ o ∈ s.cmd.inflight, o.origin ≠ .ring (.tenant v) ∧ o.origin ≠ .silent v) →
        vfJobList s v = [] → (∀ w ∈ s.gh.waits, w.vf ≠ some v) → ∃ t, exec (.vfDestroy seq) s = .next t ∧
          (getVf t v).state = .absent ∧ (getVf t v).instEpoch = 0 ∧ (getVf t v).vecCount = 0)) ∧
    (∀ v < 2048,
      let x := getVf s v
      (vfShown s v = .absent ∨ vfShown s v = .orphaned → exec (.functionLevelReset v) s = .next s) ∧
      (vfShown s v = .destroying → ∃ t, exec (.functionLevelReset v) s = .next t ∧ getVf t v = x ∧
        (tget 0 t.evt.vfState (v / 64)).getLsbD (v % 64) = true) ∧
      (vfShown s v = .uncreated → ∃ t, exec (.functionLevelReset v) s = .next t ∧
        getVf t v = { x with bme := false, funcMask := false, flr := true }) ∧
      (vfShown s v = .created → ∃ t, exec (.functionLevelReset v) s = .next t ∧
        getVf t v = { x with
          flr := true, ring := CmdRing.reset, evq := EventRing.reset, clamps := 0, resetSeen := false, toMgrFull := false
          toVfFull := false, mbOut := [], mbIn := [], funcMask := false, bme := false, instEpoch := s.vf.instNext } ∧
        t.vf.instNext = (s.vf.instNext + 1) % 2 ^ 64 ∧ (tget 0 t.evt.vfState (v / 64)).getLsbD (v % 64) = true ∧
        (∀ w ∈ t.host.held, w.fn ≠ .vf v)) ∧
      ((x.flr = false ∨ ∃ o ∈ s.cmd.inflight, o.origin = .silent v) → exec (.functionLevelResetEnd v) s = .next s) ∧
      (x.flr = true → (∀ o ∈ s.cmd.inflight, o.origin ≠ .silent v) → ∃ t, exec (.functionLevelResetEnd v) s = .next t ∧
        getVf t v = { x with flr := false } ∧ OnlyAreas [.vf, .move] s t)) ∧
    (∀ enable n, ∃ t, exec (.vfEnableClear enable n) s = .next t ∧ t.vf.enable = enable ∧ t.vf.numVfs = min n 2048 ∧
      (∀ v, (getVf s v).state = .created →
        (getVf t v).state = (if enable = true ∧ v < min n 2048 then .created else .orphaned)) ∧
      (∀ v, (getVf s v).state ≠ .created → getVf t v = getVf s v)) ∧
    (∃ t, exec .pfConventionalReset s = .next t ∧ t.vf.enable = false ∧ t.vf.numVfs = 0 ∧ t.host.pfBme = false ∧
      t.host.funcMask = false ∧ (∀ k, tget false t.evt.unmasked k = false) ∧
      ∀ v, (getVf s v).state = .created → (getVf t v).state = .orphaned) ∧
    (∀ w, s.glb.imageFail = false → w.getLsbD 0 = false →
      (w.getLsbD 2 = true → exec (.vfOutFullClear w) s = .next s) ∧
      (w.getLsbD 2 = false → (getVf s s.vf.sel).toMgrFull = true → ∃ t, exec (.vfOutFullClear w) s = .next t ∧
        (getVf t s.vf.sel).toMgrFull = false ∧ (getVf t s.vf.sel).toVfFull = (getVf s s.vf.sel).toVfFull ∧
        ∀ v, v ≠ s.vf.sel → getVf t v = getVf s v))

/-- VEC_CONFIG routes a line or sets a coalescer, a coalescer’s timer fires its batch, and an unmasked entry sends what it held. -/
def Obligations.VectorsAndCoalescers : Prop :=
  ∀ (s : State),
    (∀ seq c, Runs s seq 0x8003 c → objIndex c.desc.objectId / 2 ^ 48 = 0 →
      let n := objIndex c.desc.objectId % 2 ^ 48
      ∃ s1, exec (.vecConfigLine seq) s = .next (Completed c true 0 [] s1) ∧
        tget LineRoute.reset s1.evt.route n = { tget LineRoute.reset s.evt.route n with
          vector := fld c.desc.arg0 12 0, hostEn := c.desc.arg0.getLsbD 16 } ∧
        (∀ k, k ≠ n → tget LineRoute.reset s1.evt.route k = tget LineRoute.reset s.evt.route k) ∧
        s1.evt.vec = s.evt.vec ∧ s1.evt.pend = s.evt.pend ∧ s1.evt.mask = s.evt.mask ∧ OnlyAreas [.evt] s s1) ∧
    (∀ seq c, Runs s seq 0x8003 c → objIndex c.desc.objectId / 2 ^ 48 = 1 →
      let n := objIndex c.desc.objectId % 2 ^ 48
      ∃ ks s1, exec (.vecConfigVector seq) s = .next (Completed c true 0 ks s1) ∧
        (getVec s1 n).countMax = max 1 (min 1024 (fld c.desc.arg0 10 0)) ∧
        (getVec s1 n).timeHalfUs = max 1 (min 16000 (fld c.desc.arg0 29 16)) ∧
        ((getVec s n).collected = 0 → (getVec s1 n).collected = 0 ∧ s1.out = s.out) ∧
        (max 1 (min 1024 (fld c.desc.arg0 10 0)) ≤ (getVec s n).collected → (getVec s1 n).collected = 0) ∧
        (∀ k, k ≠ n → getVec s1 k = getVec s k) ∧ s1.evt.route = s.evt.route ∧ OnlyAreas [.evt, .out] s s1) ∧
    (∀ n < 8192,
      let x := getVec s n
      (x.collected = 0 → exec (.coalescerTimer n) s = .next s) ∧
      (0 < x.collected → vecHeld s n = true →
        exec (.coalescerTimer n) s = .next (setVec n { x with collected := 0, startedAt := 0, heldMsg := true } s)) ∧
      (0 < x.collected → vecHeld s n = false → ∃ t, exec (.coalescerTimer n) s = .next t ∧
        getVec t n = { x with collected := 0, startedAt := 0 } ∧ t.out = s.out ++ [.msix (vecFn s n) n] ∧
        t.evt.sent = sat64 s.evt.sent ∧ (∀ k, k ≠ n → getVec t k = getVec s k) ∧ OnlyAreas [.evt, .out] s t) ∧
      (∃ t, exec (.msixUnmask n) s = .next t ∧ tget false t.evt.unmasked n = true ∧
        (∀ k, k ≠ n → tget false t.evt.unmasked k = tget false s.evt.unmasked k ∧ getVec t k = getVec s k) ∧
        (x.heldMsg = false → t.out = s.out ∧ t.evt.vec = s.evt.vec) ∧
        (x.heldMsg = true → fnMask s (vecFn s n) = false → fnHeld s (vecFn s n) = false → (∀ w ∈ s.host.held, w.fn ≠ vecFn s n) →
          getVec t n = { x with heldMsg := false } ∧ t.out = s.out ++ [.msix (vecFn s n) n] ∧
          t.evt.sent = sat64 s.evt.sent) ∧ OnlyAreas [.evt, .out] s t))

/-- Slot commands set policy, thermal model and treads, and release, stop and unlock a channel; a place starts the lowest waiting one. -/
def Obligations.SlotCommands : Prop :=
  ∀ (s : State),
    (∀ seq c, Runs s seq 0x9001 c → objIndex c.desc.objectId / 2 ^ 48 = 0 →
      let n := objIndex c.desc.objectId % 32
      let x := getChan s n
      let a := c.desc.arg0
      let p := policyOf c.desc
      let moves := p.port ≠ x.policy.port ∨ p.portValid ≠ x.policy.portValid ∨ p.shuntUohm ≠ x.policy.shuntUohm
      let taken := p.portValid = true ∧ ∃ e ∈ s.slot.ch, e.1 ≠ n ∧ e.2.policy.portValid = true ∧ e.2.policy.port = p.port
      ((moves ∧ x.state ∉ [.empty, .seating, .landing]) ∨ taken →
        exec (.slotPolicySet seq) s = .next (finishFail c PRECONDITION s)) ∧
      (¬(moves ∧ x.state ∉ [.empty, .seating, .landing]) → ¬taken → ∃ ks s1,
        exec (.slotPolicySet seq) s = .next (Completed c true 0 ks s1) ∧ getChan s1 n = { x with policy := p } ∧
        (∀ k, k ≠ n → getChan s1 k = getChan s k)) ∧
      p.port = min 111 (fld a 6 0) ∧ p.portValid = a.getLsbD 7 ∧ p.autoRelease = a.getLsbD 8 ∧ p.hostCtrl = a.getLsbD 9 ∧
      p.shortTest = a.getLsbD 10 ∧ p.retries = fld a 14 12 ∧ p.inrushMs = max 1 (min 1000 (fld a 41 32)) ∧
      p.pauseMv = max 7000 (min 15000 (fld c.desc.arg1 45 32)) ∧ p.shuntUohm = max 250 (min 2000 (fld c.desc.arg2 10 0)) ∧
      p.tfetMaxC = max 100 (min 175 (fld c.desc.arg2 23 16)) ∧ 1 ≤ p.fast100ma ∧ p.fast100ma ≤ 1200) ∧
    (∀ seq c, Runs s seq 0x9001 c → objIndex c.desc.objectId / 2 ^ 48 = 1 →
      let n := objIndex c.desc.objectId % 32
      let v := fun (w : Word) (hi lo top : Nat) => max 1 (min top (fld w hi lo))
      ∃ ks, exec (.slotThermalModelSet seq) s = .next (Completed c true 0 ks (setChan n { getChan s n with
        r1 := v c.desc.arg0 15 0 65535, r2 := v c.desc.arg0 31 16 65535, r3 := v c.desc.arg0 47 32 65535
        tau1 := v c.desc.arg1 19 0 1048575, tau2 := v c.desc.arg1 39 20 1048575, tau3 := v c.desc.arg1 59 40 1048575 } s))) ∧
    (∀ seq c, Runs s seq 0x9004 c →
      let n := objIndex c.desc.objectId % 32
      ∃ ks f, exec (.slotTreadsSet seq) s = .next (Completed c true 0 ks (setChan n { getChan s n with treads := f } s)) ∧
        f.length = 8 ∧ (∀ t ∈ f, t.tunit ≤ 2 ∧ 1 ≤ t.tcount ∧ t.ilim ≤ 16383) ∧
        (f.getD 0 Tread.reset).ilim = fld c.desc.arg0 13 0 ∧
        ∀ i j, i < j → j < 8 → (f.getD i Tread.reset).ilim ≠ 0 → (f.getD j Tread.reset).ilim ≠ 0 →
          (f.getD i Tread.reset).ilim ≤ (f.getD j Tread.reset).ilim) ∧
    (∀ seq c, Runs s seq 0x9002 c →
      let n := objIndex c.desc.objectId % 32
      ((getChan s n).state ≠ .landing → exec (.slotRelease seq) s = .next (finishFail c PRECONDITION s)) ∧
      ((getChan s n).state = .landing → ∃ s1, exec (.slotRelease seq) s = .next (Completed c true 0 [] s1) ∧
        (getChan s1 n).state ∈ [.waiting, .test, .inrush] ∧ (getChan s1 n).policy = (getChan s n).policy ∧
        (twf Channel.reset s.slot.ch = true → 4 ≤ inrushCount s → (getChan s1 n).state = .waiting))) ∧
    (∀ seq c, Runs s seq 0x9003 c →
      let n := objIndex c.desc.objectId % 32
      let x := getChan s n
      ∃ s1, exec (.slotOff seq) s = .next (Completed c true 0 [] s1) ∧
        (x.state = .on → getChan s1 n = { x with state := .stopping, perst := true, lastCause := .offCmd }) ∧
        (x.state ∈ [.test, .inrush] → getChan s1 n = { x with
          state := .stopping, perst := true, gate := false, lastCause := .offCmd, paused := false }) ∧
        (x.state ∈ [.waiting, .retryWait] → getChan s1 n = { x with state := .landing, autoOk := false }) ∧
        (x.state ∉ [.on, .test, .inrush, .waiting, .retryWait] → s1 = s) ∧ (∀ k, k ≠ n → getChan s1 k = getChan s k)) ∧
    (∀ seq c, Runs s seq 0x9005 c →
      let n := objIndex c.desc.objectId % 32
      let x := getChan s n
      ((x.state ≠ .lockedOut ∨ x.retired = true) → exec (.slotUnlock seq) s = .next (finishFail c PRECONDITION s)) ∧
      (x.state = .lockedOut → x.retired = false → ∃ s1, exec (.slotUnlock seq) s = .next (Completed c true 0 [] s1) ∧
        (getChan s1 n).retryCount = 0 ∧ (getChan s1 n).wiringLock = false ∧ (getChan s1 n).state =
          (if x.seated then .landing else if x.longLow || x.shortLow then .seating else .empty))) ∧
    (∀ n < 32,
      let x := getChan s n
      let host := x.policy.portValid = true ∧ x.policy.hostCtrl = true
      (¬host → ∀ on, exec (.hostPowerControl n on) s = .next s) ∧
      (host → x.state = .on → ∃ t, exec (.hostPowerControl n false) s = .next t ∧ (getChan t n).state = .stopping ∧
        (getChan t n).perst = true) ∧
      (host → x.state = .landing → ∃ t, exec (.hostPowerControl n true) s = .next t ∧
        (getChan t n).state ∈ [.waiting, .test, .inrush]) ∧
      ((x.policy.autoRelease = false ∨ x.autoOk = false ∨ s.glb.ready = false ∨ x.state ≠ .landing) →
        exec (.autoRelease n) s = .next s) ∧
      (x.policy.autoRelease = true → x.autoOk = true → s.glb.ready = true → x.state = .landing → ∃ t,
        exec (.autoRelease n) s = .next t ∧ (getChan t n).state ∈ [.waiting, .test, .inrush])) ∧
    (4 ≤ inrushCount s → exec .placeFree s = .next s) ∧
    (twf Channel.reset s.slot.ch = true → inrushCount s ≤ 4 → ∃ t, exec .placeFree s = .next t ∧ inrushCount t ≤ 4 ∧
      (∀ k, (getChan s k).state ≠ .waiting → getChan t k = getChan s k) ∧
      ∀ k x, s.slot.ch.find? (fun e => e.2.state == .waiting) = some (k, x) → inrushCount s < 4 →
        (getChan t k).state = (if x.policy.shortTest then .test else .inrush) ∧ (getChan t k).gate = (!x.policy.shortTest || x.gate))

/-- Samples, pins and timers move a slot channel as R371 to R383 say, with its trip or wiring line, its gate and PERST#. -/
def Obligations.SlotEvents : Prop :=
  ∀ (s : State) (n : Nat), n < 32 →
    let x := getChan s n
    let up := x.state ∈ [.test, .inrush, .on, .stopping]
    let tripped := fun (t : State) (k : Cause) => (getChan t n).state = .tripped ∧ (getChan t n).gate = false ∧
      (getChan t n).perst = true ∧ (getChan t n).lastCause = k ∧ (getChan t n).tripCause = k ∧
      (getChan t n).trips = sat64 x.trips ∧ (getChan t n).tripTime = s.time.now ∧ (29, unitCode 7 n) ∈ t.flt.asserted
    let same := fun (t : State) => ∀ k, k ≠ n → getChan t k = getChan s k
    (∀ m, ∃ t, exec (.slotSample n m) s = .next t ∧ (getChan t n).iMa = max (-40000) (min 120000 m.iMa) ∧
      (getChan t n).vinMv = max (-16000) (min 20000 m.vinMv) ∧ (getChan t n).voutMv = max 0 (min 20000 m.voutMv) ∧
      (getChan t n).diodeOk = m.diode.isSome ∧ (getChan t n).policy = x.policy ∧ same t ∧
      (m.senseOpen = true → (x.state = .lockedOut → x.wiringLock = false) → (getChan t n).state = .lockedOut ∧
        (getChan t n).wiringLock = true ∧ (getChan t n).gate = false ∧ (30, unitCode 7 n) ∈ t.flt.asserted) ∧
      (m.fastOver = true → up → m.senseOpen = false → m.unseated = false → -1000 ≤ m.vinMv →
        (m.shuntReversed = false ∨ x.state ≠ .inrush) → tripped t .fast)) ∧
    (¬up → exec (.fastTrip n) s = .next s) ∧
    (up → ∃ t, exec (.fastTrip n) s = .next t ∧ tripped t .fast ∧ same t) ∧
    (∀ long short, ∃ t, exec (.presenceChange n long short) s = .next t ∧ (getChan t n).longLow = long ∧
      (getChan t n).shortLow = short ∧ (getChan t n).seated = x.seated ∧ (getChan t n).state =
        (if x.state = .empty ∧ (long = true ∨ short = true) then .seating else x.state) ∧ same t) ∧
    (x.state = .seating → ∃ t, exec (.seated n) s = .next t ∧ (getChan t n).state = .landing ∧
      (getChan t n).seated = true ∧ (getChan t n).retryCount = 0 ∧ (getChan t n).autoOk = true ∧ same t) ∧
    (x.state = .lockedOut → ∃ t, exec (.seated n) s = .next t ∧ (getChan t n).state = .lockedOut ∧
      (getChan t n).seated = true ∧ same t) ∧
    (x.state ≠ .seating → x.state ≠ .lockedOut → exec (.seated n) s = .next s) ∧
    (x.state ≠ .seating → exec (.prsntMismatch n) s = .next s ∧ exec (.seatingAbandoned n) s = .next s) ∧
    (x.state = .seating →
      (∃ t, exec (.prsntMismatch n) s = .next t ∧ getChan t n = { x with
        shortLow := true, longLow := false, mismatch := true, lastCause := .prsntMismatch } ∧
        (30, unitCode 7 n) ∈ t.flt.asserted ∧ same t) ∧
      (∃ t, exec (.seatingAbandoned n) s = .next t ∧ getChan t n = { x with
        state := .empty, longLow := false, shortLow := false, mismatch := false } ∧ same t)) ∧
    (∀ long, (x.seated = false → exec (.unseated n long) s = .next s) ∧
      (x.seated = true → ∃ t, exec (.unseated n long) s = .next t ∧ (getChan t n).seated = false ∧
        (getChan t n).longLow = long ∧ (getChan t n).shortLow = false ∧ (getChan t n).autoOk = false ∧ same t ∧
        (up → (getChan t n).state = (if long then .seating else .empty) ∧ (getChan t n).gate = false ∧
          (getChan t n).perst = true ∧ (getChan t n).lastCause = .removed) ∧
        (x.state ∈ [.landing, .waiting, .retryWait] → (getChan t n).state = (if long then .seating else .empty)) ∧
        (x.state = .tripped → (getChan t n).state = .tripped))) ∧
    (x.state ≠ .inrush → exec (.inrushTimeout n) s = .next s ∧ exec (.busAbort n) s = .next s) ∧
    (x.state = .inrush →
      (∃ t, exec (.inrushTimeout n) s = .next t ∧ tripped t .inrushTimeout ∧ same t) ∧
      (∃ t, exec (.busAbort n) s = .next t ∧ (getChan t n).gate = false ∧ (getChan t n).perst = true ∧
        (getChan t n).lastCause = .busAbort ∧ (getChan t n).busAborts = x.busAborts + 1 ∧
        (getChan t n).busAbortTotal = sat64 x.busAbortTotal ∧ same t ∧
        (x.busAborts < 7 → (getChan t n).state = .retryWait) ∧
        (7 ≤ x.busAborts → (getChan t n).state = .landing ∧ t.flt.status.getLsbD 31 = true))) ∧
    (x.state ≠ .test → exec (.outShort n) s = .next s) ∧
    (x.state = .test → ∃ t, exec (.outShort n) s = .next t ∧ getChan t n = { x with
      state := .lockedOut, gate := false, perst := true, lastCause := .outShort, lockShort := true, wiringLock := false } ∧
      (29, unitCode 7 n) ∈ t.flt.asserted ∧ same t) ∧
    (x.state ≠ .on → exec (.perstDeassert n) s = .next s ∧ exec (.retryCountClear n) s = .next s) ∧
    (x.state = .on →
      (∃ t, exec (.perstDeassert n) s = .next t ∧ getChan t n = { x with perst := false } ∧ same t) ∧
      (∃ t, exec (.retryCountClear n) s = .next t ∧ getChan t n = { x with retryCount := 0 } ∧ same t)) ∧
    (x.state ≠ .stopping → exec (.stoppingGateOff n) s = .next s) ∧
    (x.state = .stopping → ∃ t, exec (.stoppingGateOff n) s = .next t ∧ getChan t n = { x with gate := false } ∧ same t) ∧
    (x.state ≠ .retryWait → exec (.backoffEnd n) s = .next s) ∧
    (x.state = .retryWait → ∃ t, exec (.backoffEnd n) s = .next t ∧ (getChan t n).state ∈ [.waiting, .test, .inrush]) ∧
    (exec (.wakeN n x.wake) s = .next s ∧ exec (.attnBtnN n x.button) s = .next s) ∧
    (∃ t, exec (.wakeN n (!x.wake)) s = .next t ∧ getChan t n = { x with wake := !x.wake } ∧ same t ∧ t.port = s.port) ∧
    (∃ t, exec (.attnBtnN n (!x.button)) s = .next t ∧ getChan t n = { x with button := !x.button } ∧ same t ∧ t.port = s.port)

/-- UNIT_RETIRE takes a unit out, UNIT_RETURN tests it and brings it back or makes it wait to join, and UNIT_JOIN puts it into traffic. -/
def Obligations.UnitsLeaveAndReturn : Prop :=
  ∀ (s : State),
    (∀ seq c, Runs s seq 0xA001 c →
      let u := objIndex c.desc.objectId % 65536
      let n := u % 4096
      let go := unitLeaving s u = false
      ((¬go ∨ (u / 4096 = 3 ∧ banksLeft s ≤ 64) ∨ (u / 4096 = 4 ∧ moversLeft s ≤ 1)) →
        exec (.unitRetire seq) s = .next (finishFail c PRECONDITION s)) ∧
      (go → u / 4096 = 1 → ∃ t, exec (.unitRetire seq) s = .next t ∧ (getLane t n).retired = true) ∧
      (go → u / 4096 = 2 → ∃ t, exec (.unitRetire seq) s = .next t ∧ (getPort t n).retired = true ∧
        (getPort t n).linkUp = false ∧ u ∈ t.flt.retired) ∧
      (go → u / 4096 = 3 → 64 < banksLeft s → ∃ t, exec (.unitRetire seq) s = .next t ∧ t.gh.relocQ = s.gh.relocQ ++ [n] ∧
        t.gh.retired = s.gh.retired ∧ (11, unitCode 3 n) ∈ t.flt.asserted) ∧
      (go → u / 4096 = 4 → 1 < moversLeft s → ∃ t, exec (.unitRetire seq) s = .next t ∧
        (getMover t n).state = .retired ∧ (getMover t n).job = none ∧ u ∈ t.flt.retired) ∧
      (go → u / 4096 = 5 → ∃ t, exec (.unitRetire seq) s = .next t ∧ (getSlot t n).retired = true ∧
        slotLive (getSlot t n) = false ∧ (getSlot t n).code = (getSlot s n).code ∧ u ∈ t.flt.retired) ∧
      (go → u / 4096 = 6 → ∃ t, exec (.unitRetire seq) s = .next t ∧ (getLink t n).retired = true ∧
        (getLink t n).state = .down ∧ (getLink t n).heldCause = 6 ∧ u ∈ t.flt.retired) ∧
      (go → u / 4096 = 7 → ∃ t, exec (.unitRetire seq) s = .next t ∧ (getChan t n).retired = true ∧
        (getChan t n).state ∈ [.stopping, .tripped, .lockedOut])) ∧
    (∀ seq c, Runs s seq 0xA002 c →
      let u := objIndex c.desc.objectId % 65536
      let n := u % 4096
      (u ∉ s.flt.retired → ∀ ok, exec (.unitReturn seq ok) s = .next (finishFail c PRECONDITION s)) ∧
      (u ∈ s.flt.retired →
        (∃ s1, exec (.unitReturn seq false) s = .next (finishFail c UNIT_FAULT s1) ∧ s1.flt.status.getLsbD 36 = true ∧
          s1.flt.retired = s.flt.retired ∧ OnlyAreas [.flt, .evt, .free, .out] s s1) ∧
        (u / 4096 ∈ [2, 5] → exec (.unitReturn seq true) s =
          .next (NowWaits c [] { s with flt := { s.flt with joining := insNat s.flt.joining u } })) ∧
        (u / 4096 = 1 → ∃ s1, exec (.unitReturn seq true) s = .next (NowWaits c [] s1) ∧
          s1.flt = { s.flt with joining := insNat s.flt.joining u } ∧ (getLane s1 n).test.genEn = false ∧
          (getLane s1 n).test.chkEn = false ∧ (∀ k, k ≠ n → getLane s1 k = getLane s k) ∧ OnlyAreas [.flt, .port, .out] s s1) ∧
        (u / 4096 = 4 → ∃ s1, exec (.unitReturn seq true) s = .next (NowWaits c [] s1) ∧
          s1.flt = { s.flt with joining := insNat s.flt.joining u } ∧ getMover s1 n = { getMover s n with state := .selfTest } ∧
          (∀ k, k ≠ n → getMover s1 k = getMover s k) ∧ OnlyAreas [.flt, .move, .pwr] s s1) ∧
        (u / 4096 = 3 → ∃ t, exec (.unitReturn seq true) s = .next t ∧ n ∉ t.gh.retired ∧
          t.gh.free = s.gh.free + 6144 ∧ u ∉ t.flt.retired) ∧
        (u / 4096 = 6 → ∃ t, exec (.unitReturn seq true) s = .next t ∧ (getLink t n).retired = false ∧ u ∈ t.flt.joining) ∧
        (u / 4096 = 7 → ∃ t, exec (.unitReturn seq true) s = .next t ∧ (getChan t n).retired = false ∧
          (getChan t n).retryCount = 0 ∧ (getChan t n).state ∈ [.landing, .seating, .empty] ∧ u ∉ t.flt.retired))) ∧
    (∀ u < 65536,
      let n := u % 4096
      let back := fun (t : State) => u ∉ t.flt.retired ∧ u ∉ t.flt.joining
      (u ∉ s.flt.joining → exec (.unitJoin u) s = .next s) ∧
      (u ∈ s.flt.joining →
        (u / 4096 = 1 → ∃ t, exec (.unitJoin u) s = .next t ∧ (getLane t n).retired = false) ∧
        (u / 4096 = 2 → ∃ t, exec (.unitJoin u) s = .next t ∧ back t ∧ (getPort t n).retired = false ∧
          ∀ q < 16, (getSchedQ t (n * 16 + q)).start = (getEgress t n).vtime ∧
            (getSchedQ t (n * 16 + q)).finish = (getEgress t n).vtime) ∧
        (u / 4096 = 4 → ∃ t, exec (.unitJoin u) s = .next t ∧ back t ∧ (getMover t n).state = .idle) ∧
        (u / 4096 = 5 → ∃ t, exec (.unitJoin u) s = .next t ∧ back t ∧ (getSlot t n).retired = false ∧
          (getSlot t n).wasRunning = false) ∧
        (u / 4096 = 6 → ∃ t, exec (.unitJoin u) s = .next t ∧ back t ∧ t.obl.routes = s.obl.routes)))

/-- TIME_CONFIG and SET, the PPS input and output, steps, source losses and fabric exchanges change the Thyme time service. -/
def Obligations.ThymeKeepsTime : Prop :=
  ∀ (s : State),
    let cfgOf := fun (d : Desc) => (⟨fld d.arg0 1 0, fld d.arg0 3 2, fld d.arg0 5 4, max 1 (min 50 (fld d.arg0 13 8)),
      max 1 (min 1000 (fld d.arg0 25 16)), max 1 (min 65535 (fld d.arg0 47 32)), d.arg0.getLsbD 48, d.arg0.getLsbD 49,
      max 1 (min 250000 (fld d.arg1 17 0)), fld d.arg1 47 32, BitVec.ofNat 16 (fld d.arg3 31 16)⟩ : TimeCfg)
    let kept := fun (t : State) => t.time.now = s.time.now ∧ t.time.localNs = s.time.localNs
    (∀ seq c, Runs s seq 0xA003 c → c.desc.arg3.getLsbD 0 = false → ∃ ks s1,
      exec (.timeConfig seq) s = .next (Completed c true 0 ks s1) ∧ s1.time.cfg = cfgOf c.desc ∧ kept s1 ∧
      s1.time.setArmed = s.time.setArmed ∧ OnlyAreas [.time, .evt, .flt, .free, .out] s s1) ∧
    (∀ seq c, Runs s seq 0xA003 c → c.desc.arg3.getLsbD 0 = true → ∃ ks s1,
      exec (.set seq) s = .next (Completed c true 0 ks s1) ∧ s1.time.cfg = cfgOf c.desc ∧ kept s1 ∧
      s1.time.setArmed = some c.desc.arg2.toNat ∧ OnlyAreas [.time, .evt, .flt, .free, .out] s s1 ∧
      (s1.time.source ≠ 1 → s1.time.source ≠ 2 → s1.time.stepAfter % 1000000000 = 0 ∧
        s.time.now + 500000000 ≤ s1.time.stepAfter ∧ s1.time.stepAfter < s.time.now + 1500000000 ∧
        s1.time.stepPending = some (Int.ofNat (c.desc.arg2.toNat * 1000000000 % 2 ^ 64) - Int.ofNat s1.time.stepAfter))) ∧
    (∀ freq, ∃ t, exec (.ppsIn freq) s = .next t ∧ kept t ∧ t.time.ppsInLast = s.time.now - s.time.cfg.ppsInCompNs ∧
      t.time.ppsInLocal = s.time.localNs ∧ t.time.freqOk = freq ∧ t.time.cfg = s.time.cfg ∧
      t.time.goodEdges = (if edgeGood s.time then min 4 (s.time.goodEdges + 1) else 1) ∧
      (4 ≤ t.time.goodEdges → srcValid t.time 2 = true) ∧ (freq = false → srcValid t.time 1 = false)) ∧
    (∀ k < 4,
      (srcValid s.time k = false → exec (.sourceLost k) s = .next s) ∧
      (srcValid s.time k = true → s.time.source ≠ k → ∃ t, exec (.sourceLost k) s = .next t ∧ srcValid t.time k = false ∧
        t.time.source = s.time.source ∧ t.time.state = s.time.state ∧ OnlyAreas [.time] s t) ∧
      (srcValid s.time k = true → s.time.source = k → (∀ j < 4, j ≠ k → srcValid s.time j = false) → ∃ t,
        exec (.sourceLost k) s = .next t ∧ t.time.state = .holdover ∧ t.time.source = 0 ∧ t.time.stepPending = none ∧
        t.time.holdStart = s.time.localNs ∧ t.time.holdovers = sat64 s.time.holdovers ∧ (32, unitCode 0 0) ∈ t.flt.asserted)) ∧
    (∃ t, exec .timeFreqInLoss s = .next t ∧ t.time.freqOk = false ∧ srcValid t.time 1 = false ∧ kept t ∧
      (s.time.source ≠ 1 → t.time.source = s.time.source ∧ t.time.state = s.time.state ∧ OnlyAreas [.time] s t)) ∧
    (s.time.stepPending = none → exec .thymeStep s = .next s) ∧
    (∀ d, s.time.stepPending = some d → stepNow s.time d = false → exec .thymeStep s = .next s) ∧
    (∀ d, s.time.stepPending = some d → stepNow s.time d = true → ∃ t, exec .thymeStep s = .next t ∧
      t.time.now = (Int.ofNat s.time.now + d).toNat % 2 ^ 64 ∧ t.time.stepPending = none ∧ t.time.slewLeft = 0 ∧
      t.time.steps = sat64 s.time.steps ∧ t.time.localNs = s.time.localNs ∧ t.time.cfg = s.time.cfg ∧
      (tget 0 t.evt.pend 7).getLsbD 34 = true ∧ OnlyAreas [.time, .sched, .evt, .out] s t) ∧
    ((s.time.stepPending ≠ none ∨ 2 ≤ s.time.now % 1000000000 ∨ s.time.cfg.ppsOutEn = false) → exec .ppsOutPulse s = .next s) ∧
    (s.time.stepPending = none → s.time.now % 1000000000 < 2 → s.time.cfg.ppsOutEn = true → exec .ppsOutPulse s =
      .next { s with time := { s.time with ppsOutLast := s.time.now, ppsHigh := true }, out := s.out ++ [.pin .ppsOut true] }) ∧
    (s.glb.mgrSel = true → exec .syncExchange s = .next s) ∧
    (s.glb.mgrSel = false → s.time.missedSyncs < 5 →
      (linkToward s s.obl.mgrSwitch = none → s.time.missedSyncs = 0 → exec .syncExchange s = .next s) ∧
      (∀ l, linkToward s s.obl.mgrSwitch = some l → ∃ t, exec .syncExchange s = .next t ∧
        t.time.syncSeq = (s.time.syncSeq + 1) % 65536 ∧ t.time.missedSyncs = s.time.missedSyncs + 1 ∧
        t.time.goodSyncs = (if s.time.missedSyncs = 0 then s.time.goodSyncs else 0) ∧ OnlyAreas [.time, .obl, .out] s t)) ∧
    (∀ l < 8, ∀ src < 32, ∀ tx seq, ∃ t, exec (.timeReq l src tx seq) s = .next t ∧ OnlyAreas [.obl, .out] s t ∧
      ((getLink s l).state = .active → (getLink s l).txAsleep = false → (getLink s l).bwait = [] →
        bypassOut (getLink s l) ≤ 253 → t.out = s.out ++
          [.bypass src (.timeRsp seq s.time.now (thymeCode s.time.state) (errNow s.time) s.time.now)])) ∧
    (∀ seq (t1 t2 t3 t4 : Word) st err,
      let wanted := s.glb.mgrSel = false ∧ seq = (s.time.syncSeq + 65535) % 65536 ∧ s.time.missedSyncs ≠ 0
      let good := (t4 - t1).toInt ≤ 1000000 ∧ (t4 - t1).toInt - (t3 - t2).toInt < 100000 ∧ st ≠ 0
      (¬wanted → exec (.timeRsp seq t1 t2 t3 t4 st err) s = .next s) ∧
      (wanted → ∃ t, exec (.timeRsp seq t1 t2 t3 t4 st err) s = .next t ∧ t.time.missedSyncs = 0 ∧
        t.time.peerErr = err % 2 ^ 32 ∧ (good → t.time.goodSyncs = min 4 (s.time.goodSyncs + 1)) ∧
        (¬good → t.time.goodSyncs = 0) ∧ kept t))

/-- Image and calibration commands stage, the flash runs one operation at a time, and SPDM, IDE and debug events change keys and locks. -/
def Obligations.ImageCalibrationFlashAndKeys : Prop :=
  ∀ (s : State),
    (∀ seq c, Runs s seq 0xA006 c → ReadsUp s false imageRange c →
      exec (.imageUpdate seq none) s = .next (finishFail c DESC_FAULT s) ∧
      (∀ h : ImageHdr,
        let good := fld h.w0 31 0 = 0x36395650 ∧ fld h.w0 47 32 = 1 ∧ 4096 ≤ fld h.w1 63 32 ∧ fld h.w1 63 32 ≤ 4186112 ∧
          4096 ∣ fld h.w1 63 32 ∧ fld h.w0 55 48 < 4 ∧ s.sec.keyRevoked.getLsbD (fld h.w0 55 48) = false ∧ h.keyOk = true ∧
          h.sigOk = true ∧ h.bodyOk = true ∧ s.sec.svMin ≤ fld h.w1 31 0
        (¬good → exec (.imageUpdate seq (some h)) s = .next (finishFail c PRECONDITION s)) ∧
        (good → exec (.imageUpdate seq (some h)) s = .next (Completed c false 0 [] { s with sec := { s.sec with
          imageStage := some (fld c.desc.arg0 63 12 * 4096, fld c.desc.arg1 22 0, h.hash) } })))) ∧
    (∀ seq c, Runs s seq 0xA004 c → ReadsUp s false calRange16 c → exec (.calWrite seq none) s = .next (finishFail c DESC_FAULT s) ∧
      ∀ ws, fld c.desc.arg1 10 0 = 1 →
        let e := calUse (nth ws 0) (nth ws 1)
        let table := tins (s.sec.calStage.getD s.sec.calOverlay) (calKey e) (tobits e.2.2.2 64)
        e.1 = max 1 (min 4 (fld (nth ws 0) 7 0)) ∧
        (1024 < table.length → exec (.calWrite seq (some ws)) s = .next (finishFail c NO_RESOURCE s)) ∧
        (table.length ≤ 1024 → ∃ ks, exec (.calWrite seq (some ws)) s =
          .next (Completed c false 0 ks { s with sec := { s.sec with calStage := some table } }))) ∧
    (∀ seq c, Runs s seq 0xA005 c → ∃ s1, exec (.calRestoreFactory seq) s = .next (NowWaits c [] s1) ∧
      s1.sec = { s.sec with calStage := none, flashQ := s.sec.flashQ ++ [⟨.calRestore, some c.seq⟩] } ∧
      (s.sec.flashQ ≠ [] → s1.out = s.out) ∧ OnlyAreas [.sec, .out] s s1) ∧
    (∀ c k v, (c, k) ∈ [(Instr.flashEraseSector v, (1, FlashKind.eraseSector s.sec.flashAddr)),
        (.flashProgram v, (2, .program s.sec.flashAddr)), (.flashRead v, (3, .read s.sec.flashAddr))] →
      (v.toNat % 4 ≠ k.1 → exec c s = .next s) ∧
      (v.toNat % 4 = k.1 → s.glb.imageFail = true → s.sec.flashAddr < 0x800000 → ∃ t, exec c s = .next t ∧
        t.sec = { s.sec with flashQ := s.sec.flashQ ++ [⟨k.2, none⟩] } ∧ OnlyAreas [.sec, .out] s t) ∧
      (v.toNat % 4 = k.1 → (s.glb.imageFail = false ∨ 0x800000 ≤ s.sec.flashAddr) → ∃ t, exec c s = .next t ∧
        t.sec = s.sec ∧ t.glb.clampCount = sat64 s.glb.clampCount)) ∧
    (∀ ok, s.sec.flashQ = [] → exec (.flashOpDone ok) s = .next s) ∧
    (∀ op rest, s.sec.flashQ = op :: rest → (∀ src, s.glb.warm ≠ .waitFlash src) →
      (∃ t, exec (.flashOpDone false) s = .next t ∧ t.sec.flashQ = rest ∧ t.sec.calOverlay = s.sec.calOverlay ∧
        t.sec.calStage = s.sec.calStage ∧ t.sec.imageStage = s.sec.imageStage ∧
        (op.kind ≠ .imageCommit → t.sec.flash = s.sec.flash) ∧
        ((∃ a, op.kind = .eraseSector a ∨ op.kind = .program a ∨ op.kind = .read a) → t.sec.flashErr = true)) ∧
      (∀ a, op.kind = .eraseSector a → ∃ t, exec (.flashOpDone true) s = .next t ∧ t.sec.flashQ = rest ∧ t.sec.flashErr = false ∧
        ∀ b, flashByte t b = (if b / 65536 = a / 65536 then 0xFF#8 else flashByte s b)) ∧
      (∀ a, op.kind = .program a → ∃ t, exec (.flashOpDone true) s = .next t ∧ t.sec.flashQ = rest ∧ t.sec.flashErr = false ∧
        (∀ i < 256, flashByte t (a / 256 * 256 + (a + i) % 256) =
          flashByte s (a / 256 * 256 + (a + i) % 256) &&& bufByte s i) ∧
        ∀ b, b / 256 ≠ a / 256 → flashByte t b = flashByte s b) ∧
      (∀ a, op.kind = .read a → ∃ t, exec (.flashOpDone true) s = .next t ∧ t.sec.flashQ = rest ∧ t.sec.flashErr = false ∧
        t.sec.flash = s.sec.flash ∧ ∀ i < 256, bufByte t i = flashByte s (a + i)) ∧
      (∀ l, op.kind = .calCommit l → ∃ t, exec (.flashOpDone true) s = .next t ∧ t.sec = { s.sec with
        flashQ := rest, calOverlay := l, calInUse := true, calSeq := (s.sec.calSeq + 1) % 2 ^ 32, calStage := none }) ∧
      (op.kind = .calRestore → ∃ t, exec (.flashOpDone true) s = .next t ∧
        t.sec = { s.sec with flashQ := rest, calOverlay := [], calInUse := false })) ∧
    ((s.sec.debugFuse = true ∨ s.sec.debugLocked = true) →
      exec .dbgChallenge s = .next s ∧ ∀ b, exec (.dbgResponse b) s = .next s) ∧
    (s.sec.debugFuse = false → s.sec.debugLocked = false →
      (∃ t w, exec .dbgChallenge s = .next t ∧ t.sec = { s.sec with nonce := some w, nonces := s.sec.nonces + 1 } ∧
        t.out = s.out ++ [.tap w false] ∧ OnlyAreas [.sec, .out, .free] s t) ∧
      (∀ b, (b = false ∨ s.sec.nonce = none) → exec (.dbgResponse b) s = .next { s with sec := { s.sec with
        nonce := none, debugFails := min 3 (s.sec.debugFails + 1), debugLocked := decide (2 ≤ s.sec.debugFails) } }) ∧
      (∀ w, s.sec.nonce = some w → ∃ t, exec (.dbgResponse true) s = .next t ∧ t.glb.debugOpened = true ∧
        t.flt.debug = true ∧ t.sec.meas6 = true ∧ t.sec.keyStore = false ∧ t.sec.keyed = [] ∧ t.sec.sessions = 0 ∧
        t.sec.nonce = none ∧ (35, unitCode 0 0) ∈ t.flt.asserted ∧ (∀ l < 8, (getLink t l).held = true) ∧
        ∀ p ∈ allPorts s, (getPort t p).held = true)) ∧
    (∀ op, ∃ t w, exec (.spdmRequest op) s = .next t ∧ t.out = s.out ++ [.spdm w] ∧ OnlyAreas [.sec, .out, .free, .flt] s t ∧
      (op = .keyExchange → t.sec = { s.sec with sessions := if s.sec.sessions < 8 then s.sec.sessions + 1 else s.sec.sessions }) ∧
      (op = .endSession → t.sec = { s.sec with sessions := s.sec.sessions - 1 }) ∧
      (op = .other → t.sec = s.sec) ∧ (∀ i, op = .getMeasurements i → t.sec = s.sec) ∧
      (op = .getMeasurements 6 → w = w64 (b2n s.sec.meas6)) ∧
      (∀ k, op = .keyProg k → (s.sec.sessions = 0 → t.sec = s.sec) ∧ (s.sec.sessions ≠ 0 →
        t.sec = { s.sec with keyed := insNat s.sec.keyed k, insecure := s.sec.insecure.filter (· != k) } ∧
        (t.sec.insecure = [] → (8, unitCode 0 0) ∉ t.flt.asserted))) ∧
      (∀ k, op = .setCertificate k → t.sec = { s.sec with keyStore := s.sec.keyStore || (decide (1 ≤ k) && decide (k ≤ 3)) })) ∧
    (∀ k,
      let secure := k ∈ s.sec.keyed ∧ k ∉ s.sec.insecure
      (¬secure → exec (.kSetGo k) s = .next s ∧ exec (.ideFail k) s = .next s) ∧
      (secure → ∃ t, exec (.kSetGo k) s = .next t ∧ tget false t.sec.keySet k = !(tget false s.sec.keySet k) ∧
        (∀ j, j ≠ k → tget false t.sec.keySet j = tget false s.sec.keySet j) ∧ OnlyAreas [.sec] s t) ∧
      (secure → ∃ t, exec (.ideFail k) s = .next t ∧ t.sec = { s.sec with insecure := insNat s.sec.insecure k } ∧
        t.flt.status.getLsbD 8 = true ∧ (8, unitCode 0 0) ∈ t.flt.asserted))

/-- A warm reset from `src` starts: in cold reset, or while one is in progress, nothing happens; it waits for the flash, or its
drain begins (01 R469). -/
def WarmStarts (src : Nat) (s t : State) : Prop :=
  ((s.glb.inReset = true ∨ s.glb.warm ≠ .none) → t = s) ∧
  (s.glb.inReset = false → s.glb.warm = .none → s.sec.flashQ ≠ [] → t = { s with glb := { s.glb with warm := .waitFlash src } }) ∧
  (s.glb.inReset = false → s.glb.warm = .none → s.sec.flashQ = [] → t.glb.warm = .drain src ∧ t.sec = s.sec)

/-- A warm reset has been applied (01 R469, step 5). -/
def WarmEnds (s t : State) : Prop :=
  t.glb.warm = .none ∧ t.glb.warmSeen = true ∧ t.cmd.ring0.enable = false ∧ t.cmd.ring1.enable = false ∧ t.sec.keyed = [] ∧
  t.sec.sessions = 0 ∧ t.sec.flash = s.sec.flash ∧ (∀ k < 16, (23, unitCode 8 k) ∉ t.flt.asserted) ∧
  (∀ l < 8, (getLink t l).state = .down ∧ (getLink t l).unacked = [] ∧ (getLink t l).cfg = (getLink s l).cfg)

/-- Cold and warm resets, bring-up phases, the VDD_CORE loop and the thermal and supply events change the switch as R38 to R42 and R469 say. -/
def Obligations.ResetsBringUpAndPower : Prop :=
  ∀ (s : State),
    let z := State.reset
    let cold := fun (t : State) => t.glb.inReset = true ∧ t.glb.ready = false ∧ t.cmd = z.cmd ∧ t.host = z.host ∧ t.gh = z.gh ∧
      t.cap = z.cap ∧ t.win = z.win ∧ t.dir = z.dir ∧ t.sage = z.sage ∧ t.tel = z.tel ∧ t.move = z.move ∧ t.sched = z.sched ∧
      t.obl = z.obl ∧ t.stw = z.stw ∧ t.vf = z.vf ∧ t.pwr = z.pwr ∧ t.pending = s.pending
    -- COLD_RESET
    (∀ cause, s.glb.inReset = true → cause ≠ .powerOn → exec (.coldReset cause) s = .next s) ∧
    (∀ cause, s.glb.inReset = false → cause ≠ .powerOn → ∃ t, exec (.coldReset cause) s = .next t ∧ cold t ∧
      t.time.localNs = s.time.localNs ∧ t.time.now = s.time.now ∧ t.time.cfg = TimeCfg.reset ∧ t.glb.railsOk = s.glb.railsOk) ∧
    (∃ t, exec (.coldReset .powerOn) s = .next t ∧ cold t ∧ t.time = z.time ∧ t.flt = z.flt ∧ t.evt = z.evt) ∧
    -- SUPPLY_MONITOR_TRIP
    (∀ rail, ∃ t, exec (.supplyMonitorTrip rail) s = .next t ∧ t.glb.railsOk = false ∧
      (s.glb.inReset = true → t = { s with glb := { s.glb with railsOk := false } }) ∧ (s.glb.inReset = false → cold t)) ∧
    -- COLD_RESET_RELEASE
    (∀ m b r i, ∃ t, exec (.coldResetRelease m b r i) s = .next t ∧ t.glb.inReset = false ∧ (s.glb.inReset = false → t = s) ∧
      (s.glb.inReset = true → t.glb.bringUp = .phase 1 ∧ t.glb.mgrSel = m ∧ t.glb.pb0Bifur = min 4 (b % 8) ∧
        t.glb.timeRef = min 2 (r % 4) ∧ t.glb.switchId = i % 32 ∧ tget 0 t.port.bifur 0 = min 4 (b % 8) ∧
        (∃ l, t.out = l ++ [.avs 800]))) ∧
    -- GLB_RESET with COLD: every value
    (∀ v : Word, ∃ t, exec (.glbResetCold v) s = .next t ∧
      (v.toNat % 65536 = 0xA5C3 → v.getLsbD 17 = true → s.glb.inReset = false → cold t ∧ t.time.now = s.time.now) ∧
      (v.toNat % 65536 = 0xA5C3 → (v.getLsbD 17 = false ∨ s.glb.inReset = true) → t = s) ∧
      (v.toNat % 65536 ≠ 0xA5C3 → t = discard .pf 0 0x48 v s)) ∧
    -- GLB_RESET with WARM: every value
    (∀ v : Word, ∃ t, exec (.glbResetWarm v) s = .next t ∧
      (v.toNat % 65536 = 0xA5C3 → v.getLsbD 16 = true → v.getLsbD 17 = false → WarmStarts 1 s t) ∧
      (v.toNat % 65536 = 0xA5C3 → (v.getLsbD 16 = false ∨ v.getLsbD 17 = true) → t = s) ∧
      (v.toNat % 65536 ≠ 0xA5C3 → t = discard .pf 0 0x48 v s)) ∧
    -- WRST_N
    (∃ t, exec .wrstN s = .next t ∧ WarmStarts 0 s t) ∧
    -- MC_FAULT
    (∀ k < 16, ∃ t, exec (.mcFault k) s = .next t ∧ (s.glb.inReset = true → t = s) ∧
      (s.glb.inReset = false → (23, unitCode 8 k) ∈ t.flt.asserted ∧
        (s.glb.warm = .none → t.glb.warm = (if s.sec.flashQ = [] then .drain 2 else .waitFlash 2)) ∧
        (s.glb.warm ≠ .none → t.glb = s.glb))) ∧
    -- WARM_RESET_DRAIN_END
    (∃ t, exec .warmResetDrainEnd s = .next t ∧
      ((∀ src, s.glb.warm ≠ .drain src ∧ s.glb.warm ≠ .links src) → t = s) ∧
      (∀ src, s.glb.warm = .drain src → t.glb.warm = .links src ∨ WarmEnds s t) ∧
      (∀ src, s.glb.warm = .links src → WarmEnds s t ∧ t.pwr = s.pwr)) ∧
    -- BRING_UP_PHASE
    (s.glb.inReset = true → ∀ b, exec (.bringUpPhase b) s = .next s) ∧
    (s.glb.inReset = false → ∀ b,
      (s.glb.bringUp = .up ∨ s.glb.bringUp = .failed → exec (.bringUpPhase b) s = .next s) ∧
      (∀ n ∈ [1, 2, 3, 6, 7], s.glb.bringUp = .phase n → ∃ t, exec (.bringUpPhase b) s = .next t ∧
        t.glb.bringUp = .phase (n + 1) ∧ t.glb.ready = s.glb.ready) ∧
      (s.glb.bringUp = .phase 1 → ∃ t, exec (.bringUpPhase b) s = .next t ∧ t.sec.svMin = fuseCount b.svFuses ∧
        t.sec.keyRevoked = b.keyRevoked ∧ t.sec.debugFuse = b.debugFuse ∧ OnlyAreas [.glb, .sec] s t) ∧
      (s.glb.bringUp = .phase 4 → slotVerifies s b.slotA = false → slotVerifies s b.slotB = false → ∃ t,
        exec (.bringUpPhase b) s = .next t ∧ t.glb.ready = true ∧ t.glb.imageFail = true ∧ t.glb.bringUp = .failed ∧
        (33, unitCode 0 0) ∈ t.flt.asserted) ∧
      (s.glb.bringUp = .phase 4 → (slotVerifies s b.slotA = true ∨ slotVerifies s b.slotB = true) → ∃ t,
        exec (.bringUpPhase b) s = .next t ∧ t.glb.bringUp = .phase 5 ∧ t.sec.bootSlot =
          (if slotVerifies s b.slotA && (decide (slotSeq b.slotB ≤ slotSeq b.slotA) || !slotVerifies s b.slotB) then 0 else 1) ∧
        OnlyAreas [.glb, .sec] s t) ∧
      (s.glb.bringUp = .phase 5 → b.selfTestOk = true → ∃ t, exec (.bringUpPhase b) s = .next t ∧
        t.glb.bringUp = .phase 6 ∧ ∀ p < 112, portCreated t p = true → (getPort t p).engRunning = true) ∧
      ((s.glb.bringUp = .phase 5 ∨ s.glb.bringUp = .phase 8) → b.selfTestOk = false → ∃ t,
        exec (.bringUpPhase b) s = .next t ∧ t.glb.ready = true ∧ t.glb.imageFail = true) ∧
      (s.glb.bringUp = .phase 8 → b.selfTestOk = true → ∃ t, exec (.bringUpPhase b) s = .next t ∧
        t.glb = { s.glb with ready := true, bringUp := .up } ∧ t.tel.epoch = 0 ∧ OnlyAreas [.glb, .sec, .tel] s t)) ∧
    -- THERMTRIP, TEMP_HIGH, TEMP_HIGH_CLEAR, CORE_RATE_LOW, VDD_CORE_LOOP, SUPPLY
    (∀ n < 16,
      (s.glb.thermTrip = true → exec (.thermtrip n) s = .next s) ∧
      (s.glb.thermTrip = false → ∃ t, exec (.thermtrip n) s = .next t ∧ t.glb.thermTrip = true ∧
        (∃ l, t.out = l ++ [.pin .thermtripN false]) ∧ ∀ l < 8, (getLink t l).held = true ∧ (getLink t l).state = .down) ∧
      (∃ t, exec (.tempHigh n) s = .next t ∧ t.flt.temp = true ∧ (2, unitCode 0 0) ∈ t.flt.asserted ∧
        OnlyAreas [.flt, .evt, .free, .out] s t)) ∧
    (∃ t, exec .tempHighClear s = .next t ∧ (2, unitCode 0 0) ∉ t.flt.asserted ∧ t.flt.status = s.flt.status ∧
      OnlyAreas [.flt] s t) ∧
    (∀ n < 32,
      (∃ t, exec (.coreRateLow n) s = .next t ∧ (0, unitCode 0 0) ∈ t.flt.asserted ∧ OnlyAreas [.flt, .evt, .free, .out] s t) ∧
      (∀ ppm ack mv,
        let p := s.pwr
        let top := 1000000 + p.guardKppm * 1000
        ((s.glb.bringUp = .phase 1 ∨ s.glb.inReset = true) → exec (.vddCoreLoop ppm n ack mv) s = .next s) ∧
        (s.glb.bringUp ≠ .phase 1 → s.glb.inReset = false → p.vminMv ≤ p.vmaxMv → ∃ t,
          exec (.vddCoreLoop ppm n ack mv) s = .next t ∧ t.pwr.targetMv = max p.vminMv (min p.vmaxMv
            (if p.fixed then p.fixedMv else if ppm < top then p.targetMv + 10
              else if top + 20000 < ppm ∧ 10000 ≤ p.lowUs + 100 then p.targetMv - 5 else p.targetMv)) ∧
          t.out = s.out ++ [.avs t.pwr.targetMv] ∧ t.pwr.avsOk = ack ∧ t.pwr.vddMv = (if ack then mv % 1024 else p.vddMv) ∧
          t.pwr.vminMv = p.vminMv ∧ t.pwr.vmaxMv = p.vmaxMv ∧ (1000000 ≤ ppm → (0, unitCode 0 0) ∉ t.flt.asserted) ∧
          OnlyAreas [.pwr, .out, .flt] s t))) ∧
    (∃ t, exec (.supply none) s = .next t ∧ (1, unitCode 0 0) ∈ t.flt.asserted ∧ t.pwr = s.pwr) ∧
    (∀ mv, (620 ≤ mv → mv ≤ 850 → exec (.supply (some mv)) s = .next s) ∧
      ((mv < 620 ∨ 850 < mv) → ∃ t, exec (.supply (some mv)) s = .next t ∧ (1, unitCode 0 0) ∈ t.flt.asserted ∧
        t.flt.supply = true ∧ t.pwr = { s.pwr with vddMv := mv % 1024 }))

/-- The event lines of register `r` whose bits are set in `w`, each offering one occurrence to its host vector. -/
def OffersOf (r : Nat) (w : Word) (s : State) : State :=
  ((List.range 64).filter (fun j => w.getLsbD j)).foldl (fun t j => offerLine (64 * r + j) t) s

/-- An edge sets its pending bit whatever the mask, and offers one occurrence only while unmasked; writes offer as R353 says. -/
def Obligations.EventLinesPendMaskAndOffer : Prop :=
  ∀ s : State,
    (∀ n < 4096,
      let r := n / 64
      let s1 := { s with evt := { s.evt with
        pend := tput 0 s.evt.pend r (tget 0 s.evt.pend r ||| (1#64 <<< (n % 64)))
        count := tput 0 s.evt.count n ((tget 0 s.evt.count n + 1) % 65536) } }
      let core := fun (t : State) => if (tget LineRoute.reset s.evt.route n).coreEn then
        emit (.core (tget LineRoute.reset s.evt.route n).coreVector) t else t
      ((tget (BitVec.allOnes 64) s.evt.mask r).getLsbD (n % 64) = false → eventEdge n s = core (offerLine n s1)) ∧
      ((tget (BitVec.allOnes 64) s.evt.mask r).getLsbD (n % 64) = true → eventEdge n s = core s1) ∧
      (∀ m, (tget 0 (eventEdge n s).evt.pend (m / 64)).getLsbD (m % 64) =
        (decide (m = n) || (tget 0 s.evt.pend (m / 64)).getLsbD (m % 64)))) ∧
    (s.glb.imageFail = false → ∀ r < 64, ∀ v : Word,
      exec (.evtPendWrite r v) s =
        .next (OffersOf r (v &&& ~~~(tget 0 s.evt.pend r) &&& ~~~(tget (BitVec.allOnes 64) s.evt.mask r))
          { s with evt := { s.evt with pend := tput 0 s.evt.pend r v } }) ∧
      exec (.evtMaskWrite r v) s =
        .next (OffersOf r (tget (BitVec.allOnes 64) s.evt.mask r &&& ~~~v &&& tget 0 s.evt.pend r)
          { s with evt := { s.evt with mask := tput (BitVec.allOnes 64) s.evt.mask r v } }))

/-- EQ_HEAD, the mailbox doorbells, VF_EVQ_CTRL and a write to FLT_STATUS do what R344, R346, R347, R349 and R392 say. -/
def Obligations.TenantDoorbellsAndStatusClears : Prop :=
  ∀ (s : State) (v : Word),
    (∃ t, exec (.fltStatusWrite v) s = .next t ∧
      (∀ k < 37, t.flt.status.getLsbD k = (s.flt.status.getLsbD k && (v.getLsbD k || lineUp s k))) ∧
      t.flt.clearRefused = min (2 ^ 64 - 1) (s.flt.clearRefused +
        ((List.range 37).filter (fun k => s.flt.status.getLsbD k && !(v.getLsbD k) && lineUp s k)).length) ∧
      t.flt = { s.flt with status := t.flt.status, clearRefused := t.flt.clearRefused } ∧ OnlyAreas [.flt] s t) ∧
    (∀ f < 2048, vfOpen s f = true →
      let x := getVf s f
      let n := v.toNat % 2 ^ 32
      let room := (x.evq.produced + 2 ^ 32 - n) % 2 ^ 32 ≤ 2 ^ x.evq.sizeLog2 ∧
        ¬(1 ≤ (x.evq.eqHead + 2 ^ 32 - n) % 2 ^ 32 ∧ (x.evq.eqHead + 2 ^ 32 - n) % 2 ^ 32 ≤ 2 ^ 31)
      let noted := fun (t : State) => { t with evt := { t.evt with
        vfMb := tput 0 t.evt.vfMb (f / 64) (tget 0 t.evt.vfMb (f / 64) ||| (1#64 <<< (f % 64))) } }
      (room → exec (.eqHead f v) s = .next (setVf f { x with evq := { x.evq with eqHead := n } } s)) ∧
      (¬room → exec (.eqHead f v) s = .next (clampAccess (.vf f) 3 0x10 31 0 (w64 n) (w64 x.evq.eqHead) s)) ∧
      (v.getLsbD 0 = false → exec (.mbSend f v) s = .next s ∧ exec (.mbDone f v) s = .next s) ∧
      (v.getLsbD 0 = true → x.toMgrFull = false →
        exec (.mbSend f v) s = .next (eventEdge 161 (noted (setVf f { x with toMgrFull := true } s)))) ∧
      (v.getLsbD 0 = true → x.toMgrFull = true →
        exec (.mbSend f v) s = .next (clampAccess (.vf f) 3 0x18 0xFF 0xFF v 0 s)) ∧
      (v.getLsbD 0 = true → x.toVfFull = true →
        exec (.mbDone f v) s = .next (eventEdge 161 (noted (setVf f { x with toVfFull := false } s)))) ∧
      (v.getLsbD 0 = true → x.toVfFull = false → exec (.mbDone f v) s = .next s) ∧
      (∃ t, exec (.vfEvqCtrlWrite f v) s = .next t ∧
        (getVf t f).evq = { x.evq with
          enable := v.getLsbD 0
          sizeLog2 := max 6 (min 16 (v.toNat / 2 % 32))
          vector := min (x.vecCount - 1) (v.toNat / 2 ^ 16 % 64)
          vectorEn := v.getLsbD 32
          produced := if x.evq.enable = false ∧ v.getLsbD 0 = true then 0 else x.evq.produced
          eqHead := if x.evq.enable = false ∧ v.getLsbD 0 = true then 0 else x.evq.eqHead } ∧
        (∀ g, g ≠ f → getVf t g = getVf s g) ∧ OnlyAreas [.vf, .glb, .host, .out, .evt] s t)) ∧
    (s.glb.imageFail = false → v.getLsbD 0 = true → v.getLsbD 2 = true → vfExists (getVf s s.vf.sel) = true →
      let x := getVf s s.vf.sel
      (x.toVfFull = false →
        exec (.vfInDoorbell v) s = .next (vfEvent s.vf.sel 2 0 0 (setVf s.vf.sel { x with toVfFull := true } s))) ∧
      (x.toVfFull = true → ∃ t, exec (.vfInDoorbell v) s = .next t ∧ t.vf = s.vf ∧ t.glb.clampCount = sat64 s.glb.clampCount))

/-- Every step from a legal state leaves straps, security counts, flash, time and supply settings in their legal ranges. -/
def Obligations.EveryStepKeepsLegal : Prop :=
  ∀ s t : State, Legal s → step s = .next t → Legal t

/-- The state after reset satisfies the invariant that every step keeps. -/
def Obligations.ResetIsLegal : Prop :=
  Legal State.reset
end

