-- ==== Sys2Proof/Laws/State.lean ====
section
/-! SUPPORT. What the named updates of the state leave alone: one lemma per field and update, so that no later proof
unfolds a record update. -/

namespace Sys2Proof.Machine

/-! setPort -/
@[simp] theorem setPort_pending (p : Nat) (x : Port) (s : State) : (setPort p x s).pending = s.pending := rfl
@[simp] theorem setPort_out (p : Nat) (x : Port) (s : State) : (setPort p x s).out = s.out := rfl
@[simp] theorem setPort_free (p : Nat) (x : Port) (s : State) : (setPort p x s).free = s.free := rfl
@[simp] theorem setPort_glb (p : Nat) (x : Port) (s : State) : (setPort p x s).glb = s.glb := rfl
@[simp] theorem setPort_cmd (p : Nat) (x : Port) (s : State) : (setPort p x s).cmd = s.cmd := rfl
@[simp] theorem setPort_host (p : Nat) (x : Port) (s : State) : (setPort p x s).host = s.host := rfl
@[simp] theorem setPort_gh (p : Nat) (x : Port) (s : State) : (setPort p x s).gh = s.gh := rfl
@[simp] theorem setPort_cap (p : Nat) (x : Port) (s : State) : (setPort p x s).cap = s.cap := rfl
@[simp] theorem setPort_win (p : Nat) (x : Port) (s : State) : (setPort p x s).win = s.win := rfl
@[simp] theorem setPort_dir (p : Nat) (x : Port) (s : State) : (setPort p x s).dir = s.dir := rfl
@[simp] theorem setPort_sage (p : Nat) (x : Port) (s : State) : (setPort p x s).sage = s.sage := rfl
@[simp] theorem setPort_tel (p : Nat) (x : Port) (s : State) : (setPort p x s).tel = s.tel := rfl
@[simp] theorem setPort_move (p : Nat) (x : Port) (s : State) : (setPort p x s).move = s.move := rfl
@[simp] theorem setPort_sched (p : Nat) (x : Port) (s : State) : (setPort p x s).sched = s.sched := rfl
@[simp] theorem setPort_obl (p : Nat) (x : Port) (s : State) : (setPort p x s).obl = s.obl := rfl
@[simp] theorem setPort_stw (p : Nat) (x : Port) (s : State) : (setPort p x s).stw = s.stw := rfl
@[simp] theorem setPort_vf (p : Nat) (x : Port) (s : State) : (setPort p x s).vf = s.vf := rfl
@[simp] theorem setPort_evt (p : Nat) (x : Port) (s : State) : (setPort p x s).evt = s.evt := rfl
@[simp] theorem setPort_slot (p : Nat) (x : Port) (s : State) : (setPort p x s).slot = s.slot := rfl
@[simp] theorem setPort_flt (p : Nat) (x : Port) (s : State) : (setPort p x s).flt = s.flt := rfl
@[simp] theorem setPort_time (p : Nat) (x : Port) (s : State) : (setPort p x s).time = s.time := rfl
@[simp] theorem setPort_sec (p : Nat) (x : Port) (s : State) : (setPort p x s).sec = s.sec := rfl
@[simp] theorem setPort_pwr (p : Nat) (x : Port) (s : State) : (setPort p x s).pwr = s.pwr := rfl

/-! setLane -/
@[simp] theorem setLane_pending (l : Nat) (x : Lane) (s : State) : (setLane l x s).pending = s.pending := rfl
@[simp] theorem setLane_out (l : Nat) (x : Lane) (s : State) : (setLane l x s).out = s.out := rfl
@[simp] theorem setLane_free (l : Nat) (x : Lane) (s : State) : (setLane l x s).free = s.free := rfl
@[simp] theorem setLane_glb (l : Nat) (x : Lane) (s : State) : (setLane l x s).glb = s.glb := rfl
@[simp] theorem setLane_cmd (l : Nat) (x : Lane) (s : State) : (setLane l x s).cmd = s.cmd := rfl
@[simp] theorem setLane_host (l : Nat) (x : Lane) (s : State) : (setLane l x s).host = s.host := rfl
@[simp] theorem setLane_gh (l : Nat) (x : Lane) (s : State) : (setLane l x s).gh = s.gh := rfl
@[simp] theorem setLane_cap (l : Nat) (x : Lane) (s : State) : (setLane l x s).cap = s.cap := rfl
@[simp] theorem setLane_win (l : Nat) (x : Lane) (s : State) : (setLane l x s).win = s.win := rfl
@[simp] theorem setLane_dir (l : Nat) (x : Lane) (s : State) : (setLane l x s).dir = s.dir := rfl
@[simp] theorem setLane_sage (l : Nat) (x : Lane) (s : State) : (setLane l x s).sage = s.sage := rfl
@[simp] theorem setLane_tel (l : Nat) (x : Lane) (s : State) : (setLane l x s).tel = s.tel := rfl
@[simp] theorem setLane_move (l : Nat) (x : Lane) (s : State) : (setLane l x s).move = s.move := rfl
@[simp] theorem setLane_sched (l : Nat) (x : Lane) (s : State) : (setLane l x s).sched = s.sched := rfl
@[simp] theorem setLane_obl (l : Nat) (x : Lane) (s : State) : (setLane l x s).obl = s.obl := rfl
@[simp] theorem setLane_stw (l : Nat) (x : Lane) (s : State) : (setLane l x s).stw = s.stw := rfl
@[simp] theorem setLane_vf (l : Nat) (x : Lane) (s : State) : (setLane l x s).vf = s.vf := rfl
@[simp] theorem setLane_evt (l : Nat) (x : Lane) (s : State) : (setLane l x s).evt = s.evt := rfl
@[simp] theorem setLane_slot (l : Nat) (x : Lane) (s : State) : (setLane l x s).slot = s.slot := rfl
@[simp] theorem setLane_flt (l : Nat) (x : Lane) (s : State) : (setLane l x s).flt = s.flt := rfl
@[simp] theorem setLane_time (l : Nat) (x : Lane) (s : State) : (setLane l x s).time = s.time := rfl
@[simp] theorem setLane_sec (l : Nat) (x : Lane) (s : State) : (setLane l x s).sec = s.sec := rfl
@[simp] theorem setLane_pwr (l : Nat) (x : Lane) (s : State) : (setLane l x s).pwr = s.pwr := rfl

/-! setVf -/
@[simp] theorem setVf_pending (v : Nat) (x : Vf) (s : State) : (setVf v x s).pending = s.pending := rfl
@[simp] theorem setVf_out (v : Nat) (x : Vf) (s : State) : (setVf v x s).out = s.out := rfl
@[simp] theorem setVf_free (v : Nat) (x : Vf) (s : State) : (setVf v x s).free = s.free := rfl
@[simp] theorem setVf_glb (v : Nat) (x : Vf) (s : State) : (setVf v x s).glb = s.glb := rfl
@[simp] theorem setVf_cmd (v : Nat) (x : Vf) (s : State) : (setVf v x s).cmd = s.cmd := rfl
@[simp] theorem setVf_host (v : Nat) (x : Vf) (s : State) : (setVf v x s).host = s.host := rfl
@[simp] theorem setVf_port (v : Nat) (x : Vf) (s : State) : (setVf v x s).port = s.port := rfl
@[simp] theorem setVf_gh (v : Nat) (x : Vf) (s : State) : (setVf v x s).gh = s.gh := rfl
@[simp] theorem setVf_cap (v : Nat) (x : Vf) (s : State) : (setVf v x s).cap = s.cap := rfl
@[simp] theorem setVf_win (v : Nat) (x : Vf) (s : State) : (setVf v x s).win = s.win := rfl
@[simp] theorem setVf_dir (v : Nat) (x : Vf) (s : State) : (setVf v x s).dir = s.dir := rfl
@[simp] theorem setVf_sage (v : Nat) (x : Vf) (s : State) : (setVf v x s).sage = s.sage := rfl
@[simp] theorem setVf_tel (v : Nat) (x : Vf) (s : State) : (setVf v x s).tel = s.tel := rfl
@[simp] theorem setVf_move (v : Nat) (x : Vf) (s : State) : (setVf v x s).move = s.move := rfl
@[simp] theorem setVf_sched (v : Nat) (x : Vf) (s : State) : (setVf v x s).sched = s.sched := rfl
@[simp] theorem setVf_obl (v : Nat) (x : Vf) (s : State) : (setVf v x s).obl = s.obl := rfl
@[simp] theorem setVf_stw (v : Nat) (x : Vf) (s : State) : (setVf v x s).stw = s.stw := rfl
@[simp] theorem setVf_evt (v : Nat) (x : Vf) (s : State) : (setVf v x s).evt = s.evt := rfl
@[simp] theorem setVf_slot (v : Nat) (x : Vf) (s : State) : (setVf v x s).slot = s.slot := rfl
@[simp] theorem setVf_flt (v : Nat) (x : Vf) (s : State) : (setVf v x s).flt = s.flt := rfl
@[simp] theorem setVf_time (v : Nat) (x : Vf) (s : State) : (setVf v x s).time = s.time := rfl
@[simp] theorem setVf_sec (v : Nat) (x : Vf) (s : State) : (setVf v x s).sec = s.sec := rfl
@[simp] theorem setVf_pwr (v : Nat) (x : Vf) (s : State) : (setVf v x s).pwr = s.pwr := rfl

/-! setHost -/
@[simp] theorem setHost_pending (h : Nat) (x : HostSpace) (s : State) : (setHost h x s).pending = s.pending := rfl
@[simp] theorem setHost_out (h : Nat) (x : HostSpace) (s : State) : (setHost h x s).out = s.out := rfl
@[simp] theorem setHost_free (h : Nat) (x : HostSpace) (s : State) : (setHost h x s).free = s.free := rfl
@[simp] theorem setHost_glb (h : Nat) (x : HostSpace) (s : State) : (setHost h x s).glb = s.glb := rfl
@[simp] theorem setHost_cmd (h : Nat) (x : HostSpace) (s : State) : (setHost h x s).cmd = s.cmd := rfl
@[simp] theorem setHost_host (h : Nat) (x : HostSpace) (s : State) : (setHost h x s).host = s.host := rfl
@[simp] theorem setHost_port (h : Nat) (x : HostSpace) (s : State) : (setHost h x s).port = s.port := rfl
@[simp] theorem setHost_gh (h : Nat) (x : HostSpace) (s : State) : (setHost h x s).gh = s.gh := rfl
@[simp] theorem setHost_cap (h : Nat) (x : HostSpace) (s : State) : (setHost h x s).cap = s.cap := rfl
@[simp] theorem setHost_dir (h : Nat) (x : HostSpace) (s : State) : (setHost h x s).dir = s.dir := rfl
@[simp] theorem setHost_sage (h : Nat) (x : HostSpace) (s : State) : (setHost h x s).sage = s.sage := rfl
@[simp] theorem setHost_tel (h : Nat) (x : HostSpace) (s : State) : (setHost h x s).tel = s.tel := rfl
@[simp] theorem setHost_move (h : Nat) (x : HostSpace) (s : State) : (setHost h x s).move = s.move := rfl
@[simp] theorem setHost_sched (h : Nat) (x : HostSpace) (s : State) : (setHost h x s).sched = s.sched := rfl
@[simp] theorem setHost_obl (h : Nat) (x : HostSpace) (s : State) : (setHost h x s).obl = s.obl := rfl
@[simp] theorem setHost_stw (h : Nat) (x : HostSpace) (s : State) : (setHost h x s).stw = s.stw := rfl
@[simp] theorem setHost_vf (h : Nat) (x : HostSpace) (s : State) : (setHost h x s).vf = s.vf := rfl
@[simp] theorem setHost_evt (h : Nat) (x : HostSpace) (s : State) : (setHost h x s).evt = s.evt := rfl
@[simp] theorem setHost_slot (h : Nat) (x : HostSpace) (s : State) : (setHost h x s).slot = s.slot := rfl
@[simp] theorem setHost_flt (h : Nat) (x : HostSpace) (s : State) : (setHost h x s).flt = s.flt := rfl
@[simp] theorem setHost_time (h : Nat) (x : HostSpace) (s : State) : (setHost h x s).time = s.time := rfl
@[simp] theorem setHost_sec (h : Nat) (x : HostSpace) (s : State) : (setHost h x s).sec = s.sec := rfl
@[simp] theorem setHost_pwr (h : Nat) (x : HostSpace) (s : State) : (setHost h x s).pwr = s.pwr := rfl

/-! setLink -/
@[simp] theorem setLink_pending (l : Nat) (x : Link) (s : State) : (setLink l x s).pending = s.pending := rfl
@[simp] theorem setLink_out (l : Nat) (x : Link) (s : State) : (setLink l x s).out = s.out := rfl
@[simp] theorem setLink_free (l : Nat) (x : Link) (s : State) : (setLink l x s).free = s.free := rfl
@[simp] theorem setLink_glb (l : Nat) (x : Link) (s : State) : (setLink l x s).glb = s.glb := rfl
@[simp] theorem setLink_cmd (l : Nat) (x : Link) (s : State) : (setLink l x s).cmd = s.cmd := rfl
@[simp] theorem setLink_host (l : Nat) (x : Link) (s : State) : (setLink l x s).host = s.host := rfl
@[simp] theorem setLink_port (l : Nat) (x : Link) (s : State) : (setLink l x s).port = s.port := rfl
@[simp] theorem setLink_gh (l : Nat) (x : Link) (s : State) : (setLink l x s).gh = s.gh := rfl
@[simp] theorem setLink_cap (l : Nat) (x : Link) (s : State) : (setLink l x s).cap = s.cap := rfl
@[simp] theorem setLink_win (l : Nat) (x : Link) (s : State) : (setLink l x s).win = s.win := rfl
@[simp] theorem setLink_dir (l : Nat) (x : Link) (s : State) : (setLink l x s).dir = s.dir := rfl
@[simp] theorem setLink_sage (l : Nat) (x : Link) (s : State) : (setLink l x s).sage = s.sage := rfl
@[simp] theorem setLink_tel (l : Nat) (x : Link) (s : State) : (setLink l x s).tel = s.tel := rfl
@[simp] theorem setLink_move (l : Nat) (x : Link) (s : State) : (setLink l x s).move = s.move := rfl
@[simp] theorem setLink_sched (l : Nat) (x : Link) (s : State) : (setLink l x s).sched = s.sched := rfl
@[simp] theorem setLink_stw (l : Nat) (x : Link) (s : State) : (setLink l x s).stw = s.stw := rfl
@[simp] theorem setLink_vf (l : Nat) (x : Link) (s : State) : (setLink l x s).vf = s.vf := rfl
@[simp] theorem setLink_evt (l : Nat) (x : Link) (s : State) : (setLink l x s).evt = s.evt := rfl
@[simp] theorem setLink_slot (l : Nat) (x : Link) (s : State) : (setLink l x s).slot = s.slot := rfl
@[simp] theorem setLink_flt (l : Nat) (x : Link) (s : State) : (setLink l x s).flt = s.flt := rfl
@[simp] theorem setLink_time (l : Nat) (x : Link) (s : State) : (setLink l x s).time = s.time := rfl
@[simp] theorem setLink_sec (l : Nat) (x : Link) (s : State) : (setLink l x s).sec = s.sec := rfl
@[simp] theorem setLink_pwr (l : Nat) (x : Link) (s : State) : (setLink l x s).pwr = s.pwr := rfl

/-! setStw -/
@[simp] theorem setStw_pending (l : Nat) (x : StwLink) (s : State) : (setStw l x s).pending = s.pending := rfl
@[simp] theorem setStw_out (l : Nat) (x : StwLink) (s : State) : (setStw l x s).out = s.out := rfl
@[simp] theorem setStw_free (l : Nat) (x : StwLink) (s : State) : (setStw l x s).free = s.free := rfl
@[simp] theorem setStw_glb (l : Nat) (x : StwLink) (s : State) : (setStw l x s).glb = s.glb := rfl
@[simp] theorem setStw_cmd (l : Nat) (x : StwLink) (s : State) : (setStw l x s).cmd = s.cmd := rfl
@[simp] theorem setStw_host (l : Nat) (x : StwLink) (s : State) : (setStw l x s).host = s.host := rfl
@[simp] theorem setStw_port (l : Nat) (x : StwLink) (s : State) : (setStw l x s).port = s.port := rfl
@[simp] theorem setStw_gh (l : Nat) (x : StwLink) (s : State) : (setStw l x s).gh = s.gh := rfl
@[simp] theorem setStw_cap (l : Nat) (x : StwLink) (s : State) : (setStw l x s).cap = s.cap := rfl
@[simp] theorem setStw_win (l : Nat) (x : StwLink) (s : State) : (setStw l x s).win = s.win := rfl
@[simp] theorem setStw_dir (l : Nat) (x : StwLink) (s : State) : (setStw l x s).dir = s.dir := rfl
@[simp] theorem setStw_sage (l : Nat) (x : StwLink) (s : State) : (setStw l x s).sage = s.sage := rfl
@[simp] theorem setStw_tel (l : Nat) (x : StwLink) (s : State) : (setStw l x s).tel = s.tel := rfl
@[simp] theorem setStw_move (l : Nat) (x : StwLink) (s : State) : (setStw l x s).move = s.move := rfl
@[simp] theorem setStw_sched (l : Nat) (x : StwLink) (s : State) : (setStw l x s).sched = s.sched := rfl
@[simp] theorem setStw_obl (l : Nat) (x : StwLink) (s : State) : (setStw l x s).obl = s.obl := rfl
@[simp] theorem setStw_vf (l : Nat) (x : StwLink) (s : State) : (setStw l x s).vf = s.vf := rfl
@[simp] theorem setStw_evt (l : Nat) (x : StwLink) (s : State) : (setStw l x s).evt = s.evt := rfl
@[simp] theorem setStw_slot (l : Nat) (x : StwLink) (s : State) : (setStw l x s).slot = s.slot := rfl
@[simp] theorem setStw_flt (l : Nat) (x : StwLink) (s : State) : (setStw l x s).flt = s.flt := rfl
@[simp] theorem setStw_time (l : Nat) (x : StwLink) (s : State) : (setStw l x s).time = s.time := rfl
@[simp] theorem setStw_sec (l : Nat) (x : StwLink) (s : State) : (setStw l x s).sec = s.sec := rfl
@[simp] theorem setStw_pwr (l : Nat) (x : StwLink) (s : State) : (setStw l x s).pwr = s.pwr := rfl

/-! setSlot -/
@[simp] theorem setSlot_pending (k : Nat) (x : SageSlot) (s : State) : (setSlot k x s).pending = s.pending := rfl
@[simp] theorem setSlot_out (k : Nat) (x : SageSlot) (s : State) : (setSlot k x s).out = s.out := rfl
@[simp] theorem setSlot_free (k : Nat) (x : SageSlot) (s : State) : (setSlot k x s).free = s.free := rfl
@[simp] theorem setSlot_glb (k : Nat) (x : SageSlot) (s : State) : (setSlot k x s).glb = s.glb := rfl
@[simp] theorem setSlot_cmd (k : Nat) (x : SageSlot) (s : State) : (setSlot k x s).cmd = s.cmd := rfl
@[simp] theorem setSlot_host (k : Nat) (x : SageSlot) (s : State) : (setSlot k x s).host = s.host := rfl
@[simp] theorem setSlot_port (k : Nat) (x : SageSlot) (s : State) : (setSlot k x s).port = s.port := rfl
@[simp] theorem setSlot_gh (k : Nat) (x : SageSlot) (s : State) : (setSlot k x s).gh = s.gh := rfl
@[simp] theorem setSlot_cap (k : Nat) (x : SageSlot) (s : State) : (setSlot k x s).cap = s.cap := rfl
@[simp] theorem setSlot_win (k : Nat) (x : SageSlot) (s : State) : (setSlot k x s).win = s.win := rfl
@[simp] theorem setSlot_dir (k : Nat) (x : SageSlot) (s : State) : (setSlot k x s).dir = s.dir := rfl
@[simp] theorem setSlot_tel (k : Nat) (x : SageSlot) (s : State) : (setSlot k x s).tel = s.tel := rfl
@[simp] theorem setSlot_move (k : Nat) (x : SageSlot) (s : State) : (setSlot k x s).move = s.move := rfl
@[simp] theorem setSlot_sched (k : Nat) (x : SageSlot) (s : State) : (setSlot k x s).sched = s.sched := rfl
@[simp] theorem setSlot_obl (k : Nat) (x : SageSlot) (s : State) : (setSlot k x s).obl = s.obl := rfl
@[simp] theorem setSlot_stw (k : Nat) (x : SageSlot) (s : State) : (setSlot k x s).stw = s.stw := rfl
@[simp] theorem setSlot_vf (k : Nat) (x : SageSlot) (s : State) : (setSlot k x s).vf = s.vf := rfl
@[simp] theorem setSlot_evt (k : Nat) (x : SageSlot) (s : State) : (setSlot k x s).evt = s.evt := rfl
@[simp] theorem setSlot_slot (k : Nat) (x : SageSlot) (s : State) : (setSlot k x s).slot = s.slot := rfl
@[simp] theorem setSlot_flt (k : Nat) (x : SageSlot) (s : State) : (setSlot k x s).flt = s.flt := rfl
@[simp] theorem setSlot_time (k : Nat) (x : SageSlot) (s : State) : (setSlot k x s).time = s.time := rfl
@[simp] theorem setSlot_sec (k : Nat) (x : SageSlot) (s : State) : (setSlot k x s).sec = s.sec := rfl
@[simp] theorem setSlot_pwr (k : Nat) (x : SageSlot) (s : State) : (setSlot k x s).pwr = s.pwr := rfl

/-! setChan -/
@[simp] theorem setChan_pending (c : Nat) (x : Channel) (s : State) : (setChan c x s).pending = s.pending := rfl
@[simp] theorem setChan_out (c : Nat) (x : Channel) (s : State) : (setChan c x s).out = s.out := rfl
@[simp] theorem setChan_free (c : Nat) (x : Channel) (s : State) : (setChan c x s).free = s.free := rfl
@[simp] theorem setChan_glb (c : Nat) (x : Channel) (s : State) : (setChan c x s).glb = s.glb := rfl
@[simp] theorem setChan_cmd (c : Nat) (x : Channel) (s : State) : (setChan c x s).cmd = s.cmd := rfl
@[simp] theorem setChan_host (c : Nat) (x : Channel) (s : State) : (setChan c x s).host = s.host := rfl
@[simp] theorem setChan_port (c : Nat) (x : Channel) (s : State) : (setChan c x s).port = s.port := rfl
@[simp] theorem setChan_gh (c : Nat) (x : Channel) (s : State) : (setChan c x s).gh = s.gh := rfl
@[simp] theorem setChan_cap (c : Nat) (x : Channel) (s : State) : (setChan c x s).cap = s.cap := rfl
@[simp] theorem setChan_win (c : Nat) (x : Channel) (s : State) : (setChan c x s).win = s.win := rfl
@[simp] theorem setChan_dir (c : Nat) (x : Channel) (s : State) : (setChan c x s).dir = s.dir := rfl
@[simp] theorem setChan_sage (c : Nat) (x : Channel) (s : State) : (setChan c x s).sage = s.sage := rfl
@[simp] theorem setChan_tel (c : Nat) (x : Channel) (s : State) : (setChan c x s).tel = s.tel := rfl
@[simp] theorem setChan_move (c : Nat) (x : Channel) (s : State) : (setChan c x s).move = s.move := rfl
@[simp] theorem setChan_sched (c : Nat) (x : Channel) (s : State) : (setChan c x s).sched = s.sched := rfl
@[simp] theorem setChan_obl (c : Nat) (x : Channel) (s : State) : (setChan c x s).obl = s.obl := rfl
@[simp] theorem setChan_stw (c : Nat) (x : Channel) (s : State) : (setChan c x s).stw = s.stw := rfl
@[simp] theorem setChan_vf (c : Nat) (x : Channel) (s : State) : (setChan c x s).vf = s.vf := rfl
@[simp] theorem setChan_evt (c : Nat) (x : Channel) (s : State) : (setChan c x s).evt = s.evt := rfl
@[simp] theorem setChan_flt (c : Nat) (x : Channel) (s : State) : (setChan c x s).flt = s.flt := rfl
@[simp] theorem setChan_time (c : Nat) (x : Channel) (s : State) : (setChan c x s).time = s.time := rfl
@[simp] theorem setChan_sec (c : Nat) (x : Channel) (s : State) : (setChan c x s).sec = s.sec := rfl
@[simp] theorem setChan_pwr (c : Nat) (x : Channel) (s : State) : (setChan c x s).pwr = s.pwr := rfl

/-! setMover -/
@[simp] theorem setMover_pending (m : Nat) (x : Mover) (s : State) : (setMover m x s).pending = s.pending := rfl
@[simp] theorem setMover_out (m : Nat) (x : Mover) (s : State) : (setMover m x s).out = s.out := rfl
@[simp] theorem setMover_free (m : Nat) (x : Mover) (s : State) : (setMover m x s).free = s.free := rfl
@[simp] theorem setMover_glb (m : Nat) (x : Mover) (s : State) : (setMover m x s).glb = s.glb := rfl
@[simp] theorem setMover_cmd (m : Nat) (x : Mover) (s : State) : (setMover m x s).cmd = s.cmd := rfl
@[simp] theorem setMover_host (m : Nat) (x : Mover) (s : State) : (setMover m x s).host = s.host := rfl
@[simp] theorem setMover_port (m : Nat) (x : Mover) (s : State) : (setMover m x s).port = s.port := rfl
@[simp] theorem setMover_gh (m : Nat) (x : Mover) (s : State) : (setMover m x s).gh = s.gh := rfl
@[simp] theorem setMover_cap (m : Nat) (x : Mover) (s : State) : (setMover m x s).cap = s.cap := rfl
@[simp] theorem setMover_win (m : Nat) (x : Mover) (s : State) : (setMover m x s).win = s.win := rfl
@[simp] theorem setMover_dir (m : Nat) (x : Mover) (s : State) : (setMover m x s).dir = s.dir := rfl
@[simp] theorem setMover_sage (m : Nat) (x : Mover) (s : State) : (setMover m x s).sage = s.sage := rfl
@[simp] theorem setMover_tel (m : Nat) (x : Mover) (s : State) : (setMover m x s).tel = s.tel := rfl
@[simp] theorem setMover_sched (m : Nat) (x : Mover) (s : State) : (setMover m x s).sched = s.sched := rfl
@[simp] theorem setMover_obl (m : Nat) (x : Mover) (s : State) : (setMover m x s).obl = s.obl := rfl
@[simp] theorem setMover_stw (m : Nat) (x : Mover) (s : State) : (setMover m x s).stw = s.stw := rfl
@[simp] theorem setMover_vf (m : Nat) (x : Mover) (s : State) : (setMover m x s).vf = s.vf := rfl
@[simp] theorem setMover_evt (m : Nat) (x : Mover) (s : State) : (setMover m x s).evt = s.evt := rfl
@[simp] theorem setMover_slot (m : Nat) (x : Mover) (s : State) : (setMover m x s).slot = s.slot := rfl
@[simp] theorem setMover_flt (m : Nat) (x : Mover) (s : State) : (setMover m x s).flt = s.flt := rfl
@[simp] theorem setMover_time (m : Nat) (x : Mover) (s : State) : (setMover m x s).time = s.time := rfl
@[simp] theorem setMover_sec (m : Nat) (x : Mover) (s : State) : (setMover m x s).sec = s.sec := rfl
@[simp] theorem setMover_pwr (m : Nat) (x : Mover) (s : State) : (setMover m x s).pwr = s.pwr := rfl

/-! setClass -/
@[simp] theorem setClass_pending (c : Nat) (x : MoveClass) (s : State) : (setClass c x s).pending = s.pending := rfl
@[simp] theorem setClass_out (c : Nat) (x : MoveClass) (s : State) : (setClass c x s).out = s.out := rfl
@[simp] theorem setClass_free (c : Nat) (x : MoveClass) (s : State) : (setClass c x s).free = s.free := rfl
@[simp] theorem setClass_glb (c : Nat) (x : MoveClass) (s : State) : (setClass c x s).glb = s.glb := rfl
@[simp] theorem setClass_cmd (c : Nat) (x : MoveClass) (s : State) : (setClass c x s).cmd = s.cmd := rfl
@[simp] theorem setClass_host (c : Nat) (x : MoveClass) (s : State) : (setClass c x s).host = s.host := rfl
@[simp] theorem setClass_port (c : Nat) (x : MoveClass) (s : State) : (setClass c x s).port = s.port := rfl
@[simp] theorem setClass_gh (c : Nat) (x : MoveClass) (s : State) : (setClass c x s).gh = s.gh := rfl
@[simp] theorem setClass_cap (c : Nat) (x : MoveClass) (s : State) : (setClass c x s).cap = s.cap := rfl
@[simp] theorem setClass_win (c : Nat) (x : MoveClass) (s : State) : (setClass c x s).win = s.win := rfl
@[simp] theorem setClass_dir (c : Nat) (x : MoveClass) (s : State) : (setClass c x s).dir = s.dir := rfl
@[simp] theorem setClass_sage (c : Nat) (x : MoveClass) (s : State) : (setClass c x s).sage = s.sage := rfl
@[simp] theorem setClass_tel (c : Nat) (x : MoveClass) (s : State) : (setClass c x s).tel = s.tel := rfl
@[simp] theorem setClass_sched (c : Nat) (x : MoveClass) (s : State) : (setClass c x s).sched = s.sched := rfl
@[simp] theorem setClass_obl (c : Nat) (x : MoveClass) (s : State) : (setClass c x s).obl = s.obl := rfl
@[simp] theorem setClass_stw (c : Nat) (x : MoveClass) (s : State) : (setClass c x s).stw = s.stw := rfl
@[simp] theorem setClass_vf (c : Nat) (x : MoveClass) (s : State) : (setClass c x s).vf = s.vf := rfl
@[simp] theorem setClass_evt (c : Nat) (x : MoveClass) (s : State) : (setClass c x s).evt = s.evt := rfl
@[simp] theorem setClass_slot (c : Nat) (x : MoveClass) (s : State) : (setClass c x s).slot = s.slot := rfl
@[simp] theorem setClass_flt (c : Nat) (x : MoveClass) (s : State) : (setClass c x s).flt = s.flt := rfl
@[simp] theorem setClass_time (c : Nat) (x : MoveClass) (s : State) : (setClass c x s).time = s.time := rfl
@[simp] theorem setClass_sec (c : Nat) (x : MoveClass) (s : State) : (setClass c x s).sec = s.sec := rfl
@[simp] theorem setClass_pwr (c : Nat) (x : MoveClass) (s : State) : (setClass c x s).pwr = s.pwr := rfl

/-! setMig -/
@[simp] theorem setMig_pending (k : Nat) (x : Option Migration) (s : State) : (setMig k x s).pending = s.pending := rfl
@[simp] theorem setMig_out (k : Nat) (x : Option Migration) (s : State) : (setMig k x s).out = s.out := rfl
@[simp] theorem setMig_free (k : Nat) (x : Option Migration) (s : State) : (setMig k x s).free = s.free := rfl
@[simp] theorem setMig_glb (k : Nat) (x : Option Migration) (s : State) : (setMig k x s).glb = s.glb := rfl
@[simp] theorem setMig_cmd (k : Nat) (x : Option Migration) (s : State) : (setMig k x s).cmd = s.cmd := rfl
@[simp] theorem setMig_host (k : Nat) (x : Option Migration) (s : State) : (setMig k x s).host = s.host := rfl
@[simp] theorem setMig_port (k : Nat) (x : Option Migration) (s : State) : (setMig k x s).port = s.port := rfl
@[simp] theorem setMig_gh (k : Nat) (x : Option Migration) (s : State) : (setMig k x s).gh = s.gh := rfl
@[simp] theorem setMig_cap (k : Nat) (x : Option Migration) (s : State) : (setMig k x s).cap = s.cap := rfl
@[simp] theorem setMig_win (k : Nat) (x : Option Migration) (s : State) : (setMig k x s).win = s.win := rfl
@[simp] theorem setMig_dir (k : Nat) (x : Option Migration) (s : State) : (setMig k x s).dir = s.dir := rfl
@[simp] theorem setMig_sage (k : Nat) (x : Option Migration) (s : State) : (setMig k x s).sage = s.sage := rfl
@[simp] theorem setMig_tel (k : Nat) (x : Option Migration) (s : State) : (setMig k x s).tel = s.tel := rfl
@[simp] theorem setMig_sched (k : Nat) (x : Option Migration) (s : State) : (setMig k x s).sched = s.sched := rfl
@[simp] theorem setMig_obl (k : Nat) (x : Option Migration) (s : State) : (setMig k x s).obl = s.obl := rfl
@[simp] theorem setMig_stw (k : Nat) (x : Option Migration) (s : State) : (setMig k x s).stw = s.stw := rfl
@[simp] theorem setMig_vf (k : Nat) (x : Option Migration) (s : State) : (setMig k x s).vf = s.vf := rfl
@[simp] theorem setMig_evt (k : Nat) (x : Option Migration) (s : State) : (setMig k x s).evt = s.evt := rfl
@[simp] theorem setMig_slot (k : Nat) (x : Option Migration) (s : State) : (setMig k x s).slot = s.slot := rfl
@[simp] theorem setMig_flt (k : Nat) (x : Option Migration) (s : State) : (setMig k x s).flt = s.flt := rfl
@[simp] theorem setMig_time (k : Nat) (x : Option Migration) (s : State) : (setMig k x s).time = s.time := rfl
@[simp] theorem setMig_sec (k : Nat) (x : Option Migration) (s : State) : (setMig k x s).sec = s.sec := rfl
@[simp] theorem setMig_pwr (k : Nat) (x : Option Migration) (s : State) : (setMig k x s).pwr = s.pwr := rfl

/-! setEgress -/
@[simp] theorem setEgress_pending (e : Nat) (x : Egress) (s : State) : (setEgress e x s).pending = s.pending := rfl
@[simp] theorem setEgress_out (e : Nat) (x : Egress) (s : State) : (setEgress e x s).out = s.out := rfl
@[simp] theorem setEgress_free (e : Nat) (x : Egress) (s : State) : (setEgress e x s).free = s.free := rfl
@[simp] theorem setEgress_glb (e : Nat) (x : Egress) (s : State) : (setEgress e x s).glb = s.glb := rfl
@[simp] theorem setEgress_cmd (e : Nat) (x : Egress) (s : State) : (setEgress e x s).cmd = s.cmd := rfl
@[simp] theorem setEgress_host (e : Nat) (x : Egress) (s : State) : (setEgress e x s).host = s.host := rfl
@[simp] theorem setEgress_port (e : Nat) (x : Egress) (s : State) : (setEgress e x s).port = s.port := rfl
@[simp] theorem setEgress_gh (e : Nat) (x : Egress) (s : State) : (setEgress e x s).gh = s.gh := rfl
@[simp] theorem setEgress_cap (e : Nat) (x : Egress) (s : State) : (setEgress e x s).cap = s.cap := rfl
@[simp] theorem setEgress_win (e : Nat) (x : Egress) (s : State) : (setEgress e x s).win = s.win := rfl
@[simp] theorem setEgress_dir (e : Nat) (x : Egress) (s : State) : (setEgress e x s).dir = s.dir := rfl
@[simp] theorem setEgress_sage (e : Nat) (x : Egress) (s : State) : (setEgress e x s).sage = s.sage := rfl
@[simp] theorem setEgress_tel (e : Nat) (x : Egress) (s : State) : (setEgress e x s).tel = s.tel := rfl
@[simp] theorem setEgress_move (e : Nat) (x : Egress) (s : State) : (setEgress e x s).move = s.move := rfl
@[simp] theorem setEgress_obl (e : Nat) (x : Egress) (s : State) : (setEgress e x s).obl = s.obl := rfl
@[simp] theorem setEgress_stw (e : Nat) (x : Egress) (s : State) : (setEgress e x s).stw = s.stw := rfl
@[simp] theorem setEgress_vf (e : Nat) (x : Egress) (s : State) : (setEgress e x s).vf = s.vf := rfl
@[simp] theorem setEgress_evt (e : Nat) (x : Egress) (s : State) : (setEgress e x s).evt = s.evt := rfl
@[simp] theorem setEgress_slot (e : Nat) (x : Egress) (s : State) : (setEgress e x s).slot = s.slot := rfl
@[simp] theorem setEgress_flt (e : Nat) (x : Egress) (s : State) : (setEgress e x s).flt = s.flt := rfl
@[simp] theorem setEgress_time (e : Nat) (x : Egress) (s : State) : (setEgress e x s).time = s.time := rfl
@[simp] theorem setEgress_sec (e : Nat) (x : Egress) (s : State) : (setEgress e x s).sec = s.sec := rfl
@[simp] theorem setEgress_pwr (e : Nat) (x : Egress) (s : State) : (setEgress e x s).pwr = s.pwr := rfl

/-! setSchedQ -/
@[simp] theorem setSchedQ_pending (q : Nat) (x : SchedQ) (s : State) : (setSchedQ q x s).pending = s.pending := rfl
@[simp] theorem setSchedQ_out (q : Nat) (x : SchedQ) (s : State) : (setSchedQ q x s).out = s.out := rfl
@[simp] theorem setSchedQ_free (q : Nat) (x : SchedQ) (s : State) : (setSchedQ q x s).free = s.free := rfl
@[simp] theorem setSchedQ_glb (q : Nat) (x : SchedQ) (s : State) : (setSchedQ q x s).glb = s.glb := rfl
@[simp] theorem setSchedQ_cmd (q : Nat) (x : SchedQ) (s : State) : (setSchedQ q x s).cmd = s.cmd := rfl
@[simp] theorem setSchedQ_host (q : Nat) (x : SchedQ) (s : State) : (setSchedQ q x s).host = s.host := rfl
@[simp] theorem setSchedQ_port (q : Nat) (x : SchedQ) (s : State) : (setSchedQ q x s).port = s.port := rfl
@[simp] theorem setSchedQ_gh (q : Nat) (x : SchedQ) (s : State) : (setSchedQ q x s).gh = s.gh := rfl
@[simp] theorem setSchedQ_cap (q : Nat) (x : SchedQ) (s : State) : (setSchedQ q x s).cap = s.cap := rfl
@[simp] theorem setSchedQ_win (q : Nat) (x : SchedQ) (s : State) : (setSchedQ q x s).win = s.win := rfl
@[simp] theorem setSchedQ_dir (q : Nat) (x : SchedQ) (s : State) : (setSchedQ q x s).dir = s.dir := rfl
@[simp] theorem setSchedQ_sage (q : Nat) (x : SchedQ) (s : State) : (setSchedQ q x s).sage = s.sage := rfl
@[simp] theorem setSchedQ_tel (q : Nat) (x : SchedQ) (s : State) : (setSchedQ q x s).tel = s.tel := rfl
@[simp] theorem setSchedQ_move (q : Nat) (x : SchedQ) (s : State) : (setSchedQ q x s).move = s.move := rfl
@[simp] theorem setSchedQ_obl (q : Nat) (x : SchedQ) (s : State) : (setSchedQ q x s).obl = s.obl := rfl
@[simp] theorem setSchedQ_stw (q : Nat) (x : SchedQ) (s : State) : (setSchedQ q x s).stw = s.stw := rfl
@[simp] theorem setSchedQ_vf (q : Nat) (x : SchedQ) (s : State) : (setSchedQ q x s).vf = s.vf := rfl
@[simp] theorem setSchedQ_evt (q : Nat) (x : SchedQ) (s : State) : (setSchedQ q x s).evt = s.evt := rfl
@[simp] theorem setSchedQ_slot (q : Nat) (x : SchedQ) (s : State) : (setSchedQ q x s).slot = s.slot := rfl
@[simp] theorem setSchedQ_flt (q : Nat) (x : SchedQ) (s : State) : (setSchedQ q x s).flt = s.flt := rfl
@[simp] theorem setSchedQ_time (q : Nat) (x : SchedQ) (s : State) : (setSchedQ q x s).time = s.time := rfl
@[simp] theorem setSchedQ_sec (q : Nat) (x : SchedQ) (s : State) : (setSchedQ q x s).sec = s.sec := rfl
@[simp] theorem setSchedQ_pwr (q : Nat) (x : SchedQ) (s : State) : (setSchedQ q x s).pwr = s.pwr := rfl

/-! setPolicer -/
@[simp] theorem setPolicer_pending (p : Nat) (x : PolicerReg) (s : State) : (setPolicer p x s).pending = s.pending := rfl
@[simp] theorem setPolicer_out (p : Nat) (x : PolicerReg) (s : State) : (setPolicer p x s).out = s.out := rfl
@[simp] theorem setPolicer_free (p : Nat) (x : PolicerReg) (s : State) : (setPolicer p x s).free = s.free := rfl
@[simp] theorem setPolicer_glb (p : Nat) (x : PolicerReg) (s : State) : (setPolicer p x s).glb = s.glb := rfl
@[simp] theorem setPolicer_cmd (p : Nat) (x : PolicerReg) (s : State) : (setPolicer p x s).cmd = s.cmd := rfl
@[simp] theorem setPolicer_host (p : Nat) (x : PolicerReg) (s : State) : (setPolicer p x s).host = s.host := rfl
@[simp] theorem setPolicer_port (p : Nat) (x : PolicerReg) (s : State) : (setPolicer p x s).port = s.port := rfl
@[simp] theorem setPolicer_gh (p : Nat) (x : PolicerReg) (s : State) : (setPolicer p x s).gh = s.gh := rfl
@[simp] theorem setPolicer_cap (p : Nat) (x : PolicerReg) (s : State) : (setPolicer p x s).cap = s.cap := rfl
@[simp] theorem setPolicer_win (p : Nat) (x : PolicerReg) (s : State) : (setPolicer p x s).win = s.win := rfl
@[simp] theorem setPolicer_dir (p : Nat) (x : PolicerReg) (s : State) : (setPolicer p x s).dir = s.dir := rfl
@[simp] theorem setPolicer_sage (p : Nat) (x : PolicerReg) (s : State) : (setPolicer p x s).sage = s.sage := rfl
@[simp] theorem setPolicer_tel (p : Nat) (x : PolicerReg) (s : State) : (setPolicer p x s).tel = s.tel := rfl
@[simp] theorem setPolicer_move (p : Nat) (x : PolicerReg) (s : State) : (setPolicer p x s).move = s.move := rfl
@[simp] theorem setPolicer_obl (p : Nat) (x : PolicerReg) (s : State) : (setPolicer p x s).obl = s.obl := rfl
@[simp] theorem setPolicer_stw (p : Nat) (x : PolicerReg) (s : State) : (setPolicer p x s).stw = s.stw := rfl
@[simp] theorem setPolicer_vf (p : Nat) (x : PolicerReg) (s : State) : (setPolicer p x s).vf = s.vf := rfl
@[simp] theorem setPolicer_evt (p : Nat) (x : PolicerReg) (s : State) : (setPolicer p x s).evt = s.evt := rfl
@[simp] theorem setPolicer_slot (p : Nat) (x : PolicerReg) (s : State) : (setPolicer p x s).slot = s.slot := rfl
@[simp] theorem setPolicer_flt (p : Nat) (x : PolicerReg) (s : State) : (setPolicer p x s).flt = s.flt := rfl
@[simp] theorem setPolicer_time (p : Nat) (x : PolicerReg) (s : State) : (setPolicer p x s).time = s.time := rfl
@[simp] theorem setPolicer_sec (p : Nat) (x : PolicerReg) (s : State) : (setPolicer p x s).sec = s.sec := rfl
@[simp] theorem setPolicer_pwr (p : Nat) (x : PolicerReg) (s : State) : (setPolicer p x s).pwr = s.pwr := rfl

/-! setDomain -/
@[simp] theorem setDomain_pending (d : Nat) (x : Domain) (s : State) : (setDomain d x s).pending = s.pending := rfl
@[simp] theorem setDomain_out (d : Nat) (x : Domain) (s : State) : (setDomain d x s).out = s.out := rfl
@[simp] theorem setDomain_free (d : Nat) (x : Domain) (s : State) : (setDomain d x s).free = s.free := rfl
@[simp] theorem setDomain_glb (d : Nat) (x : Domain) (s : State) : (setDomain d x s).glb = s.glb := rfl
@[simp] theorem setDomain_cmd (d : Nat) (x : Domain) (s : State) : (setDomain d x s).cmd = s.cmd := rfl
@[simp] theorem setDomain_host (d : Nat) (x : Domain) (s : State) : (setDomain d x s).host = s.host := rfl
@[simp] theorem setDomain_port (d : Nat) (x : Domain) (s : State) : (setDomain d x s).port = s.port := rfl
@[simp] theorem setDomain_gh (d : Nat) (x : Domain) (s : State) : (setDomain d x s).gh = s.gh := rfl
@[simp] theorem setDomain_cap (d : Nat) (x : Domain) (s : State) : (setDomain d x s).cap = s.cap := rfl
@[simp] theorem setDomain_win (d : Nat) (x : Domain) (s : State) : (setDomain d x s).win = s.win := rfl
@[simp] theorem setDomain_sage (d : Nat) (x : Domain) (s : State) : (setDomain d x s).sage = s.sage := rfl
@[simp] theorem setDomain_tel (d : Nat) (x : Domain) (s : State) : (setDomain d x s).tel = s.tel := rfl
@[simp] theorem setDomain_move (d : Nat) (x : Domain) (s : State) : (setDomain d x s).move = s.move := rfl
@[simp] theorem setDomain_sched (d : Nat) (x : Domain) (s : State) : (setDomain d x s).sched = s.sched := rfl
@[simp] theorem setDomain_obl (d : Nat) (x : Domain) (s : State) : (setDomain d x s).obl = s.obl := rfl
@[simp] theorem setDomain_stw (d : Nat) (x : Domain) (s : State) : (setDomain d x s).stw = s.stw := rfl
@[simp] theorem setDomain_vf (d : Nat) (x : Domain) (s : State) : (setDomain d x s).vf = s.vf := rfl
@[simp] theorem setDomain_evt (d : Nat) (x : Domain) (s : State) : (setDomain d x s).evt = s.evt := rfl
@[simp] theorem setDomain_slot (d : Nat) (x : Domain) (s : State) : (setDomain d x s).slot = s.slot := rfl
@[simp] theorem setDomain_flt (d : Nat) (x : Domain) (s : State) : (setDomain d x s).flt = s.flt := rfl
@[simp] theorem setDomain_time (d : Nat) (x : Domain) (s : State) : (setDomain d x s).time = s.time := rfl
@[simp] theorem setDomain_sec (d : Nat) (x : Domain) (s : State) : (setDomain d x s).sec = s.sec := rfl
@[simp] theorem setDomain_pwr (d : Nat) (x : Domain) (s : State) : (setDomain d x s).pwr = s.pwr := rfl

/-! setLine -/
@[simp] theorem setLine_pending (a : Nat) (x : DirLine) (s : State) : (setLine a x s).pending = s.pending := rfl
@[simp] theorem setLine_out (a : Nat) (x : DirLine) (s : State) : (setLine a x s).out = s.out := rfl
@[simp] theorem setLine_free (a : Nat) (x : DirLine) (s : State) : (setLine a x s).free = s.free := rfl
@[simp] theorem setLine_glb (a : Nat) (x : DirLine) (s : State) : (setLine a x s).glb = s.glb := rfl
@[simp] theorem setLine_cmd (a : Nat) (x : DirLine) (s : State) : (setLine a x s).cmd = s.cmd := rfl
@[simp] theorem setLine_host (a : Nat) (x : DirLine) (s : State) : (setLine a x s).host = s.host := rfl
@[simp] theorem setLine_port (a : Nat) (x : DirLine) (s : State) : (setLine a x s).port = s.port := rfl
@[simp] theorem setLine_gh (a : Nat) (x : DirLine) (s : State) : (setLine a x s).gh = s.gh := rfl
@[simp] theorem setLine_cap (a : Nat) (x : DirLine) (s : State) : (setLine a x s).cap = s.cap := rfl
@[simp] theorem setLine_win (a : Nat) (x : DirLine) (s : State) : (setLine a x s).win = s.win := rfl
@[simp] theorem setLine_sage (a : Nat) (x : DirLine) (s : State) : (setLine a x s).sage = s.sage := rfl
@[simp] theorem setLine_tel (a : Nat) (x : DirLine) (s : State) : (setLine a x s).tel = s.tel := rfl
@[simp] theorem setLine_move (a : Nat) (x : DirLine) (s : State) : (setLine a x s).move = s.move := rfl
@[simp] theorem setLine_sched (a : Nat) (x : DirLine) (s : State) : (setLine a x s).sched = s.sched := rfl
@[simp] theorem setLine_obl (a : Nat) (x : DirLine) (s : State) : (setLine a x s).obl = s.obl := rfl
@[simp] theorem setLine_stw (a : Nat) (x : DirLine) (s : State) : (setLine a x s).stw = s.stw := rfl
@[simp] theorem setLine_vf (a : Nat) (x : DirLine) (s : State) : (setLine a x s).vf = s.vf := rfl
@[simp] theorem setLine_evt (a : Nat) (x : DirLine) (s : State) : (setLine a x s).evt = s.evt := rfl
@[simp] theorem setLine_slot (a : Nat) (x : DirLine) (s : State) : (setLine a x s).slot = s.slot := rfl
@[simp] theorem setLine_flt (a : Nat) (x : DirLine) (s : State) : (setLine a x s).flt = s.flt := rfl
@[simp] theorem setLine_time (a : Nat) (x : DirLine) (s : State) : (setLine a x s).time = s.time := rfl
@[simp] theorem setLine_sec (a : Nat) (x : DirLine) (s : State) : (setLine a x s).sec = s.sec := rfl
@[simp] theorem setLine_pwr (a : Nat) (x : DirLine) (s : State) : (setLine a x s).pwr = s.pwr := rfl

/-! setRouteEnt -/
@[simp] theorem setRouteEnt_pending (w : Nat) (x : RouteEnt) (s : State) : (setRouteEnt w x s).pending = s.pending := rfl
@[simp] theorem setRouteEnt_out (w : Nat) (x : RouteEnt) (s : State) : (setRouteEnt w x s).out = s.out := rfl
@[simp] theorem setRouteEnt_free (w : Nat) (x : RouteEnt) (s : State) : (setRouteEnt w x s).free = s.free := rfl
@[simp] theorem setRouteEnt_glb (w : Nat) (x : RouteEnt) (s : State) : (setRouteEnt w x s).glb = s.glb := rfl
@[simp] theorem setRouteEnt_cmd (w : Nat) (x : RouteEnt) (s : State) : (setRouteEnt w x s).cmd = s.cmd := rfl
@[simp] theorem setRouteEnt_host (w : Nat) (x : RouteEnt) (s : State) : (setRouteEnt w x s).host = s.host := rfl
@[simp] theorem setRouteEnt_port (w : Nat) (x : RouteEnt) (s : State) : (setRouteEnt w x s).port = s.port := rfl
@[simp] theorem setRouteEnt_gh (w : Nat) (x : RouteEnt) (s : State) : (setRouteEnt w x s).gh = s.gh := rfl
@[simp] theorem setRouteEnt_cap (w : Nat) (x : RouteEnt) (s : State) : (setRouteEnt w x s).cap = s.cap := rfl
@[simp] theorem setRouteEnt_win (w : Nat) (x : RouteEnt) (s : State) : (setRouteEnt w x s).win = s.win := rfl
@[simp] theorem setRouteEnt_dir (w : Nat) (x : RouteEnt) (s : State) : (setRouteEnt w x s).dir = s.dir := rfl
@[simp] theorem setRouteEnt_sage (w : Nat) (x : RouteEnt) (s : State) : (setRouteEnt w x s).sage = s.sage := rfl
@[simp] theorem setRouteEnt_tel (w : Nat) (x : RouteEnt) (s : State) : (setRouteEnt w x s).tel = s.tel := rfl
@[simp] theorem setRouteEnt_move (w : Nat) (x : RouteEnt) (s : State) : (setRouteEnt w x s).move = s.move := rfl
@[simp] theorem setRouteEnt_sched (w : Nat) (x : RouteEnt) (s : State) : (setRouteEnt w x s).sched = s.sched := rfl
@[simp] theorem setRouteEnt_stw (w : Nat) (x : RouteEnt) (s : State) : (setRouteEnt w x s).stw = s.stw := rfl
@[simp] theorem setRouteEnt_vf (w : Nat) (x : RouteEnt) (s : State) : (setRouteEnt w x s).vf = s.vf := rfl
@[simp] theorem setRouteEnt_evt (w : Nat) (x : RouteEnt) (s : State) : (setRouteEnt w x s).evt = s.evt := rfl
@[simp] theorem setRouteEnt_slot (w : Nat) (x : RouteEnt) (s : State) : (setRouteEnt w x s).slot = s.slot := rfl
@[simp] theorem setRouteEnt_flt (w : Nat) (x : RouteEnt) (s : State) : (setRouteEnt w x s).flt = s.flt := rfl
@[simp] theorem setRouteEnt_time (w : Nat) (x : RouteEnt) (s : State) : (setRouteEnt w x s).time = s.time := rfl
@[simp] theorem setRouteEnt_sec (w : Nat) (x : RouteEnt) (s : State) : (setRouteEnt w x s).sec = s.sec := rfl
@[simp] theorem setRouteEnt_pwr (w : Nat) (x : RouteEnt) (s : State) : (setRouteEnt w x s).pwr = s.pwr := rfl

/-! setVec -/
@[simp] theorem setVec_pending (v : Nat) (x : Coalescer) (s : State) : (setVec v x s).pending = s.pending := rfl
@[simp] theorem setVec_out (v : Nat) (x : Coalescer) (s : State) : (setVec v x s).out = s.out := rfl
@[simp] theorem setVec_free (v : Nat) (x : Coalescer) (s : State) : (setVec v x s).free = s.free := rfl
@[simp] theorem setVec_glb (v : Nat) (x : Coalescer) (s : State) : (setVec v x s).glb = s.glb := rfl
@[simp] theorem setVec_cmd (v : Nat) (x : Coalescer) (s : State) : (setVec v x s).cmd = s.cmd := rfl
@[simp] theorem setVec_host (v : Nat) (x : Coalescer) (s : State) : (setVec v x s).host = s.host := rfl
@[simp] theorem setVec_port (v : Nat) (x : Coalescer) (s : State) : (setVec v x s).port = s.port := rfl
@[simp] theorem setVec_gh (v : Nat) (x : Coalescer) (s : State) : (setVec v x s).gh = s.gh := rfl
@[simp] theorem setVec_cap (v : Nat) (x : Coalescer) (s : State) : (setVec v x s).cap = s.cap := rfl
@[simp] theorem setVec_win (v : Nat) (x : Coalescer) (s : State) : (setVec v x s).win = s.win := rfl
@[simp] theorem setVec_dir (v : Nat) (x : Coalescer) (s : State) : (setVec v x s).dir = s.dir := rfl
@[simp] theorem setVec_sage (v : Nat) (x : Coalescer) (s : State) : (setVec v x s).sage = s.sage := rfl
@[simp] theorem setVec_tel (v : Nat) (x : Coalescer) (s : State) : (setVec v x s).tel = s.tel := rfl
@[simp] theorem setVec_move (v : Nat) (x : Coalescer) (s : State) : (setVec v x s).move = s.move := rfl
@[simp] theorem setVec_sched (v : Nat) (x : Coalescer) (s : State) : (setVec v x s).sched = s.sched := rfl
@[simp] theorem setVec_obl (v : Nat) (x : Coalescer) (s : State) : (setVec v x s).obl = s.obl := rfl
@[simp] theorem setVec_stw (v : Nat) (x : Coalescer) (s : State) : (setVec v x s).stw = s.stw := rfl
@[simp] theorem setVec_vf (v : Nat) (x : Coalescer) (s : State) : (setVec v x s).vf = s.vf := rfl
@[simp] theorem setVec_slot (v : Nat) (x : Coalescer) (s : State) : (setVec v x s).slot = s.slot := rfl
@[simp] theorem setVec_flt (v : Nat) (x : Coalescer) (s : State) : (setVec v x s).flt = s.flt := rfl
@[simp] theorem setVec_time (v : Nat) (x : Coalescer) (s : State) : (setVec v x s).time = s.time := rfl
@[simp] theorem setVec_sec (v : Nat) (x : Coalescer) (s : State) : (setVec v x s).sec = s.sec := rfl
@[simp] theorem setVec_pwr (v : Nat) (x : Coalescer) (s : State) : (setVec v x s).pwr = s.pwr := rfl

/-! emit -/
@[simp] theorem emit_pending (o : Output) (s : State) : (emit o s).pending = s.pending := rfl
@[simp] theorem emit_free (o : Output) (s : State) : (emit o s).free = s.free := rfl
@[simp] theorem emit_glb (o : Output) (s : State) : (emit o s).glb = s.glb := rfl
@[simp] theorem emit_cmd (o : Output) (s : State) : (emit o s).cmd = s.cmd := rfl
@[simp] theorem emit_host (o : Output) (s : State) : (emit o s).host = s.host := rfl
@[simp] theorem emit_port (o : Output) (s : State) : (emit o s).port = s.port := rfl
@[simp] theorem emit_gh (o : Output) (s : State) : (emit o s).gh = s.gh := rfl
@[simp] theorem emit_cap (o : Output) (s : State) : (emit o s).cap = s.cap := rfl
@[simp] theorem emit_win (o : Output) (s : State) : (emit o s).win = s.win := rfl
@[simp] theorem emit_dir (o : Output) (s : State) : (emit o s).dir = s.dir := rfl
@[simp] theorem emit_sage (o : Output) (s : State) : (emit o s).sage = s.sage := rfl
@[simp] theorem emit_tel (o : Output) (s : State) : (emit o s).tel = s.tel := rfl
@[simp] theorem emit_move (o : Output) (s : State) : (emit o s).move = s.move := rfl
@[simp] theorem emit_sched (o : Output) (s : State) : (emit o s).sched = s.sched := rfl
@[simp] theorem emit_obl (o : Output) (s : State) : (emit o s).obl = s.obl := rfl
@[simp] theorem emit_stw (o : Output) (s : State) : (emit o s).stw = s.stw := rfl
@[simp] theorem emit_vf (o : Output) (s : State) : (emit o s).vf = s.vf := rfl
@[simp] theorem emit_evt (o : Output) (s : State) : (emit o s).evt = s.evt := rfl
@[simp] theorem emit_slot (o : Output) (s : State) : (emit o s).slot = s.slot := rfl
@[simp] theorem emit_flt (o : Output) (s : State) : (emit o s).flt = s.flt := rfl
@[simp] theorem emit_time (o : Output) (s : State) : (emit o s).time = s.time := rfl
@[simp] theorem emit_sec (o : Output) (s : State) : (emit o s).sec = s.sec := rfl
@[simp] theorem emit_pwr (o : Output) (s : State) : (emit o s).pwr = s.pwr := rfl

/-! setQueue -/
@[simp] theorem setQueue_pending (k : Nat) (x : List Txn) (s : State) : (setQueue k x s).pending = s.pending := rfl
@[simp] theorem setQueue_out (k : Nat) (x : List Txn) (s : State) : (setQueue k x s).out = s.out := rfl
@[simp] theorem setQueue_free (k : Nat) (x : List Txn) (s : State) : (setQueue k x s).free = s.free := rfl
@[simp] theorem setQueue_glb (k : Nat) (x : List Txn) (s : State) : (setQueue k x s).glb = s.glb := rfl
@[simp] theorem setQueue_cmd (k : Nat) (x : List Txn) (s : State) : (setQueue k x s).cmd = s.cmd := rfl
@[simp] theorem setQueue_host (k : Nat) (x : List Txn) (s : State) : (setQueue k x s).host = s.host := rfl
@[simp] theorem setQueue_port (k : Nat) (x : List Txn) (s : State) : (setQueue k x s).port = s.port := rfl
@[simp] theorem setQueue_cap (k : Nat) (x : List Txn) (s : State) : (setQueue k x s).cap = s.cap := rfl
@[simp] theorem setQueue_win (k : Nat) (x : List Txn) (s : State) : (setQueue k x s).win = s.win := rfl
@[simp] theorem setQueue_dir (k : Nat) (x : List Txn) (s : State) : (setQueue k x s).dir = s.dir := rfl
@[simp] theorem setQueue_sage (k : Nat) (x : List Txn) (s : State) : (setQueue k x s).sage = s.sage := rfl
@[simp] theorem setQueue_tel (k : Nat) (x : List Txn) (s : State) : (setQueue k x s).tel = s.tel := rfl
@[simp] theorem setQueue_move (k : Nat) (x : List Txn) (s : State) : (setQueue k x s).move = s.move := rfl
@[simp] theorem setQueue_sched (k : Nat) (x : List Txn) (s : State) : (setQueue k x s).sched = s.sched := rfl
@[simp] theorem setQueue_obl (k : Nat) (x : List Txn) (s : State) : (setQueue k x s).obl = s.obl := rfl
@[simp] theorem setQueue_stw (k : Nat) (x : List Txn) (s : State) : (setQueue k x s).stw = s.stw := rfl
@[simp] theorem setQueue_vf (k : Nat) (x : List Txn) (s : State) : (setQueue k x s).vf = s.vf := rfl
@[simp] theorem setQueue_evt (k : Nat) (x : List Txn) (s : State) : (setQueue k x s).evt = s.evt := rfl
@[simp] theorem setQueue_slot (k : Nat) (x : List Txn) (s : State) : (setQueue k x s).slot = s.slot := rfl
@[simp] theorem setQueue_flt (k : Nat) (x : List Txn) (s : State) : (setQueue k x s).flt = s.flt := rfl
@[simp] theorem setQueue_time (k : Nat) (x : List Txn) (s : State) : (setQueue k x s).time = s.time := rfl
@[simp] theorem setQueue_sec (k : Nat) (x : List Txn) (s : State) : (setQueue k x s).sec = s.sec := rfl
@[simp] theorem setQueue_pwr (k : Nat) (x : List Txn) (s : State) : (setQueue k x s).pwr = s.pwr := rfl

/-! setFilter -/
@[simp] theorem setFilter_pending (f : Nat) (x : CapFilter) (s : State) : (setFilter f x s).pending = s.pending := rfl
@[simp] theorem setFilter_out (f : Nat) (x : CapFilter) (s : State) : (setFilter f x s).out = s.out := rfl
@[simp] theorem setFilter_free (f : Nat) (x : CapFilter) (s : State) : (setFilter f x s).free = s.free := rfl
@[simp] theorem setFilter_glb (f : Nat) (x : CapFilter) (s : State) : (setFilter f x s).glb = s.glb := rfl
@[simp] theorem setFilter_cmd (f : Nat) (x : CapFilter) (s : State) : (setFilter f x s).cmd = s.cmd := rfl
@[simp] theorem setFilter_host (f : Nat) (x : CapFilter) (s : State) : (setFilter f x s).host = s.host := rfl
@[simp] theorem setFilter_port (f : Nat) (x : CapFilter) (s : State) : (setFilter f x s).port = s.port := rfl
@[simp] theorem setFilter_gh (f : Nat) (x : CapFilter) (s : State) : (setFilter f x s).gh = s.gh := rfl
@[simp] theorem setFilter_win (f : Nat) (x : CapFilter) (s : State) : (setFilter f x s).win = s.win := rfl
@[simp] theorem setFilter_dir (f : Nat) (x : CapFilter) (s : State) : (setFilter f x s).dir = s.dir := rfl
@[simp] theorem setFilter_sage (f : Nat) (x : CapFilter) (s : State) : (setFilter f x s).sage = s.sage := rfl
@[simp] theorem setFilter_tel (f : Nat) (x : CapFilter) (s : State) : (setFilter f x s).tel = s.tel := rfl
@[simp] theorem setFilter_move (f : Nat) (x : CapFilter) (s : State) : (setFilter f x s).move = s.move := rfl
@[simp] theorem setFilter_sched (f : Nat) (x : CapFilter) (s : State) : (setFilter f x s).sched = s.sched := rfl
@[simp] theorem setFilter_obl (f : Nat) (x : CapFilter) (s : State) : (setFilter f x s).obl = s.obl := rfl
@[simp] theorem setFilter_stw (f : Nat) (x : CapFilter) (s : State) : (setFilter f x s).stw = s.stw := rfl
@[simp] theorem setFilter_vf (f : Nat) (x : CapFilter) (s : State) : (setFilter f x s).vf = s.vf := rfl
@[simp] theorem setFilter_evt (f : Nat) (x : CapFilter) (s : State) : (setFilter f x s).evt = s.evt := rfl
@[simp] theorem setFilter_slot (f : Nat) (x : CapFilter) (s : State) : (setFilter f x s).slot = s.slot := rfl
@[simp] theorem setFilter_flt (f : Nat) (x : CapFilter) (s : State) : (setFilter f x s).flt = s.flt := rfl
@[simp] theorem setFilter_time (f : Nat) (x : CapFilter) (s : State) : (setFilter f x s).time = s.time := rfl
@[simp] theorem setFilter_sec (f : Nat) (x : CapFilter) (s : State) : (setFilter f x s).sec = s.sec := rfl
@[simp] theorem setFilter_pwr (f : Nat) (x : CapFilter) (s : State) : (setFilter f x s).pwr = s.pwr := rfl

/-! setChunk -/
@[simp] theorem setChunk_pending (n : Nat) (x : Option Chunk) (s : State) : (setChunk n x s).pending = s.pending := rfl
@[simp] theorem setChunk_out (n : Nat) (x : Option Chunk) (s : State) : (setChunk n x s).out = s.out := rfl
@[simp] theorem setChunk_free (n : Nat) (x : Option Chunk) (s : State) : (setChunk n x s).free = s.free := rfl
@[simp] theorem setChunk_glb (n : Nat) (x : Option Chunk) (s : State) : (setChunk n x s).glb = s.glb := rfl
@[simp] theorem setChunk_cmd (n : Nat) (x : Option Chunk) (s : State) : (setChunk n x s).cmd = s.cmd := rfl
@[simp] theorem setChunk_host (n : Nat) (x : Option Chunk) (s : State) : (setChunk n x s).host = s.host := rfl
@[simp] theorem setChunk_port (n : Nat) (x : Option Chunk) (s : State) : (setChunk n x s).port = s.port := rfl
@[simp] theorem setChunk_gh (n : Nat) (x : Option Chunk) (s : State) : (setChunk n x s).gh = s.gh := rfl
@[simp] theorem setChunk_cap (n : Nat) (x : Option Chunk) (s : State) : (setChunk n x s).cap = s.cap := rfl
@[simp] theorem setChunk_win (n : Nat) (x : Option Chunk) (s : State) : (setChunk n x s).win = s.win := rfl
@[simp] theorem setChunk_dir (n : Nat) (x : Option Chunk) (s : State) : (setChunk n x s).dir = s.dir := rfl
@[simp] theorem setChunk_sage (n : Nat) (x : Option Chunk) (s : State) : (setChunk n x s).sage = s.sage := rfl
@[simp] theorem setChunk_tel (n : Nat) (x : Option Chunk) (s : State) : (setChunk n x s).tel = s.tel := rfl
@[simp] theorem setChunk_sched (n : Nat) (x : Option Chunk) (s : State) : (setChunk n x s).sched = s.sched := rfl
@[simp] theorem setChunk_obl (n : Nat) (x : Option Chunk) (s : State) : (setChunk n x s).obl = s.obl := rfl
@[simp] theorem setChunk_stw (n : Nat) (x : Option Chunk) (s : State) : (setChunk n x s).stw = s.stw := rfl
@[simp] theorem setChunk_vf (n : Nat) (x : Option Chunk) (s : State) : (setChunk n x s).vf = s.vf := rfl
@[simp] theorem setChunk_evt (n : Nat) (x : Option Chunk) (s : State) : (setChunk n x s).evt = s.evt := rfl
@[simp] theorem setChunk_slot (n : Nat) (x : Option Chunk) (s : State) : (setChunk n x s).slot = s.slot := rfl
@[simp] theorem setChunk_flt (n : Nat) (x : Option Chunk) (s : State) : (setChunk n x s).flt = s.flt := rfl
@[simp] theorem setChunk_time (n : Nat) (x : Option Chunk) (s : State) : (setChunk n x s).time = s.time := rfl
@[simp] theorem setChunk_sec (n : Nat) (x : Option Chunk) (s : State) : (setChunk n x s).sec = s.sec := rfl
@[simp] theorem setChunk_pwr (n : Nat) (x : Option Chunk) (s : State) : (setChunk n x s).pwr = s.pwr := rfl

/-! withSec -/
@[simp] theorem withSec_pending (f : Security → Security) (s : State) : (withSec f s).pending = s.pending := rfl
@[simp] theorem withSec_out (f : Security → Security) (s : State) : (withSec f s).out = s.out := rfl
@[simp] theorem withSec_free (f : Security → Security) (s : State) : (withSec f s).free = s.free := rfl
@[simp] theorem withSec_glb (f : Security → Security) (s : State) : (withSec f s).glb = s.glb := rfl
@[simp] theorem withSec_cmd (f : Security → Security) (s : State) : (withSec f s).cmd = s.cmd := rfl
@[simp] theorem withSec_host (f : Security → Security) (s : State) : (withSec f s).host = s.host := rfl
@[simp] theorem withSec_port (f : Security → Security) (s : State) : (withSec f s).port = s.port := rfl
@[simp] theorem withSec_gh (f : Security → Security) (s : State) : (withSec f s).gh = s.gh := rfl
@[simp] theorem withSec_cap (f : Security → Security) (s : State) : (withSec f s).cap = s.cap := rfl
@[simp] theorem withSec_win (f : Security → Security) (s : State) : (withSec f s).win = s.win := rfl
@[simp] theorem withSec_dir (f : Security → Security) (s : State) : (withSec f s).dir = s.dir := rfl
@[simp] theorem withSec_sage (f : Security → Security) (s : State) : (withSec f s).sage = s.sage := rfl
@[simp] theorem withSec_tel (f : Security → Security) (s : State) : (withSec f s).tel = s.tel := rfl
@[simp] theorem withSec_move (f : Security → Security) (s : State) : (withSec f s).move = s.move := rfl
@[simp] theorem withSec_sched (f : Security → Security) (s : State) : (withSec f s).sched = s.sched := rfl
@[simp] theorem withSec_obl (f : Security → Security) (s : State) : (withSec f s).obl = s.obl := rfl
@[simp] theorem withSec_stw (f : Security → Security) (s : State) : (withSec f s).stw = s.stw := rfl
@[simp] theorem withSec_vf (f : Security → Security) (s : State) : (withSec f s).vf = s.vf := rfl
@[simp] theorem withSec_evt (f : Security → Security) (s : State) : (withSec f s).evt = s.evt := rfl
@[simp] theorem withSec_slot (f : Security → Security) (s : State) : (withSec f s).slot = s.slot := rfl
@[simp] theorem withSec_flt (f : Security → Security) (s : State) : (withSec f s).flt = s.flt := rfl
@[simp] theorem withSec_time (f : Security → Security) (s : State) : (withSec f s).time = s.time := rfl
@[simp] theorem withSec_pwr (f : Security → Security) (s : State) : (withSec f s).pwr = s.pwr := rfl

/-! withPwr -/
@[simp] theorem withPwr_pending (f : Power → Power) (s : State) : (withPwr f s).pending = s.pending := rfl
@[simp] theorem withPwr_out (f : Power → Power) (s : State) : (withPwr f s).out = s.out := rfl
@[simp] theorem withPwr_free (f : Power → Power) (s : State) : (withPwr f s).free = s.free := rfl
@[simp] theorem withPwr_glb (f : Power → Power) (s : State) : (withPwr f s).glb = s.glb := rfl
@[simp] theorem withPwr_cmd (f : Power → Power) (s : State) : (withPwr f s).cmd = s.cmd := rfl
@[simp] theorem withPwr_host (f : Power → Power) (s : State) : (withPwr f s).host = s.host := rfl
@[simp] theorem withPwr_port (f : Power → Power) (s : State) : (withPwr f s).port = s.port := rfl
@[simp] theorem withPwr_gh (f : Power → Power) (s : State) : (withPwr f s).gh = s.gh := rfl
@[simp] theorem withPwr_cap (f : Power → Power) (s : State) : (withPwr f s).cap = s.cap := rfl
@[simp] theorem withPwr_win (f : Power → Power) (s : State) : (withPwr f s).win = s.win := rfl
@[simp] theorem withPwr_dir (f : Power → Power) (s : State) : (withPwr f s).dir = s.dir := rfl
@[simp] theorem withPwr_sage (f : Power → Power) (s : State) : (withPwr f s).sage = s.sage := rfl
@[simp] theorem withPwr_tel (f : Power → Power) (s : State) : (withPwr f s).tel = s.tel := rfl
@[simp] theorem withPwr_move (f : Power → Power) (s : State) : (withPwr f s).move = s.move := rfl
@[simp] theorem withPwr_sched (f : Power → Power) (s : State) : (withPwr f s).sched = s.sched := rfl
@[simp] theorem withPwr_obl (f : Power → Power) (s : State) : (withPwr f s).obl = s.obl := rfl
@[simp] theorem withPwr_stw (f : Power → Power) (s : State) : (withPwr f s).stw = s.stw := rfl
@[simp] theorem withPwr_vf (f : Power → Power) (s : State) : (withPwr f s).vf = s.vf := rfl
@[simp] theorem withPwr_evt (f : Power → Power) (s : State) : (withPwr f s).evt = s.evt := rfl
@[simp] theorem withPwr_slot (f : Power → Power) (s : State) : (withPwr f s).slot = s.slot := rfl
@[simp] theorem withPwr_flt (f : Power → Power) (s : State) : (withPwr f s).flt = s.flt := rfl
@[simp] theorem withPwr_time (f : Power → Power) (s : State) : (withPwr f s).time = s.time := rfl
@[simp] theorem withPwr_sec (f : Power → Power) (s : State) : (withPwr f s).sec = s.sec := rfl

/-! withFlt -/
@[simp] theorem withFlt_pending (f : Faults → Faults) (s : State) : (withFlt f s).pending = s.pending := rfl
@[simp] theorem withFlt_out (f : Faults → Faults) (s : State) : (withFlt f s).out = s.out := rfl
@[simp] theorem withFlt_free (f : Faults → Faults) (s : State) : (withFlt f s).free = s.free := rfl
@[simp] theorem withFlt_glb (f : Faults → Faults) (s : State) : (withFlt f s).glb = s.glb := rfl
@[simp] theorem withFlt_cmd (f : Faults → Faults) (s : State) : (withFlt f s).cmd = s.cmd := rfl
@[simp] theorem withFlt_host (f : Faults → Faults) (s : State) : (withFlt f s).host = s.host := rfl
@[simp] theorem withFlt_port (f : Faults → Faults) (s : State) : (withFlt f s).port = s.port := rfl
@[simp] theorem withFlt_gh (f : Faults → Faults) (s : State) : (withFlt f s).gh = s.gh := rfl
@[simp] theorem withFlt_cap (f : Faults → Faults) (s : State) : (withFlt f s).cap = s.cap := rfl
@[simp] theorem withFlt_win (f : Faults → Faults) (s : State) : (withFlt f s).win = s.win := rfl
@[simp] theorem withFlt_dir (f : Faults → Faults) (s : State) : (withFlt f s).dir = s.dir := rfl
@[simp] theorem withFlt_sage (f : Faults → Faults) (s : State) : (withFlt f s).sage = s.sage := rfl
@[simp] theorem withFlt_tel (f : Faults → Faults) (s : State) : (withFlt f s).tel = s.tel := rfl
@[simp] theorem withFlt_move (f : Faults → Faults) (s : State) : (withFlt f s).move = s.move := rfl
@[simp] theorem withFlt_sched (f : Faults → Faults) (s : State) : (withFlt f s).sched = s.sched := rfl
@[simp] theorem withFlt_obl (f : Faults → Faults) (s : State) : (withFlt f s).obl = s.obl := rfl
@[simp] theorem withFlt_stw (f : Faults → Faults) (s : State) : (withFlt f s).stw = s.stw := rfl
@[simp] theorem withFlt_vf (f : Faults → Faults) (s : State) : (withFlt f s).vf = s.vf := rfl
@[simp] theorem withFlt_evt (f : Faults → Faults) (s : State) : (withFlt f s).evt = s.evt := rfl
@[simp] theorem withFlt_slot (f : Faults → Faults) (s : State) : (withFlt f s).slot = s.slot := rfl
@[simp] theorem withFlt_time (f : Faults → Faults) (s : State) : (withFlt f s).time = s.time := rfl
@[simp] theorem withFlt_sec (f : Faults → Faults) (s : State) : (withFlt f s).sec = s.sec := rfl
@[simp] theorem withFlt_pwr (f : Faults → Faults) (s : State) : (withFlt f s).pwr = s.pwr := rfl

/-! withGlb -/
@[simp] theorem withGlb_pending (f : Glb → Glb) (s : State) : (withGlb f s).pending = s.pending := rfl
@[simp] theorem withGlb_out (f : Glb → Glb) (s : State) : (withGlb f s).out = s.out := rfl
@[simp] theorem withGlb_free (f : Glb → Glb) (s : State) : (withGlb f s).free = s.free := rfl
@[simp] theorem withGlb_cmd (f : Glb → Glb) (s : State) : (withGlb f s).cmd = s.cmd := rfl
@[simp] theorem withGlb_host (f : Glb → Glb) (s : State) : (withGlb f s).host = s.host := rfl
@[simp] theorem withGlb_port (f : Glb → Glb) (s : State) : (withGlb f s).port = s.port := rfl
@[simp] theorem withGlb_gh (f : Glb → Glb) (s : State) : (withGlb f s).gh = s.gh := rfl
@[simp] theorem withGlb_cap (f : Glb → Glb) (s : State) : (withGlb f s).cap = s.cap := rfl
@[simp] theorem withGlb_win (f : Glb → Glb) (s : State) : (withGlb f s).win = s.win := rfl
@[simp] theorem withGlb_dir (f : Glb → Glb) (s : State) : (withGlb f s).dir = s.dir := rfl
@[simp] theorem withGlb_sage (f : Glb → Glb) (s : State) : (withGlb f s).sage = s.sage := rfl
@[simp] theorem withGlb_tel (f : Glb → Glb) (s : State) : (withGlb f s).tel = s.tel := rfl
@[simp] theorem withGlb_move (f : Glb → Glb) (s : State) : (withGlb f s).move = s.move := rfl
@[simp] theorem withGlb_sched (f : Glb → Glb) (s : State) : (withGlb f s).sched = s.sched := rfl
@[simp] theorem withGlb_obl (f : Glb → Glb) (s : State) : (withGlb f s).obl = s.obl := rfl
@[simp] theorem withGlb_stw (f : Glb → Glb) (s : State) : (withGlb f s).stw = s.stw := rfl
@[simp] theorem withGlb_vf (f : Glb → Glb) (s : State) : (withGlb f s).vf = s.vf := rfl
@[simp] theorem withGlb_evt (f : Glb → Glb) (s : State) : (withGlb f s).evt = s.evt := rfl
@[simp] theorem withGlb_slot (f : Glb → Glb) (s : State) : (withGlb f s).slot = s.slot := rfl
@[simp] theorem withGlb_flt (f : Glb → Glb) (s : State) : (withGlb f s).flt = s.flt := rfl
@[simp] theorem withGlb_time (f : Glb → Glb) (s : State) : (withGlb f s).time = s.time := rfl
@[simp] theorem withGlb_sec (f : Glb → Glb) (s : State) : (withGlb f s).sec = s.sec := rfl
@[simp] theorem withGlb_pwr (f : Glb → Glb) (s : State) : (withGlb f s).pwr = s.pwr := rfl

/-! withTime -/
@[simp] theorem withTime_pending (f : Thyme → Thyme) (s : State) : (withTime f s).pending = s.pending := rfl
@[simp] theorem withTime_out (f : Thyme → Thyme) (s : State) : (withTime f s).out = s.out := rfl
@[simp] theorem withTime_free (f : Thyme → Thyme) (s : State) : (withTime f s).free = s.free := rfl
@[simp] theorem withTime_glb (f : Thyme → Thyme) (s : State) : (withTime f s).glb = s.glb := rfl
@[simp] theorem withTime_cmd (f : Thyme → Thyme) (s : State) : (withTime f s).cmd = s.cmd := rfl
@[simp] theorem withTime_host (f : Thyme → Thyme) (s : State) : (withTime f s).host = s.host := rfl
@[simp] theorem withTime_port (f : Thyme → Thyme) (s : State) : (withTime f s).port = s.port := rfl
@[simp] theorem withTime_gh (f : Thyme → Thyme) (s : State) : (withTime f s).gh = s.gh := rfl
@[simp] theorem withTime_cap (f : Thyme → Thyme) (s : State) : (withTime f s).cap = s.cap := rfl
@[simp] theorem withTime_win (f : Thyme → Thyme) (s : State) : (withTime f s).win = s.win := rfl
@[simp] theorem withTime_dir (f : Thyme → Thyme) (s : State) : (withTime f s).dir = s.dir := rfl
@[simp] theorem withTime_sage (f : Thyme → Thyme) (s : State) : (withTime f s).sage = s.sage := rfl
@[simp] theorem withTime_tel (f : Thyme → Thyme) (s : State) : (withTime f s).tel = s.tel := rfl
@[simp] theorem withTime_move (f : Thyme → Thyme) (s : State) : (withTime f s).move = s.move := rfl
@[simp] theorem withTime_sched (f : Thyme → Thyme) (s : State) : (withTime f s).sched = s.sched := rfl
@[simp] theorem withTime_obl (f : Thyme → Thyme) (s : State) : (withTime f s).obl = s.obl := rfl
@[simp] theorem withTime_stw (f : Thyme → Thyme) (s : State) : (withTime f s).stw = s.stw := rfl
@[simp] theorem withTime_vf (f : Thyme → Thyme) (s : State) : (withTime f s).vf = s.vf := rfl
@[simp] theorem withTime_evt (f : Thyme → Thyme) (s : State) : (withTime f s).evt = s.evt := rfl
@[simp] theorem withTime_slot (f : Thyme → Thyme) (s : State) : (withTime f s).slot = s.slot := rfl
@[simp] theorem withTime_flt (f : Thyme → Thyme) (s : State) : (withTime f s).flt = s.flt := rfl
@[simp] theorem withTime_sec (f : Thyme → Thyme) (s : State) : (withTime f s).sec = s.sec := rfl
@[simp] theorem withTime_pwr (f : Thyme → Thyme) (s : State) : (withTime f s).pwr = s.pwr := rfl

/-! withDir -/
@[simp] theorem withDir_pending (f : Directory → Directory) (s : State) : (withDir f s).pending = s.pending := rfl
@[simp] theorem withDir_out (f : Directory → Directory) (s : State) : (withDir f s).out = s.out := rfl
@[simp] theorem withDir_free (f : Directory → Directory) (s : State) : (withDir f s).free = s.free := rfl
@[simp] theorem withDir_glb (f : Directory → Directory) (s : State) : (withDir f s).glb = s.glb := rfl
@[simp] theorem withDir_cmd (f : Directory → Directory) (s : State) : (withDir f s).cmd = s.cmd := rfl
@[simp] theorem withDir_host (f : Directory → Directory) (s : State) : (withDir f s).host = s.host := rfl
@[simp] theorem withDir_port (f : Directory → Directory) (s : State) : (withDir f s).port = s.port := rfl
@[simp] theorem withDir_gh (f : Directory → Directory) (s : State) : (withDir f s).gh = s.gh := rfl
@[simp] theorem withDir_cap (f : Directory → Directory) (s : State) : (withDir f s).cap = s.cap := rfl
@[simp] theorem withDir_win (f : Directory → Directory) (s : State) : (withDir f s).win = s.win := rfl
@[simp] theorem withDir_sage (f : Directory → Directory) (s : State) : (withDir f s).sage = s.sage := rfl
@[simp] theorem withDir_tel (f : Directory → Directory) (s : State) : (withDir f s).tel = s.tel := rfl
@[simp] theorem withDir_move (f : Directory → Directory) (s : State) : (withDir f s).move = s.move := rfl
@[simp] theorem withDir_sched (f : Directory → Directory) (s : State) : (withDir f s).sched = s.sched := rfl
@[simp] theorem withDir_obl (f : Directory → Directory) (s : State) : (withDir f s).obl = s.obl := rfl
@[simp] theorem withDir_stw (f : Directory → Directory) (s : State) : (withDir f s).stw = s.stw := rfl
@[simp] theorem withDir_vf (f : Directory → Directory) (s : State) : (withDir f s).vf = s.vf := rfl
@[simp] theorem withDir_evt (f : Directory → Directory) (s : State) : (withDir f s).evt = s.evt := rfl
@[simp] theorem withDir_slot (f : Directory → Directory) (s : State) : (withDir f s).slot = s.slot := rfl
@[simp] theorem withDir_flt (f : Directory → Directory) (s : State) : (withDir f s).flt = s.flt := rfl
@[simp] theorem withDir_time (f : Directory → Directory) (s : State) : (withDir f s).time = s.time := rfl
@[simp] theorem withDir_sec (f : Directory → Directory) (s : State) : (withDir f s).sec = s.sec := rfl
@[simp] theorem withDir_pwr (f : Directory → Directory) (s : State) : (withDir f s).pwr = s.pwr := rfl

end Sys2Proof.Machine
end

