-- ==== Sys2Proof/Laws/Tbl.lean ====
section
/-! SUPPORT. The laws of sparse tables: reading what was written, leaving every other key alone, and keeping the
canonical form. -/

namespace Sys2Proof.Machine

variable {α : Type}

@[simp] theorem tget_nil (d : α) (k : Nat) : tget d [] k = d := rfl

@[simp] theorem tget_tdel_same (d : α) (t : Tbl α) (k : Nat) : tget d (tdel t k) k = d := by
  induction t with
  | nil => rfl
  | cons e t ih =>
    obtain ⟨j, v⟩ := e
    by_cases h : k = j <;> simp [tdel, tget, h]
    · subst h; exact ih
    · exact ih

theorem tget_tdel_other (d : α) (t : Tbl α) {k i : Nat} (h : i ≠ k) : tget d (tdel t k) i = tget d t i := by
  induction t with
  | nil => rfl
  | cons e t ih =>
    obtain ⟨j, v⟩ := e
    by_cases hk : k = j
    · subst hk; simp [tdel, tget, h, ih]
    · simp [tdel, tget, hk, ih]

@[simp] theorem tget_tins_same (d : α) (t : Tbl α) (k : Nat) (v : α) : tget d (tins t k v) k = v := by
  induction t with
  | nil => simp [tins, tget]
  | cons e t ih =>
    obtain ⟨j, w⟩ := e
    simp only [tins]
    split
    · simp [tget]
    · split
      · simp [tget]
      · simp_all [tget]

theorem tget_tins_other (d : α) (t : Tbl α) (v : α) {k i : Nat} (h : i ≠ k) : tget d (tins t k v) i = tget d t i := by
  induction t with
  | nil => simp [tins, tget, h]
  | cons e t ih =>
    obtain ⟨j, w⟩ := e
    simp only [tins]
    split
    · simp [tget, h]
    · split
      · next hk => subst hk; simp [tget, h]
      · simp [tget, ih]

/-! The canonical form -/

theorem tsorted_weaken {lo lo' : Nat} {t : Tbl α} (h : tsorted lo t = true) (hl : lo' ≤ lo) : tsorted lo' t = true := by
  cases t with
  | nil => rfl
  | cons e t =>
    obtain ⟨j, v⟩ := e
    simp only [tsorted, Bool.and_eq_true, decide_eq_true_eq] at h ⊢
    exact ⟨by omega, h.2⟩

theorem tsorted_tdel {t : Tbl α} {lo k : Nat} (h : tsorted lo t = true) : tsorted lo (tdel t k) = true := by
  induction t generalizing lo with
  | nil => rfl
  | cons e t ih =>
    obtain ⟨j, v⟩ := e
    simp [tsorted] at h
    by_cases hk : k = j
    · simp only [tdel, hk, if_true]
      have := tsorted_weaken (lo' := lo) (hk ▸ ih h.2) (by omega)
      exact this
    · simp [tdel, hk, tsorted, h.1, ih h.2]

theorem tsorted_tins {t : Tbl α} {lo k : Nat} {v : α} (h : tsorted lo t = true) (hk : lo ≤ k) :
    tsorted lo (tins t k v) = true := by
  induction t generalizing lo with
  | nil => simp [tins, tsorted, hk]
  | cons e t ih =>
    obtain ⟨j, w⟩ := e
    simp [tsorted] at h
    simp only [tins]
    split
    · next hj => simp [tsorted, hk, h.2]; omega
    · split
      · next hj => subst hj; simp [tsorted, hk, h.2]
      · next h1 h2 => simp [tsorted, h.1, ih h.2 (show j + 1 ≤ k by omega)]

theorem mem_tdel {t : Tbl α} {k : Nat} {e : Nat × α} (h : e ∈ tdel t k) : e ∈ t := by
  induction t with
  | nil => exact h
  | cons x t ih =>
    obtain ⟨j, v⟩ := x
    by_cases hk : k = j
    · simp only [tdel, hk, if_true] at h; exact List.mem_cons_of_mem _ (ih (hk ▸ h))
    · simp only [tdel, hk, if_false, List.mem_cons] at h
      rcases h with h | h
      · simp [h]
      · exact List.mem_cons_of_mem _ (ih h)

theorem mem_tins {t : Tbl α} {k : Nat} {v : α} {e : Nat × α} (h : e ∈ tins t k v) : e = (k, v) ∨ e ∈ t := by
  induction t with
  | nil => simpa [tins] using h
  | cons x t ih =>
    obtain ⟨j, w⟩ := x
    simp only [tins] at h
    split at h
    · simpa using h
    · split at h
      · simp only [List.mem_cons] at h ⊢
        rcases h with h | h
        · exact .inl h
        · exact .inr (.inr h)
      · simp only [List.mem_cons] at h ⊢
        rcases h with h | h
        · exact .inr (.inl h)
        · rcases ih h with h | h
          · exact .inl h
          · exact .inr (.inr h)

variable [DecidableEq α]

/-- Reading the key that was written. -/
@[simp] theorem tget_tput_same (d : α) (t : Tbl α) (k : Nat) (v : α) : tget d (tput d t k v) k = v := by
  unfold tput; split
  · next h => simp [h]
  · simp

/-- Reading any other key. -/
theorem tget_tput_other (d : α) (t : Tbl α) (v : α) {k i : Nat} (h : i ≠ k) : tget d (tput d t k v) i = tget d t i := by
  unfold tput; split
  · exact tget_tdel_other d t h
  · exact tget_tins_other d t v h

/-- Reading any key after a write. -/
theorem tget_tput (d : α) (t : Tbl α) (k i : Nat) (v : α) : tget d (tput d t k v) i = if i = k then v else tget d t i := by
  split
  · next h => subst h; simp
  · next h => exact tget_tput_other d t v h

@[simp] theorem tget_tmod_same (d : α) (t : Tbl α) (k : Nat) (f : α → α) : tget d (tmod d t k f) k = f (tget d t k) := by
  simp [tmod]

/-- A write keeps the canonical form. -/
theorem twf_tput {d : α} {t : Tbl α} (k : Nat) (v : α) (h : twf d t = true) : twf d (tput d t k v) = true := by
  simp only [twf, Bool.and_eq_true, List.all_eq_true, decide_eq_true_eq] at h ⊢
  unfold tput; split
  · exact ⟨tsorted_tdel h.1, fun e he => h.2 e (mem_tdel he)⟩
  · next hv =>
    refine ⟨tsorted_tins h.1 (Nat.zero_le k), fun e he => ?_⟩
    rcases mem_tins he with he | he
    · simpa [he] using hv
    · exact h.2 e he

theorem twf_tmod {d : α} {t : Tbl α} (k : Nat) (f : α → α) (h : twf d t = true) : twf d (tmod d t k f) = true := twf_tput _ _ h

theorem twf_tputs {d : α} (l : List α) {t : Tbl α} (k : Nat) (h : twf d t = true) : twf d (tputs d t k l) = true := by
  induction l generalizing t k with
  | nil => exact h
  | cons v l ih => exact ih (k + 1) (twf_tput k v h)

theorem twf_nil (d : α) : twf d [] = true := rfl

end Sys2Proof.Machine
end

