-- ==== Sys2Proof/Laws/Access.lean ====
section
/-! SUPPORT. The accessors of the tables of the state: reading what was written, and leaving every other entry alone. -/

namespace Sys2Proof.Machine

@[simp] theorem getPort_setPort (p : Nat) (x : Port) (s : State) : getPort (setPort p x s) p = x := by
  simp [getPort, setPort]

theorem getPort_setPort_other {i p : Nat} (x : Port) (s : State) (hi : i ≠ p) : getPort (setPort p x s) i = getPort s i := by
  simp [getPort, setPort, tget_tput, hi]

@[simp] theorem getLane_setLane (l : Nat) (x : Lane) (s : State) : getLane (setLane l x s) l = x := by
  simp [getLane, setLane]

theorem getLane_setLane_other {i l : Nat} (x : Lane) (s : State) (hi : i ≠ l) : getLane (setLane l x s) i = getLane s i := by
  simp [getLane, setLane, tget_tput, hi]

@[simp] theorem getVf_setVf (v : Nat) (x : Vf) (s : State) : getVf (setVf v x s) v = x := by
  simp [getVf, setVf]

theorem getVf_setVf_other {i v : Nat} (x : Vf) (s : State) (hi : i ≠ v) : getVf (setVf v x s) i = getVf s i := by
  simp [getVf, setVf, tget_tput, hi]

@[simp] theorem getHost_setHost (h : Nat) (x : HostSpace) (s : State) : getHost (setHost h x s) h = x := by
  simp [getHost, setHost]

theorem getHost_setHost_other {i h : Nat} (x : HostSpace) (s : State) (hi : i ≠ h) : getHost (setHost h x s) i = getHost s i := by
  simp [getHost, setHost, tget_tput, hi]

@[simp] theorem getLink_setLink (l : Nat) (x : Link) (s : State) : getLink (setLink l x s) l = x := by
  simp [getLink, setLink]

theorem getLink_setLink_other {i l : Nat} (x : Link) (s : State) (hi : i ≠ l) : getLink (setLink l x s) i = getLink s i := by
  simp [getLink, setLink, tget_tput, hi]

@[simp] theorem getStw_setStw (l : Nat) (x : StwLink) (s : State) : getStw (setStw l x s) l = x := by
  simp [getStw, setStw]

theorem getStw_setStw_other {i l : Nat} (x : StwLink) (s : State) (hi : i ≠ l) : getStw (setStw l x s) i = getStw s i := by
  simp [getStw, setStw, tget_tput, hi]

@[simp] theorem getSlot_setSlot (k : Nat) (x : SageSlot) (s : State) : getSlot (setSlot k x s) k = x := by
  simp [getSlot, setSlot]

theorem getSlot_setSlot_other {i k : Nat} (x : SageSlot) (s : State) (hi : i ≠ k) : getSlot (setSlot k x s) i = getSlot s i := by
  simp [getSlot, setSlot, tget_tput, hi]

@[simp] theorem getChan_setChan (c : Nat) (x : Channel) (s : State) : getChan (setChan c x s) c = x := by
  simp [getChan, setChan]

theorem getChan_setChan_other {i c : Nat} (x : Channel) (s : State) (hi : i ≠ c) : getChan (setChan c x s) i = getChan s i := by
  simp [getChan, setChan, tget_tput, hi]

@[simp] theorem getMover_setMover (m : Nat) (x : Mover) (s : State) : getMover (setMover m x s) m = x := by
  simp [getMover, setMover]

theorem getMover_setMover_other {i m : Nat} (x : Mover) (s : State) (hi : i ≠ m) : getMover (setMover m x s) i = getMover s i := by
  simp [getMover, setMover, tget_tput, hi]

@[simp] theorem getClass_setClass (c : Nat) (x : MoveClass) (s : State) : getClass (setClass c x s) c = x := by
  simp [getClass, setClass]

theorem getClass_setClass_other {i c : Nat} (x : MoveClass) (s : State) (hi : i ≠ c) : getClass (setClass c x s) i = getClass s i := by
  simp [getClass, setClass, tget_tput, hi]

@[simp] theorem getMig_setMig (k : Nat) (x : (Option Migration)) (s : State) : getMig (setMig k x s) k = x := by
  simp [getMig, setMig]

theorem getMig_setMig_other {i k : Nat} (x : (Option Migration)) (s : State) (hi : i ≠ k) : getMig (setMig k x s) i = getMig s i := by
  simp [getMig, setMig, tget_tput, hi]

@[simp] theorem getEgress_setEgress (e : Nat) (x : Egress) (s : State) : getEgress (setEgress e x s) e = x := by
  simp [getEgress, setEgress]

theorem getEgress_setEgress_other {i e : Nat} (x : Egress) (s : State) (hi : i ≠ e) : getEgress (setEgress e x s) i = getEgress s i := by
  simp [getEgress, setEgress, tget_tput, hi]

@[simp] theorem getSchedQ_setSchedQ (q : Nat) (x : SchedQ) (s : State) : getSchedQ (setSchedQ q x s) q = x := by
  simp [getSchedQ, setSchedQ]

theorem getSchedQ_setSchedQ_other {i q : Nat} (x : SchedQ) (s : State) (hi : i ≠ q) : getSchedQ (setSchedQ q x s) i = getSchedQ s i := by
  simp [getSchedQ, setSchedQ, tget_tput, hi]

@[simp] theorem getPolicer_setPolicer (p : Nat) (x : PolicerReg) (s : State) : getPolicer (setPolicer p x s) p = x := by
  simp [getPolicer, setPolicer]

theorem getPolicer_setPolicer_other {i p : Nat} (x : PolicerReg) (s : State) (hi : i ≠ p) : getPolicer (setPolicer p x s) i = getPolicer s i := by
  simp [getPolicer, setPolicer, tget_tput, hi]

@[simp] theorem getDomain_setDomain (d : Nat) (x : Domain) (s : State) : getDomain (setDomain d x s) d = x := by
  simp [getDomain, setDomain]

theorem getDomain_setDomain_other {i d : Nat} (x : Domain) (s : State) (hi : i ≠ d) : getDomain (setDomain d x s) i = getDomain s i := by
  simp [getDomain, setDomain, tget_tput, hi]

@[simp] theorem getLine_setLine (a : Nat) (x : DirLine) (s : State) : getLine (setLine a x s) a = x := by
  simp [getLine, setLine]

theorem getLine_setLine_other {i a : Nat} (x : DirLine) (s : State) (hi : i ≠ a) : getLine (setLine a x s) i = getLine s i := by
  simp [getLine, setLine, tget_tput, hi]

@[simp] theorem getRouteEnt_setRouteEnt (w : Nat) (x : RouteEnt) (s : State) : getRouteEnt (setRouteEnt w x s) w = x := by
  simp [getRouteEnt, setRouteEnt]

theorem getRouteEnt_setRouteEnt_other {i w : Nat} (x : RouteEnt) (s : State) (hi : i ≠ w) : getRouteEnt (setRouteEnt w x s) i = getRouteEnt s i := by
  simp [getRouteEnt, setRouteEnt, tget_tput, hi]

@[simp] theorem getVec_setVec (v : Nat) (x : Coalescer) (s : State) : getVec (setVec v x s) v = x := by
  simp [getVec, setVec]

theorem getVec_setVec_other {i v : Nat} (x : Coalescer) (s : State) (hi : i ≠ v) : getVec (setVec v x s) i = getVec s i := by
  simp [getVec, setVec, tget_tput, hi]

end Sys2Proof.Machine
end

