-- ==== Sys2Proof/Laws/Dispatch.lean ====
section
/-! SUPPORT. What the dispatch does: one equation per command, so that no proof unfolds the whole dispatch. -/

namespace Sys2Proof.Machine

variable (s : State)

@[simp] theorem exec_coldReset (cause : ColdCause) : exec (.coldReset cause) s = execColdReset cause s := rfl
@[simp] theorem exec_supplyMonitorTrip (rail : Rail) : exec (.supplyMonitorTrip rail) s = execSupplyMonitorTrip rail s := rfl
@[simp] theorem exec_bringUpPhase (boot : BootInfo) : exec (.bringUpPhase boot) s = execBringUpPhase boot s := rfl
@[simp] theorem exec_epochSettled : exec (.epochSettled) s = execEpochSettled s := rfl
@[simp] theorem exec_glbResetWarm (v : Word) : exec (.glbResetWarm v) s = execGlbResetWarm v s := rfl
@[simp] theorem exec_glbResetCold (v : Word) : exec (.glbResetCold v) s = execGlbResetCold v s := rfl
@[simp] theorem exec_wrstN : exec (.wrstN) s = execWrstN s := rfl
@[simp] theorem exec_mcFault (core : Nat) : exec (.mcFault core) s = execMcFault core s := rfl
@[simp] theorem exec_warmResetDrainEnd : exec (.warmResetDrainEnd) s = execWarmResetDrainEnd s := rfl
@[simp] theorem exec_thermtrip (sensor : Nat) : exec (.thermtrip sensor) s = execThermtrip sensor s := rfl
@[simp] theorem exec_tempHigh (sensor : Nat) : exec (.tempHigh sensor) s = execTempHigh sensor s := rfl
@[simp] theorem exec_coreRateLow (monitor : Nat) : exec (.coreRateLow monitor) s = execCoreRateLow monitor s := rfl
@[simp] theorem exec_vddCoreLoop (ppm monitor : Nat) (ack : Bool) (readback : Nat) : exec (.vddCoreLoop ppm monitor ack readback) s = execVddCoreLoop ppm monitor ack readback s := rfl
@[simp] theorem exec_supply (readback : Option Nat) : exec (.supply readback) s = execSupply readback s := rfl
@[simp] theorem exec_registerWrite (fn : Fn) (bar off : Nat) (v : Word) : exec (.registerWrite fn bar off v) s = execRegisterWrite fn bar off v s := rfl
@[simp] theorem exec_narrowAccess (fn : Fn) (bar off : Nat) (write : Bool) (v : Word) : exec (.narrowAccess fn bar off write v) s = execNarrowAccess fn bar off write v s := rfl
@[simp] theorem exec_glbCfgrptCtrlWrite (v : Word) : exec (.glbCfgrptCtrlWrite v) s = execGlbCfgrptCtrlWrite v s := rfl
@[simp] theorem exec_glbCfgrptTailWrite (v : Word) : exec (.glbCfgrptTailWrite v) s = execGlbCfgrptTailWrite v s := rfl
@[simp] theorem exec_cmdMringCtrlWrite (m : Nat) (v : Word) : exec (.cmdMringCtrlWrite m v) s = execCmdMringCtrlWrite m v s := rfl
@[simp] theorem exec_sqTail (m : Nat) (v : Word) : exec (.sqTail m v) s = execSqTail m v s := rfl
@[simp] theorem exec_cqHead (m : Nat) (v : Word) : exec (.cqHead m v) s = execCqHead m v s := rfl
@[simp] theorem exec_descriptorFetch (ring : RingId) (d : Option Desc) : exec (.descriptorFetch ring d) s = execDescriptorFetch ring d s := rfl
@[simp] theorem exec_heldRecordFlush (fn : Fn) (portUp : Bool) : exec (.heldRecordFlush fn portUp) s = execHeldRecordFlush fn portUp s := rfl
@[simp] theorem exec_nop (seq : Nat) : exec (.nop seq) s = execNop seq s := rfl
@[simp] theorem exec_epochClaim (seq : Nat) : exec (.epochClaim seq) s = execEpochClaim seq s := rfl
@[simp] theorem exec_objQuery (seq : Nat) : exec (.objQuery seq) s = execObjQuery seq s := rfl
@[simp] theorem exec_objCommit (seq : Nat) (hashOk : Bool) : exec (.objCommit seq hashOk) s = execObjCommit seq hashOk s := rfl
@[simp] theorem exec_objAbort (seq : Nat) : exec (.objAbort seq) s = execObjAbort seq s := rfl
@[simp] theorem exec_generationCommitDone (seq : Nat) : exec (.generationCommitDone seq) s = execGenerationCommitDone seq s := rfl
@[simp] theorem exec_tblDrain (seq : Nat) : exec (.tblDrain seq) s = execTblDrain seq s := rfl
@[simp] theorem exec_rtWrite (seq : Nat) (data : ReadData) : exec (.rtWrite seq data) s = execRtWrite seq data s := rfl
@[simp] theorem exec_ghThreshSet (seq : Nat) : exec (.ghThreshSet seq) s = execGhThreshSet seq s := rfl
@[simp] theorem exec_capConfigFilter (seq : Nat) : exec (.capConfigFilter seq) s = execCapConfigFilter seq s := rfl
@[simp] theorem exec_capConfigRing (seq : Nat) : exec (.capConfigRing seq) s = execCapConfigRing seq s := rfl
@[simp] theorem exec_capTailWrite (v : Word) : exec (.capTailWrite v) s = execCapTailWrite v s := rfl
@[simp] theorem exec_winWrite (seq : Nat) : exec (.winWrite seq) s = execWinWrite seq s := rfl
@[simp] theorem exec_winLock (seq : Nat) : exec (.winLock seq) s = execWinLock seq s := rfl
@[simp] theorem exec_winEpochFence (seq : Nat) : exec (.winEpochFence seq) s = execWinEpochFence seq s := rfl
@[simp] theorem exec_mapWrite (seq : Nat) (data : ReadData) : exec (.mapWrite seq data) s = execMapWrite seq data s := rfl
@[simp] theorem exec_define (seq : Nat) (data : ReadData) (answers : List SwitchAnswer) : exec (.define seq data answers) s = execDefine seq data answers s := rfl
@[simp] theorem exec_attach (seq : Nat) : exec (.attach seq) s = execAttach seq s := rfl
@[simp] theorem exec_detach (seq : Nat) (site : DetachAt) : exec (.detach seq site) s = execDetach seq site s := rfl
@[simp] theorem exec_destroy (seq : Nat) (answers : List SwitchAnswer) : exec (.destroy seq answers) s = execDestroy seq answers s := rfl
@[simp] theorem exec_readmit (seq : Nat) (answers : List SwitchAnswer) : exec (.readmit seq answers) s = execReadmit seq answers s := rfl
@[simp] theorem exec_dirPartitionSet (seq : Nat) (answers : List SwitchAnswer) : exec (.dirPartitionSet seq answers) s = execDirPartitionSet seq answers s := rfl
@[simp] theorem exec_dirQuotaSetHome (seq : Nat) : exec (.dirQuotaSetHome seq) s = execDirQuotaSetHome seq s := rfl
@[simp] theorem exec_dirQuotaSetDomain (seq : Nat) : exec (.dirQuotaSetDomain seq) s = execDirQuotaSetDomain seq s := rfl
@[simp] theorem exec_fabricApplyResend (sw : Nat) (applied : Bool) : exec (.fabricApplyResend sw applied) s = execFabricApplyResend sw applied s := rfl
@[simp] theorem exec_switchJoin (sw : Nat) (defs : ReadData) : exec (.switchJoin sw defs) s = execSwitchJoin sw defs s := rfl
@[simp] theorem exec_sprigLoad (seq : Nat) (code data : ReadData) : exec (.sprigLoad seq code data) s = execSprigLoad seq code data s := rfl
@[simp] theorem exec_sprigStart (seq : Nat) : exec (.sprigStart seq) s = execSprigStart seq s := rfl
@[simp] theorem exec_sprigStop (seq : Nat) : exec (.sprigStop seq) s = execSprigStop seq s := rfl
@[simp] theorem exec_commitLimitsSet (seq : Nat) : exec (.commitLimitsSet seq) s = execCommitLimitsSet seq s := rfl
@[simp] theorem exec_telConfig (seq : Nat) : exec (.telConfig seq) s = execTelConfig seq s := rfl
@[simp] theorem exec_pageMigrate (seq : Nat) : exec (.pageMigrate seq) s = execPageMigrate seq s := rfl
@[simp] theorem exec_moveSubmit (seq : Nat) (data : ReadData) : exec (.moveSubmit seq data) s = execMoveSubmit seq data s := rfl
@[simp] theorem exec_arbClassSet (seq : Nat) : exec (.arbClassSet seq) s = execArbClassSet seq s := rfl
@[simp] theorem exec_queueSet (seq : Nat) : exec (.queueSet seq) s = execQueueSet seq s := rfl
@[simp] theorem exec_policerSet (seq : Nat) : exec (.policerSet seq) s = execPolicerSet seq s := rfl
@[simp] theorem exec_shaperSet (seq : Nat) : exec (.shaperSet seq) s = execShaperSet seq s := rfl
@[simp] theorem exec_gclWrite (seq : Nat) (data : ReadData) : exec (.gclWrite seq data) s = execGclWrite seq data s := rfl
@[simp] theorem exec_portConfig (seq : Nat) : exec (.portConfig seq) s = execPortConfig seq s := rfl
@[simp] theorem exec_portReset (seq : Nat) : exec (.portReset seq) s = execPortReset seq s := rfl
@[simp] theorem exec_laneTest (seq : Nat) : exec (.laneTest seq) s = execLaneTest seq s := rfl
@[simp] theorem exec_eyeScan (seq : Nat) : exec (.eyeScan seq) s = execEyeScan seq s := rfl
@[simp] theorem exec_eyeScanEnd (lane seq : Nat) (last : Bool) (counts : List Nat) : exec (.eyeScanEnd lane seq last counts) s = execEyeScanEnd lane seq last counts s := rfl
@[simp] theorem exec_oblConfigLink (seq : Nat) : exec (.oblConfigLink seq) s = execOblConfigLink seq s := rfl
@[simp] theorem exec_oblConfigRoute (seq : Nat) : exec (.oblConfigRoute seq) s = execOblConfigRoute seq s := rfl
@[simp] theorem exec_oblConfigFabric (seq : Nat) (answers : List SwitchAnswer) : exec (.oblConfigFabric seq answers) s = execOblConfigFabric seq answers s := rfl
@[simp] theorem exec_stwConfig (seq : Nat) : exec (.stwConfig seq) s = execStwConfig seq s := rfl
@[simp] theorem exec_vfCreate (seq : Nat) (data : ReadData) : exec (.vfCreate seq data) s = execVfCreate seq data s := rfl
@[simp] theorem exec_vfDestroy (seq : Nat) : exec (.vfDestroy seq) s = execVfDestroy seq s := rfl
@[simp] theorem exec_vecConfigLine (seq : Nat) : exec (.vecConfigLine seq) s = execVecConfigLine seq s := rfl
@[simp] theorem exec_vecConfigVector (seq : Nat) : exec (.vecConfigVector seq) s = execVecConfigVector seq s := rfl
@[simp] theorem exec_slotPolicySet (seq : Nat) : exec (.slotPolicySet seq) s = execSlotPolicySet seq s := rfl
@[simp] theorem exec_slotThermalModelSet (seq : Nat) : exec (.slotThermalModelSet seq) s = execSlotThermalModelSet seq s := rfl
@[simp] theorem exec_slotRelease (seq : Nat) : exec (.slotRelease seq) s = execSlotRelease seq s := rfl
@[simp] theorem exec_slotOff (seq : Nat) : exec (.slotOff seq) s = execSlotOff seq s := rfl
@[simp] theorem exec_slotTreadsSet (seq : Nat) : exec (.slotTreadsSet seq) s = execSlotTreadsSet seq s := rfl
@[simp] theorem exec_slotUnlock (seq : Nat) : exec (.slotUnlock seq) s = execSlotUnlock seq s := rfl
@[simp] theorem exec_unitRetire (seq : Nat) : exec (.unitRetire seq) s = execUnitRetire seq s := rfl
@[simp] theorem exec_unitReturn (seq : Nat) (testOk : Bool) : exec (.unitReturn seq testOk) s = execUnitReturn seq testOk s := rfl
@[simp] theorem exec_unitJoin (unit : Nat) : exec (.unitJoin unit) s = execUnitJoin unit s := rfl
@[simp] theorem exec_timeConfig (seq : Nat) : exec (.timeConfig seq) s = execTimeConfig seq s := rfl
@[simp] theorem exec_set (seq : Nat) : exec (.set seq) s = execSet seq s := rfl
@[simp] theorem exec_calWrite (seq : Nat) (data : ReadData) : exec (.calWrite seq data) s = execCalWrite seq data s := rfl
@[simp] theorem exec_calRestoreFactory (seq : Nat) : exec (.calRestoreFactory seq) s = execCalRestoreFactory seq s := rfl
@[simp] theorem exec_imageUpdate (seq : Nat) (image : Option ImageHdr) : exec (.imageUpdate seq image) s = execImageUpdate seq image s := rfl
@[simp] theorem exec_flashOpDone (ok : Bool) : exec (.flashOpDone ok) s = execFlashOpDone ok s := rfl
@[simp] theorem exec_flashEraseSector (v : Word) : exec (.flashEraseSector v) s = execFlashEraseSector v s := rfl
@[simp] theorem exec_flashProgram (v : Word) : exec (.flashProgram v) s = execFlashProgram v s := rfl
@[simp] theorem exec_flashRead (v : Word) : exec (.flashRead v) s = execFlashRead v s := rfl
@[simp] theorem exec_forwardTimeout (seq : Nat) : exec (.forwardTimeout seq) s = execForwardTimeout seq s := rfl
@[simp] theorem exec_cmdFwd (src : Nat) (d : Desc) : exec (.cmdFwd src d) s = execCmdFwd src d s := rfl
@[simp] theorem exec_cplFwd (seq : Nat) (cpl : Cpl) : exec (.cplFwd seq cpl) s = execCplFwd seq cpl s := rfl
@[simp] theorem exec_epoch (e : Word) : exec (.epoch e) s = execEpoch e s := rfl
@[simp] theorem exec_hostRequest (r : Request) (hw : PathHw) : exec (.hostRequest r hw) s = execHostRequest r hw s := rfl
@[simp] theorem exec_policerRelease (p : Nat) : exec (.policerRelease p) s = execPolicerRelease p s := rfl
@[simp] theorem exec_mapCacheMissFill (hw : PathHw) : exec (.mapCacheMissFill hw) s = execMapCacheMissFill hw s := rfl
@[simp] theorem exec_responseArrival (r : Response) : exec (.responseArrival r) s = execResponseArrival r s := rfl
@[simp] theorem exec_egressSelect (e : Nat) (hw : ReadHw) : exec (.egressSelect e hw) s = execEgressSelect e hw s := rfl
@[simp] theorem exec_bankRelocationDone : exec (.bankRelocationDone) s = execBankRelocationDone s := rfl
@[simp] theorem exec_captureRecordWrite : exec (.captureRecordWrite) s = execCaptureRecordWrite s := rfl
@[simp] theorem exec_configRequest (port : Nat) (fn : Fn) (op : CfgOp) : exec (.configRequest port fn op) s = execConfigRequest port fn op s := rfl
@[simp] theorem exec_portEngineStop (port : Nat) : exec (.portEngineStop port) s = execPortEngineStop port s := rfl
@[simp] theorem exec_portEngineRestartDone (port : Nat) : exec (.portEngineRestartDone port) s = execPortEngineRestartDone port s := rfl
@[simp] theorem exec_marginingCommand (lane : Nat) (start : Bool) : exec (.marginingCommand lane start) s = execMarginingCommand lane start s := rfl
@[simp] theorem exec_linkUp (port : Nat) (info : LinkInfo) : exec (.linkUp port info) s = execLinkUp port info s := rfl
@[simp] theorem exec_equalizationFail (port rate : Nat) (second : Bool) : exec (.equalizationFail port rate second) s = execEqualizationFail port rate second s := rfl
@[simp] theorem exec_portDown (port : Nat) : exec (.portDown port) s = execPortDown port s := rfl
@[simp] theorem exec_dpcRelease (port : Nat) : exec (.dpcRelease port) s = execDpcRelease port s := rfl
@[simp] theorem exec_symbolLockLost (lane : Nat) (seen : LaneSeen) : exec (.symbolLockLost lane seen) s = execSymbolLockLost lane seen s := rfl
@[simp] theorem exec_recoveryRetrainDone (port width : Nat) : exec (.recoveryRetrainDone port width) s = execRecoveryRetrainDone port width s := rfl
@[simp] theorem exec_l0pNarrow (port : Nat) : exec (.l0pNarrow port) s = execL0pNarrow port s := rfl
@[simp] theorem exec_l0pRestore (port : Nat) : exec (.l0pRestore port) s = execL0pRestore port s := rfl
@[simp] theorem exec_linkPowerState (port : Nat) (dst : PwrState) : exec (.linkPowerState port dst) s = execLinkPowerState port dst s := rfl
@[simp] theorem exec_refclkLost (q : Nat) : exec (.refclkLost q) s = execRefclkLost q s := rfl
@[simp] theorem exec_refclkReturn (q : Nat) : exec (.refclkReturn q) s = execRefclkReturn q s := rfl
@[simp] theorem exec_portPerstN (port : Nat) (asserted : Bool) : exec (.portPerstN port asserted) s = execPortPerstN port asserted s := rfl
@[simp] theorem exec_cachingRead (r : HomeReq) : exec (.cachingRead r) s = execCachingRead r s := rfl
@[simp] theorem exec_meminv (r : HomeReq) : exec (.meminv r) s = execMeminv r s := rfl
@[simp] theorem exec_writeback (r : HomeReq) : exec (.writeback r) s = execWriteback r s := rfl
@[simp] theorem exec_cleanEvict (r : HomeReq) : exec (.cleanEvict r) s = execCleanEvict r s := rfl
@[simp] theorem exec_nonCachingRead (r : HomeReq) : exec (.nonCachingRead r) s = execNonCachingRead r s := rfl
@[simp] theorem exec_nonCachingWrite (r : HomeReq) : exec (.nonCachingWrite r) s = execNonCachingWrite r s := rfl
@[simp] theorem exec_biconflict (r : HomeReq) : exec (.biconflict r) s = execBiconflict r s := rfl
@[simp] theorem exec_birsp (dla participant : Nat) (ans : BiRsp) : exec (.birsp dla participant ans) s = execBirsp dla participant ans s := rfl
@[simp] theorem exec_completionAck (dla : Nat) (kind : AckKind) (ecc : Ecc) : exec (.completionAck dla kind ecc) s = execCompletionAck dla kind ecc s := rfl
@[simp] theorem exec_deliveryNotice (dla : Nat) (sw : Nat) : exec (.deliveryNotice dla sw) s = execDeliveryNotice dla sw s := rfl
@[simp] theorem exec_dirCacheMissFill (set : Nat) (ecc0 ecc1 : Ecc) (way : Nat) (retry : Option Nat) : exec (.dirCacheMissFill set ecc0 ecc1 way retry) s = execDirCacheMissFill set ecc0 ecc1 way retry s := rfl
@[simp] theorem exec_snoopTimeout (dla participant : Nat) : exec (.snoopTimeout dla participant) s = execSnoopTimeout dla participant s := rfl
@[simp] theorem exec_epochBoundary : exec (.epochBoundary) s = execEpochBoundary s := rfl
@[simp] theorem exec_heatSweep (set : Nat) (bad : Option Nat) : exec (.heatSweep set bad) s = execHeatSweep set bad s := rfl
@[simp] theorem exec_sprigWake (slot : Nat) : exec (.sprigWake slot) s = execSprigWake slot s := rfl
@[simp] theorem exec_sprigBudgetExpiry (slot : Nat) : exec (.sprigBudgetExpiry slot) s = execSprigBudgetExpiry slot s := rfl
@[simp] theorem exec_sprigTimerExpiry (slot : Nat) : exec (.sprigTimerExpiry slot) s = execSprigTimerExpiry slot s := rfl
@[simp] theorem exec_sageInDoorbell (slot : Nat) (v : Word) : exec (.sageInDoorbell slot v) s = execSageInDoorbell slot v s := rfl
@[simp] theorem exec_sageOutFullClear (slot : Nat) (v : Word) : exec (.sageOutFullClear slot v) s = execSageOutFullClear slot v s := rfl
@[simp] theorem exec_sagePlogCtrlWrite (v : Word) : exec (.sagePlogCtrlWrite v) s = execSagePlogCtrlWrite v s := rfl
@[simp] theorem exec_sagePlogTailWrite (v : Word) : exec (.sagePlogTailWrite v) s = execSagePlogTailWrite v s := rfl
@[simp] theorem exec_add (slot rd ra rb : Nat) : exec (.add slot rd ra rb) s = execAdd slot rd ra rb s := rfl
@[simp] theorem exec_sub (slot rd ra rb : Nat) : exec (.sub slot rd ra rb) s = execSub slot rd ra rb s := rfl
@[simp] theorem exec_and (slot rd ra rb : Nat) : exec (.and slot rd ra rb) s = execAnd slot rd ra rb s := rfl
@[simp] theorem exec_or (slot rd ra rb : Nat) : exec (.or slot rd ra rb) s = execOr slot rd ra rb s := rfl
@[simp] theorem exec_xor (slot rd ra rb : Nat) : exec (.xor slot rd ra rb) s = execXor slot rd ra rb s := rfl
@[simp] theorem exec_shl (slot rd ra rb : Nat) : exec (.shl slot rd ra rb) s = execShl slot rd ra rb s := rfl
@[simp] theorem exec_shr (slot rd ra rb : Nat) : exec (.shr slot rd ra rb) s = execShr slot rd ra rb s := rfl
@[simp] theorem exec_sar (slot rd ra rb : Nat) : exec (.sar slot rd ra rb) s = execSar slot rd ra rb s := rfl
@[simp] theorem exec_mul (slot rd ra rb : Nat) : exec (.mul slot rd ra rb) s = execMul slot rd ra rb s := rfl
@[simp] theorem exec_mulhu (slot rd ra rb : Nat) : exec (.mulhu slot rd ra rb) s = execMulhu slot rd ra rb s := rfl
@[simp] theorem exec_divu (slot rd ra rb : Nat) : exec (.divu slot rd ra rb) s = execDivu slot rd ra rb s := rfl
@[simp] theorem exec_remu (slot rd ra rb : Nat) : exec (.remu slot rd ra rb) s = execRemu slot rd ra rb s := rfl
@[simp] theorem exec_ltu (slot rd ra rb : Nat) : exec (.ltu slot rd ra rb) s = execLtu slot rd ra rb s := rfl
@[simp] theorem exec_lt (slot rd ra rb : Nat) : exec (.lt slot rd ra rb) s = execLt slot rd ra rb s := rfl
@[simp] theorem exec_minu (slot rd ra rb : Nat) : exec (.minu slot rd ra rb) s = execMinu slot rd ra rb s := rfl
@[simp] theorem exec_maxu (slot rd ra rb : Nat) : exec (.maxu slot rd ra rb) s = execMaxu slot rd ra rb s := rfl
@[simp] theorem exec_popc (slot rd ra : Nat) : exec (.popc slot rd ra) s = execPopc slot rd ra s := rfl
@[simp] theorem exec_clz (slot rd ra : Nat) : exec (.clz slot rd ra) s = execClz slot rd ra s := rfl
@[simp] theorem exec_addi (slot rd ra : Nat) (imm : BitVec 32) : exec (.addi slot rd ra imm) s = execAddi slot rd ra imm s := rfl
@[simp] theorem exec_andi (slot rd ra : Nat) (imm : BitVec 32) : exec (.andi slot rd ra imm) s = execAndi slot rd ra imm s := rfl
@[simp] theorem exec_ori (slot rd ra : Nat) (imm : BitVec 32) : exec (.ori slot rd ra imm) s = execOri slot rd ra imm s := rfl
@[simp] theorem exec_xori (slot rd ra : Nat) (imm : BitVec 32) : exec (.xori slot rd ra imm) s = execXori slot rd ra imm s := rfl
@[simp] theorem exec_shli (slot rd ra : Nat) (imm : BitVec 32) : exec (.shli slot rd ra imm) s = execShli slot rd ra imm s := rfl
@[simp] theorem exec_shri (slot rd ra : Nat) (imm : BitVec 32) : exec (.shri slot rd ra imm) s = execShri slot rd ra imm s := rfl
@[simp] theorem exec_sari (slot rd ra : Nat) (imm : BitVec 32) : exec (.sari slot rd ra imm) s = execSari slot rd ra imm s := rfl
@[simp] theorem exec_ltui (slot rd ra : Nat) (imm : BitVec 32) : exec (.ltui slot rd ra imm) s = execLtui slot rd ra imm s := rfl
@[simp] theorem exec_lti (slot rd ra : Nat) (imm : BitVec 32) : exec (.lti slot rd ra imm) s = execLti slot rd ra imm s := rfl
@[simp] theorem exec_immhi (slot rd ra : Nat) (imm : BitVec 32) : exec (.immhi slot rd ra imm) s = execImmhi slot rd ra imm s := rfl
@[simp] theorem exec_ld (slot rd ra : Nat) (imm : BitVec 32) (ecc : Ecc) : exec (.ld slot rd ra imm ecc) s = execLd slot rd ra imm ecc s := rfl
@[simp] theorem exec_st (slot ra rb : Nat) (imm : BitVec 32) : exec (.st slot ra rb imm) s = execSt slot ra rb imm s := rfl
@[simp] theorem exec_br (slot cond ra rb : Nat) (imm : BitVec 32) : exec (.br slot cond ra rb imm) s = execBr slot cond ra rb imm s := rfl
@[simp] theorem exec_call (slot rd : Nat) (imm : BitVec 32) : exec (.call slot rd imm) s = execCall slot rd imm s := rfl
@[simp] theorem exec_jumpr (slot rd ra : Nat) (imm : BitVec 32) : exec (.jumpr slot rd ra imm) s = execJumpr slot rd ra imm s := rfl
@[simp] theorem exec_wait (slot rd : Nat) : exec (.wait slot rd) s = execWait slot rd s := rfl
@[simp] theorem exec_halt (slot : Nat) : exec (.halt slot) s = execHalt slot s := rfl
@[simp] theorem exec_timer (slot ra : Nat) (imm : BitVec 32) : exec (.timer slot ra imm) s = execTimer slot ra imm s := rfl
@[simp] theorem exec_time (slot rd : Nat) : exec (.time slot rd) s = execTime slot rd s := rfl
@[simp] theorem exec_epochn (slot rd : Nat) : exec (.epochn slot rd) s = execEpochn slot rd s := rfl
@[simp] theorem exec_hotpop (slot rd : Nat) (bad : Bool) : exec (.hotpop slot rd bad) s = execHotpop slot rd bad s := rfl
@[simp] theorem exec_heatrd (slot rd ra rb : Nat) (imm : BitVec 32) (bad : Bool) : exec (.heatrd slot rd ra rb imm bad) s = execHeatrd slot rd ra rb imm bad s := rfl
@[simp] theorem exec_heatidx (slot rd ra : Nat) (bad : Bool) : exec (.heatidx slot rd ra bad) s = execHeatidx slot rd ra bad s := rfl
@[simp] theorem exec_egrd (slot rd ra : Nat) (imm : BitVec 32) (bad : Bool) : exec (.egrd slot rd ra imm bad) s = execEgrd slot rd ra imm bad s := rfl
@[simp] theorem exec_maprd (slot rd ra rb : Nat) : exec (.maprd slot rd ra rb) s = execMaprd slot rd ra rb s := rfl
@[simp] theorem exec_poolrd (slot rd ra : Nat) : exec (.poolrd slot rd ra) s = execPoolrd slot rd ra s := rfl
@[simp] theorem exec_prop (slot rd : Nat) (src : MemBlock) : exec (.prop slot rd src) s = execProp slot rd src s := rfl
@[simp] theorem exec_res (slot rd : Nat) : exec (.res slot rd) s = execRes slot rd s := rfl
@[simp] theorem exec_mbrd (slot rd : Nat) (imm : BitVec 32) : exec (.mbrd slot rd imm) s = execMbrd slot rd imm s := rfl
@[simp] theorem exec_mbwr (slot ra : Nat) (imm : BitVec 32) : exec (.mbwr slot ra imm) s = execMbwr slot ra imm s := rfl
@[simp] theorem exec_mbsend (slot rd : Nat) : exec (.mbsend slot rd) s = execMbsend slot rd s := rfl
@[simp] theorem exec_mbdone (slot : Nat) : exec (.mbdone slot) s = execMbdone slot s := rfl
@[simp] theorem exec_migrate (slot : Nat) : exec (.migrate slot) s = execMigrate slot s := rfl
@[simp] theorem exec_split (slot : Nat) : exec (.split slot) s = execSplit slot s := rfl
@[simp] theorem exec_weight (slot : Nat) : exec (.weight slot) s = execWeight slot s := rfl
@[simp] theorem exec_policer (slot : Nat) : exec (.policer slot) s = execPolicer slot s := rfl
@[simp] theorem exec_note (slot : Nat) : exec (.note slot) s = execNote slot s := rfl
@[simp] theorem exec_propFwd (src slot epoch : Nat) (words : List Word) : exec (.propFwd src slot epoch words) s = execPropFwd src slot epoch words s := rfl
@[simp] theorem exec_propRes (status tag slot : Nat) : exec (.propRes status tag slot) s = execPropRes status tag slot s := rfl
@[simp] theorem exec_proposalTimeout (slot tag : Nat) : exec (.proposalTimeout slot tag) s = execProposalTimeout slot tag s := rfl
@[simp] theorem exec_arbiterTick (g : Nat) : exec (.arbiterTick g) s = execArbiterTick g s := rfl
@[simp] theorem exec_moverDecision (m : Nat) (ecc : Ecc) : exec (.moverDecision m ecc) s = execMoverDecision m ecc s := rfl
@[simp] theorem exec_burstEnd (m : Nat) : exec (.burstEnd m) s = execBurstEnd m s := rfl
@[simp] theorem exec_moverLineComplete (m : Nat) (ev : LineEvent) : exec (.moverLineComplete m ev) s = execMoverLineComplete m ev s := rfl
@[simp] theorem exec_moverWatchdog (m : Nat) : exec (.moverWatchdog m) s = execMoverWatchdog m s := rfl
@[simp] theorem exec_migrationMarkCommitted (k : Nat) : exec (.migrationMarkCommitted k) s = execMigrationMarkCommitted k s := rfl
@[simp] theorem exec_migrationFenceDrained (k : Nat) : exec (.migrationFenceDrained k) s = execMigrationFenceDrained k s := rfl
@[simp] theorem exec_migrationLineCopied (k line mover tag : Nat) : exec (.migrationLineCopied k line mover tag) s = execMigrationLineCopied k line mover tag s := rfl
@[simp] theorem exec_migrationSwapCommitted (k : Nat) : exec (.migrationSwapCommitted k) s = execMigrationSwapCommitted k s := rfl
@[simp] theorem exec_migrationSettled (k : Nat) : exec (.migrationSettled k) s = execMigrationSettled k s := rfl
@[simp] theorem exec_migrationUndoDone (k : Nat) : exec (.migrationUndoDone k) s = execMigrationUndoDone k s := rfl
@[simp] theorem exec_gateEntryChange (e : Nat) : exec (.gateEntryChange e) s = execGateEntryChange e s := rfl
@[simp] theorem exec_gclSwitchover (e : Nat) : exec (.gclSwitchover e) s = execGclSwitchover e s := rfl
@[simp] theorem exec_histSample (e : Nat) : exec (.histSample e) s = execHistSample e s := rfl
@[simp] theorem exec_histClear (e : Nat) (v : Word) : exec (.histClear e v) s = execHistClear e v s := rfl
@[simp] theorem exec_payloadFlit (l : Nat) (h : FlitHdr) (crcOk : Bool) (fecCorrected : Nat) (part : List FlitPart) : exec (.payloadFlit l h crcOk fecCorrected part) s = execPayloadFlit l h crcOk fecCorrected part s := rfl
@[simp] theorem exec_idleFlit (l : Nat) (h : FlitHdr) (crcOk : Bool) : exec (.idleFlit l h crcOk) s = execIdleFlit l h crcOk s := rfl
@[simp] theorem exec_microFlit (l : Nat) (mf : MicroFlit) (crcOk : Bool) : exec (.microFlit l mf crcOk) s = execMicroFlit l mf crcOk s := rfl
@[simp] theorem exec_replayTimer (l : Nat) (hw : ReplayHw) : exec (.replayTimer l hw) s = execReplayTimer l hw s := rfl
@[simp] theorem exec_retrainDone (l : Nat) (ok : Bool) : exec (.retrainDone l ok) s = execRetrainDone l ok s := rfl
@[simp] theorem exec_oblTrainingStep (l : Nat) (step : TrainStep) : exec (.oblTrainingStep l step) s = execOblTrainingStep l step s := rfl
@[simp] theorem exec_init (l : Nat) (info : InitInfo) : exec (.init l info) s = execInit l info s := rfl
@[simp] theorem exec_creditTimeout (l vc : Nat) : exec (.creditTimeout l vc) s = execCreditTimeout l vc s := rfl
@[simp] theorem exec_flowQuiescence (dest ingress vc : Nat) : exec (.flowQuiescence dest ingress vc) s = execFlowQuiescence dest ingress vc s := rfl
@[simp] theorem exec_sleepEntry (l : Nat) : exec (.sleepEntry l) s = execSleepEntry l s := rfl
@[simp] theorem exec_sleep (l : Nat) : exec (.sleep l) s = execSleep l s := rfl
@[simp] theorem exec_directionWake (l : Nat) : exec (.directionWake l) s = execDirectionWake l s := rfl
@[simp] theorem exec_heartbeatSend : exec (.heartbeatSend) s = execHeartbeatSend s := rfl
@[simp] theorem exec_heartbeat (e : Word) (count : Nat) : exec (.heartbeat e count) s = execHeartbeat e count s := rfl
@[simp] theorem exec_mgrLost : exec (.mgrLost) s = execMgrLost s := rfl
@[simp] theorem exec_messageRelease (l : Nat) (m : Msg) : exec (.messageRelease l m) s = execMessageRelease l m s := rfl
@[simp] theorem exec_flowRestart (l : Nat) (m : Msg) : exec (.flowRestart l m) s = execFlowRestart l m s := rfl
@[simp] theorem exec_gap (l : Nat) (m : Msg) : exec (.gap l m) s = execGap l m s := rfl
@[simp] theorem exec_intx (l : Nat) (m : Msg) : exec (.intx l m) s = execIntx l m s := rfl
@[simp] theorem exec_sideband (l : Nat) (m : Msg) : exec (.sideband l m) s = execSideband l m s := rfl
@[simp] theorem exec_sidebandOut (l : Nat) (m : Msg) : exec (.sidebandOut l m) s = execSidebandOut l m s := rfl
@[simp] theorem exec_mrdlk (port owner ingress : Nat) : exec (.mrdlk port owner ingress) s = execMrdlk port owner ingress s := rfl
@[simp] theorem exec_unlock (port owner ingress : Nat) : exec (.unlock port owner ingress) s = execUnlock port owner ingress s := rfl
@[simp] theorem exec_lockTimeout (port : Nat) : exec (.lockTimeout port) s = execLockTimeout port s := rfl
@[simp] theorem exec_vfSqTail (vf : Nat) (v : Word) : exec (.vfSqTail vf v) s = execVfSqTail vf v s := rfl
@[simp] theorem exec_vfCqHead (vf : Nat) (v : Word) : exec (.vfCqHead vf v) s = execVfCqHead vf v s := rfl
@[simp] theorem exec_eqHead (vf : Nat) (v : Word) : exec (.eqHead vf v) s = execEqHead vf v s := rfl
@[simp] theorem exec_mbSend (vf : Nat) (v : Word) : exec (.mbSend vf v) s = execMbSend vf v s := rfl
@[simp] theorem exec_mbDone (vf : Nat) (v : Word) : exec (.mbDone vf v) s = execMbDone vf v s := rfl
@[simp] theorem exec_vfInDoorbell (v : Word) : exec (.vfInDoorbell v) s = execVfInDoorbell v s := rfl
@[simp] theorem exec_vfOutFullClear (v : Word) : exec (.vfOutFullClear v) s = execVfOutFullClear v s := rfl
@[simp] theorem exec_vfCringCtrlWrite (vf : Nat) (v : Word) : exec (.vfCringCtrlWrite vf v) s = execVfCringCtrlWrite vf v s := rfl
@[simp] theorem exec_vfEvqCtrlWrite (vf : Nat) (v : Word) : exec (.vfEvqCtrlWrite vf v) s = execVfEvqCtrlWrite vf v s := rfl
@[simp] theorem exec_functionLevelReset (vf : Nat) : exec (.functionLevelReset vf) s = execFunctionLevelReset vf s := rfl
@[simp] theorem exec_vfEnableClear (enable : Bool) (numVfs : Nat) : exec (.vfEnableClear enable numVfs) s = execVfEnableClear enable numVfs s := rfl
@[simp] theorem exec_pfConventionalReset : exec (.pfConventionalReset) s = execPfConventionalReset s := rfl
@[simp] theorem exec_fltStatusWrite (v : Word) : exec (.fltStatusWrite v) s = execFltStatusWrite v s := rfl
@[simp] theorem exec_evtPendWrite (r : Nat) (v : Word) : exec (.evtPendWrite r v) s = execEvtPendWrite r v s := rfl
@[simp] theorem exec_evtMaskWrite (r : Nat) (v : Word) : exec (.evtMaskWrite r v) s = execEvtMaskWrite r v s := rfl
@[simp] theorem exec_winDenyInfoWrite (h : Nat) (v : Word) : exec (.winDenyInfoWrite h v) s = execWinDenyInfoWrite h v s := rfl
@[simp] theorem exec_coalescerTimer (vec : Nat) : exec (.coalescerTimer vec) s = execCoalescerTimer vec s := rfl
@[simp] theorem exec_msixUnmask (vec : Nat) : exec (.msixUnmask vec) s = execMsixUnmask vec s := rfl
@[simp] theorem exec_slotSample (c : Nat) (m : SlotMeas) : exec (.slotSample c m) s = execSlotSample c m s := rfl
@[simp] theorem exec_fastTrip (c : Nat) : exec (.fastTrip c) s = execFastTrip c s := rfl
@[simp] theorem exec_presenceChange (c : Nat) (long short : Bool) : exec (.presenceChange c long short) s = execPresenceChange c long short s := rfl
@[simp] theorem exec_seated (c : Nat) : exec (.seated c) s = execSeated c s := rfl
@[simp] theorem exec_prsntMismatch (c : Nat) : exec (.prsntMismatch c) s = execPrsntMismatch c s := rfl
@[simp] theorem exec_unseated (c : Nat) (long : Bool) : exec (.unseated c long) s = execUnseated c long s := rfl
@[simp] theorem exec_seatingAbandoned (c : Nat) : exec (.seatingAbandoned c) s = execSeatingAbandoned c s := rfl
@[simp] theorem exec_inrushTimeout (c : Nat) : exec (.inrushTimeout c) s = execInrushTimeout c s := rfl
@[simp] theorem exec_busAbort (c : Nat) : exec (.busAbort c) s = execBusAbort c s := rfl
@[simp] theorem exec_outShort (c : Nat) : exec (.outShort c) s = execOutShort c s := rfl
@[simp] theorem exec_perstDeassert (c : Nat) : exec (.perstDeassert c) s = execPerstDeassert c s := rfl
@[simp] theorem exec_retryCountClear (c : Nat) : exec (.retryCountClear c) s = execRetryCountClear c s := rfl
@[simp] theorem exec_stoppingGateOff (c : Nat) : exec (.stoppingGateOff c) s = execStoppingGateOff c s := rfl
@[simp] theorem exec_backoffEnd (c : Nat) : exec (.backoffEnd c) s = execBackoffEnd c s := rfl
@[simp] theorem exec_autoRelease (c : Nat) : exec (.autoRelease c) s = execAutoRelease c s := rfl
@[simp] theorem exec_placeFree : exec (.placeFree) s = execPlaceFree s := rfl
@[simp] theorem exec_hostPowerControl (c : Nat) (on : Bool) : exec (.hostPowerControl c on) s = execHostPowerControl c on s := rfl
@[simp] theorem exec_wakeN (c : Nat) (low : Bool) : exec (.wakeN c low) s = execWakeN c low s := rfl
@[simp] theorem exec_attnBtnN (c : Nat) (low : Bool) : exec (.attnBtnN c low) s = execAttnBtnN c low s := rfl
@[simp] theorem exec_ppsIn (freqOk : Bool) : exec (.ppsIn freqOk) s = execPpsIn freqOk s := rfl
@[simp] theorem exec_sourceLost (kind : Nat) : exec (.sourceLost kind) s = execSourceLost kind s := rfl
@[simp] theorem exec_timeFreqInLoss : exec (.timeFreqInLoss) s = execTimeFreqInLoss s := rfl
@[simp] theorem exec_thymeStep : exec (.thymeStep) s = execThymeStep s := rfl
@[simp] theorem exec_ppsOutPulse : exec (.ppsOutPulse) s = execPpsOutPulse s := rfl
@[simp] theorem exec_syncExchange : exec (.syncExchange) s = execSyncExchange s := rfl
@[simp] theorem exec_timeReq (l src : Nat) (tx : Word) (seq : Nat) : exec (.timeReq l src tx seq) s = execTimeReq l src tx seq s := rfl
@[simp] theorem exec_timeRsp (seq : Nat) (t1 t2 t3 t4 : Word) (state err : Nat) : exec (.timeRsp seq t1 t2 t3 t4 state err) s = execTimeRsp seq t1 t2 t3 t4 state err s := rfl
@[simp] theorem exec_dbgChallenge : exec (.dbgChallenge) s = execDbgChallenge s := rfl
@[simp] theorem exec_dbgResponse (valid : Bool) : exec (.dbgResponse valid) s = execDbgResponse valid s := rfl
@[simp] theorem exec_spdmRequest (op : SpdmOp) : exec (.spdmRequest op) s = execSpdmRequest op s := rfl
@[simp] theorem exec_kSetGo (stream : Nat) : exec (.kSetGo stream) s = execKSetGo stream s := rfl
@[simp] theorem exec_ideFail (stream : Nat) : exec (.ideFail stream) s = execIdeFail stream s := rfl
@[simp] theorem exec_coldResetRelease (mgrSel : Bool) (pb0Bifur timeRef switchId : Nat) : exec (.coldResetRelease mgrSel pb0Bifur timeRef switchId) s = execColdResetRelease mgrSel pb0Bifur timeRef switchId s := rfl
@[simp] theorem exec_commaLockLost (lane : Nat) : exec (.commaLockLost lane) s = execCommaLockLost lane s := rfl
@[simp] theorem exec_linkDrainTimeout (l : Nat) : exec (.linkDrainTimeout l) s = execLinkDrainTimeout l s := rfl
@[simp] theorem exec_tempHighClear : exec (.tempHighClear) s = execTempHighClear s := rfl
@[simp] theorem exec_moverRestartDone (m : Nat) : exec (.moverRestartDone m) s = execMoverRestartDone m s := rfl
@[simp] theorem exec_functionLevelResetEnd (vf : Nat) : exec (.functionLevelResetEnd vf) s = execFunctionLevelResetEnd vf s := rfl
@[simp] theorem exec_reloadComplete (host : Option Nat) (port : Option Nat) : exec (.reloadComplete host port) s = execReloadComplete host port s := rfl

end Sys2Proof.Machine
end

