-- ==== Sys2Proof/Laws/PerInstr.lean ====
section
/-! SUPPORT. What well-formedness says of each command: the units that it names are in range. -/

namespace Sys2Proof.Laws.Units

/-- The units, indices and register numbers that a command names are ones that the hardware has (03 R76, 13 R363,
14 R366, 15 R401 and the register tables). -/
def Exist : Instr → Prop
  | .coldReset _ => True
  | .supplyMonitorTrip _ => True
  | .bringUpPhase _ => True
  | .epochSettled => True
  | .glbResetWarm _ => True
  | .glbResetCold _ => True
  | .wrstN => True
  | .mcFault core => core < 16
  | .warmResetDrainEnd => True
  | .thermtrip sensor => sensor < 16
  | .tempHigh sensor => sensor < 16
  | .coreRateLow monitor => monitor < 32
  | .vddCoreLoop _ monitor _ _ => monitor < 32
  | .supply _ => True
  | .registerWrite fn bar off _ => fn.wf = true ∧ fn.inBar bar off = true
  | .narrowAccess fn bar off _ _ => fn.wf = true ∧ fn.inBar bar off = true
  | .glbCfgrptCtrlWrite _ => True
  | .glbCfgrptTailWrite _ => True
  | .cmdMringCtrlWrite m _ => m < 2
  | .sqTail m _ => m < 2
  | .cqHead m _ => m < 2
  | .descriptorFetch ring _ => ring.wf = true
  | .heldRecordFlush fn _ => fn.wf = true
  | .nop _ => True
  | .epochClaim _ => True
  | .objQuery _ => True
  | .objCommit _ _ => True
  | .objAbort _ => True
  | .generationCommitDone _ => True
  | .tblDrain _ => True
  | .rtWrite _ _ => True
  | .ghThreshSet _ => True
  | .capConfigFilter _ => True
  | .capConfigRing _ => True
  | .capTailWrite _ => True
  | .winWrite _ => True
  | .winLock _ => True
  | .winEpochFence _ => True
  | .mapWrite _ _ => True
  | .define _ _ _ => True
  | .attach _ => True
  | .detach _ site => site.wf = true
  | .destroy _ _ => True
  | .readmit _ _ => True
  | .dirPartitionSet _ _ => True
  | .dirQuotaSetHome _ => True
  | .dirQuotaSetDomain _ => True
  | .fabricApplyResend sw _ => sw < 32
  | .switchJoin sw _ => sw < 32
  | .sprigLoad _ _ _ => True
  | .sprigStart _ => True
  | .sprigStop _ => True
  | .commitLimitsSet _ => True
  | .telConfig _ => True
  | .pageMigrate _ => True
  | .moveSubmit _ _ => True
  | .arbClassSet _ => True
  | .queueSet _ => True
  | .policerSet _ => True
  | .shaperSet _ => True
  | .gclWrite _ _ => True
  | .portConfig _ => True
  | .portReset _ => True
  | .laneTest _ => True
  | .eyeScan _ => True
  | .eyeScanEnd lane _ _ _ => lane < 512
  | .oblConfigLink _ => True
  | .oblConfigRoute _ => True
  | .oblConfigFabric _ _ => True
  | .stwConfig _ => True
  | .vfCreate _ _ => True
  | .vfDestroy _ => True
  | .vecConfigLine _ => True
  | .vecConfigVector _ => True
  | .slotPolicySet _ => True
  | .slotThermalModelSet _ => True
  | .slotRelease _ => True
  | .slotOff _ => True
  | .slotTreadsSet _ => True
  | .slotUnlock _ => True
  | .unitRetire _ => True
  | .unitReturn _ _ => True
  | .unitJoin unit => unit < 65536
  | .timeConfig _ => True
  | .set _ => True
  | .calWrite _ _ => True
  | .calRestoreFactory _ => True
  | .imageUpdate _ _ => True
  | .flashOpDone _ => True
  | .flashEraseSector _ => True
  | .flashProgram _ => True
  | .flashRead _ => True
  | .forwardTimeout _ => True
  | .cmdFwd src _ => src < 32
  | .cplFwd _ _ => True
  | .epoch _ => True
  | .hostRequest r _ => r.ingress < 129
  | .policerRelease p => p < 4096
  | .mapCacheMissFill _ => True
  | .responseArrival r => r.ingress < 129
  | .egressSelect e _ => e < 129
  | .bankRelocationDone => True
  | .captureRecordWrite => True
  | .configRequest port fn _ => port < 112 ∧ fn.wf = true
  | .portEngineStop port => port < 112
  | .portEngineRestartDone port => port < 112
  | .marginingCommand lane _ => lane < 512
  | .linkUp port _ => port < 112
  | .equalizationFail port _ _ => port < 112
  | .portDown port => port < 112
  | .dpcRelease port => port < 112
  | .symbolLockLost lane _ => lane < 512
  | .recoveryRetrainDone port _ => port < 112
  | .l0pNarrow port => port < 112
  | .l0pRestore port => port < 112
  | .linkPowerState port _ => port < 112
  | .refclkLost q => q < 4
  | .refclkReturn q => q < 4
  | .portPerstN port _ => port < 112
  | .cachingRead r => r.domain < 64
  | .meminv r => r.domain < 64
  | .writeback r => r.domain < 64
  | .cleanEvict r => r.domain < 64
  | .nonCachingRead r => r.domain < 64
  | .nonCachingWrite r => r.domain < 64
  | .biconflict r => r.domain < 64
  | .birsp dla _ _ => dla / 2 ^ 40 < 64
  | .completionAck dla _ _ => dla / 2 ^ 40 < 64
  | .deliveryNotice dla sw => dla / 2 ^ 40 < 64 ∧ sw < 32
  | .dirCacheMissFill n _ _ _ _ => n < 2 ^ 27
  | .snoopTimeout dla _ => dla / 2 ^ 40 < 64
  | .epochBoundary => True
  | .heatSweep n _ => n < 2 ^ 25
  | .sprigWake slot => slot < 32
  | .sprigBudgetExpiry slot => slot < 32
  | .sprigTimerExpiry slot => slot < 32
  | .sageInDoorbell slot _ => slot < 32
  | .sageOutFullClear slot _ => slot < 32
  | .sagePlogCtrlWrite _ => True
  | .sagePlogTailWrite _ => True
  | .add slot rd ra rb => slot < 32 ∧ rd < 32 ∧ ra < 32 ∧ rb < 32
  | .sub slot rd ra rb => slot < 32 ∧ rd < 32 ∧ ra < 32 ∧ rb < 32
  | .and slot rd ra rb => slot < 32 ∧ rd < 32 ∧ ra < 32 ∧ rb < 32
  | .or slot rd ra rb => slot < 32 ∧ rd < 32 ∧ ra < 32 ∧ rb < 32
  | .xor slot rd ra rb => slot < 32 ∧ rd < 32 ∧ ra < 32 ∧ rb < 32
  | .shl slot rd ra rb => slot < 32 ∧ rd < 32 ∧ ra < 32 ∧ rb < 32
  | .shr slot rd ra rb => slot < 32 ∧ rd < 32 ∧ ra < 32 ∧ rb < 32
  | .sar slot rd ra rb => slot < 32 ∧ rd < 32 ∧ ra < 32 ∧ rb < 32
  | .mul slot rd ra rb => slot < 32 ∧ rd < 32 ∧ ra < 32 ∧ rb < 32
  | .mulhu slot rd ra rb => slot < 32 ∧ rd < 32 ∧ ra < 32 ∧ rb < 32
  | .divu slot rd ra rb => slot < 32 ∧ rd < 32 ∧ ra < 32 ∧ rb < 32
  | .remu slot rd ra rb => slot < 32 ∧ rd < 32 ∧ ra < 32 ∧ rb < 32
  | .ltu slot rd ra rb => slot < 32 ∧ rd < 32 ∧ ra < 32 ∧ rb < 32
  | .lt slot rd ra rb => slot < 32 ∧ rd < 32 ∧ ra < 32 ∧ rb < 32
  | .minu slot rd ra rb => slot < 32 ∧ rd < 32 ∧ ra < 32 ∧ rb < 32
  | .maxu slot rd ra rb => slot < 32 ∧ rd < 32 ∧ ra < 32 ∧ rb < 32
  | .popc slot rd ra => slot < 32 ∧ rd < 32 ∧ ra < 32
  | .clz slot rd ra => slot < 32 ∧ rd < 32 ∧ ra < 32
  | .addi slot rd ra _ => slot < 32 ∧ rd < 32 ∧ ra < 32
  | .andi slot rd ra _ => slot < 32 ∧ rd < 32 ∧ ra < 32
  | .ori slot rd ra _ => slot < 32 ∧ rd < 32 ∧ ra < 32
  | .xori slot rd ra _ => slot < 32 ∧ rd < 32 ∧ ra < 32
  | .shli slot rd ra _ => slot < 32 ∧ rd < 32 ∧ ra < 32
  | .shri slot rd ra _ => slot < 32 ∧ rd < 32 ∧ ra < 32
  | .sari slot rd ra _ => slot < 32 ∧ rd < 32 ∧ ra < 32
  | .ltui slot rd ra _ => slot < 32 ∧ rd < 32 ∧ ra < 32
  | .lti slot rd ra _ => slot < 32 ∧ rd < 32 ∧ ra < 32
  | .immhi slot rd ra _ => slot < 32 ∧ rd < 32 ∧ ra < 32
  | .ld slot rd ra _ _ => slot < 32 ∧ rd < 32 ∧ ra < 32
  | .st slot ra rb _ => slot < 32 ∧ ra < 32 ∧ rb < 32
  | .br slot cond ra rb _ => slot < 32 ∧ cond < 9 ∧ ra < 32 ∧ rb < 32
  | .call slot rd _ => slot < 32 ∧ rd < 32
  | .jumpr slot rd ra _ => slot < 32 ∧ rd < 32 ∧ ra < 32
  | .wait slot rd => slot < 32 ∧ rd < 32
  | .halt slot => slot < 32
  | .timer slot ra _ => slot < 32 ∧ ra < 32
  | .time slot rd => slot < 32 ∧ rd < 32
  | .epochn slot rd => slot < 32 ∧ rd < 32
  | .hotpop slot rd _ => slot < 32 ∧ rd < 32
  | .heatrd slot rd ra rb _ _ => slot < 32 ∧ rd < 32 ∧ ra < 32 ∧ rb < 32
  | .heatidx slot rd ra _ => slot < 32 ∧ rd < 32 ∧ ra < 32
  | .egrd slot rd ra _ _ => slot < 32 ∧ rd < 32 ∧ ra < 32
  | .maprd slot rd ra rb => slot < 32 ∧ rd < 32 ∧ ra < 32 ∧ rb < 32
  | .poolrd slot rd ra => slot < 32 ∧ rd < 32 ∧ ra < 32
  | .prop slot rd src => slot < 32 ∧ rd < 32 ∧ src.ra < 32
  | .res slot rd => slot < 32 ∧ rd < 32
  | .mbrd slot rd _ => slot < 32 ∧ rd < 32
  | .mbwr slot ra _ => slot < 32 ∧ ra < 32
  | .mbsend slot rd => slot < 32 ∧ rd < 32
  | .mbdone slot => slot < 32
  | .migrate slot => slot < 32
  | .split slot => slot < 32
  | .weight slot => slot < 32
  | .policer slot => slot < 32
  | .note slot => slot < 32
  | .propFwd src slot _ _ => src < 32 ∧ slot < 32
  | .propRes _ _ slot => slot < 32
  | .proposalTimeout slot _ => slot < 32
  | .arbiterTick g => g < 8
  | .moverDecision m _ => m < 64
  | .burstEnd m => m < 64
  | .moverLineComplete m _ => m < 64
  | .moverWatchdog m => m < 64
  | .migrationMarkCommitted k => k < 256
  | .migrationFenceDrained k => k < 256
  | .migrationLineCopied k _ mover _ => k < 256 ∧ mover < 64
  | .migrationSwapCommitted k => k < 256
  | .migrationSettled k => k < 256
  | .migrationUndoDone k => k < 256
  | .gateEntryChange e => e < 129
  | .gclSwitchover e => e < 129
  | .histSample e => e < 129
  | .histClear e _ => e < 129
  | .payloadFlit l _ _ _ _ => l < 8
  | .idleFlit l _ _ => l < 8
  | .microFlit l mf _ => l < 8 ∧ mf.dest < 32
  | .replayTimer l _ => l < 8
  | .retrainDone l _ => l < 8
  | .oblTrainingStep l _ => l < 8
  | .init l _ => l < 8
  | .creditTimeout l vc => l < 8 ∧ vc < 4
  | .flowQuiescence dest ingress vc => dest < 32 ∧ ingress < 129 ∧ vc < 4
  | .sleepEntry l => l < 8
  | .sleep l => l < 8
  | .directionWake l => l < 8
  | .heartbeatSend => True
  | .heartbeat _ _ => True
  | .mgrLost => True
  | .messageRelease l m => l < 8 ∧ m.wf = true
  | .flowRestart l m => l < 8 ∧ m.wf = true
  | .gap l m => l < 8 ∧ m.wf = true
  | .intx l m => l < 8 ∧ m.wf = true
  | .sideband l m => l < 8 ∧ m.wf = true
  | .sidebandOut l m => l < 8 ∧ m.wf = true
  | .mrdlk port owner ingress => port < 112 ∧ owner < 32 ∧ ingress < 129
  | .unlock port owner ingress => port < 112 ∧ owner < 32 ∧ ingress < 129
  | .lockTimeout port => port < 112
  | .vfSqTail vf _ => vf < 2048
  | .vfCqHead vf _ => vf < 2048
  | .eqHead vf _ => vf < 2048
  | .mbSend vf _ => vf < 2048
  | .mbDone vf _ => vf < 2048
  | .vfInDoorbell _ => True
  | .vfOutFullClear _ => True
  | .vfCringCtrlWrite vf _ => vf < 2048
  | .vfEvqCtrlWrite vf _ => vf < 2048
  | .functionLevelReset vf => vf < 2048
  | .vfEnableClear _ _ => True
  | .pfConventionalReset => True
  | .fltStatusWrite _ => True
  | .evtPendWrite r _ => r < 64
  | .evtMaskWrite r _ => r < 64
  | .winDenyInfoWrite h _ => h < 64
  | .coalescerTimer vec => vec < 8192
  | .msixUnmask vec => vec < 8192
  | .slotSample c _ => c < 32
  | .fastTrip c => c < 32
  | .presenceChange c _ _ => c < 32
  | .seated c => c < 32
  | .prsntMismatch c => c < 32
  | .unseated c _ => c < 32
  | .seatingAbandoned c => c < 32
  | .inrushTimeout c => c < 32
  | .busAbort c => c < 32
  | .outShort c => c < 32
  | .perstDeassert c => c < 32
  | .retryCountClear c => c < 32
  | .stoppingGateOff c => c < 32
  | .backoffEnd c => c < 32
  | .autoRelease c => c < 32
  | .placeFree => True
  | .hostPowerControl c _ => c < 32
  | .wakeN c _ => c < 32
  | .attnBtnN c _ => c < 32
  | .ppsIn _ => True
  | .sourceLost kind => kind < 4
  | .timeFreqInLoss => True
  | .thymeStep => True
  | .ppsOutPulse => True
  | .syncExchange => True
  | .timeReq l src _ _ => l < 8 ∧ src < 32
  | .timeRsp _ _ _ _ _ _ _ => True
  | .dbgChallenge => True
  | .dbgResponse _ => True
  | .spdmRequest _ => True
  | .kSetGo _ => True
  | .ideFail _ => True
  | .coldResetRelease _ _ _ _ => True
  | .commaLockLost lane => lane < 512
  | .linkDrainTimeout l => l < 8
  | .tempHighClear => True
  | .moverRestartDone m => m < 64
  | .functionLevelResetEnd vf => vf < 2048
  | .reloadComplete host port => host.all (fun n => decide (n < 64)) = true ∧ port.all (fun n => decide (n < 112)) = true

/-- A command is well formed exactly where the units that it names exist. -/
def Statement (i : Instr) : Prop := i.wf = true ↔ Exist i

theorem always : true = true ↔ True := ⟨fun _ => trivial, fun _ => rfl⟩

theorem two {a b : Bool} {p q : Prop} (h : a = true ↔ p) (k : b = true ↔ q) : (a && b) = true ↔ p ∧ q :=
  Bool.and_eq_true_iff.trans (and_congr h k)

theorem three {a b c : Bool} {p q r : Prop} (h : a = true ↔ p) (k : b = true ↔ q) (l : c = true ↔ r) :
    (a && b && c) = true ↔ p ∧ q ∧ r :=
  (two (two h k) l).trans and_assoc

theorem four {a b c d : Bool} {p q r s : Prop} (h : a = true ↔ p) (k : b = true ↔ q) (l : c = true ↔ r) (m : d = true ↔ s) :
    (a && b && c && d) = true ↔ p ∧ q ∧ r ∧ s :=
  (two (three h k l) m).trans (and_assoc.trans (and_congr_right fun _ => and_assoc))

theorem coldReset (cause : ColdCause) : Statement (.coldReset cause) := always
theorem supplyMonitorTrip (rail : Rail) : Statement (.supplyMonitorTrip rail) := always
theorem bringUpPhase (boot : BootInfo) : Statement (.bringUpPhase boot) := always
theorem epochSettled : Statement .epochSettled := always
theorem glbResetWarm (v : Word) : Statement (.glbResetWarm v) := always
theorem glbResetCold (v : Word) : Statement (.glbResetCold v) := always
theorem wrstN : Statement .wrstN := always
theorem mcFault (core : Nat) : Statement (.mcFault core) := decide_eq_true_iff
theorem warmResetDrainEnd : Statement .warmResetDrainEnd := always
theorem thermtrip (sensor : Nat) : Statement (.thermtrip sensor) := decide_eq_true_iff
theorem tempHigh (sensor : Nat) : Statement (.tempHigh sensor) := decide_eq_true_iff
theorem coreRateLow (monitor : Nat) : Statement (.coreRateLow monitor) := decide_eq_true_iff
theorem vddCoreLoop (ppm monitor : Nat) (ack : Bool) (readback : Nat) : Statement (.vddCoreLoop ppm monitor ack readback) := decide_eq_true_iff
theorem supply (readback : Option Nat) : Statement (.supply readback) := always
theorem registerWrite (fn : Fn) (bar off : Nat) (v : Word) : Statement (.registerWrite fn bar off v) := two Iff.rfl Iff.rfl
theorem narrowAccess (fn : Fn) (bar off : Nat) (write : Bool) (v : Word) : Statement (.narrowAccess fn bar off write v) := two Iff.rfl Iff.rfl
theorem glbCfgrptCtrlWrite (v : Word) : Statement (.glbCfgrptCtrlWrite v) := always
theorem glbCfgrptTailWrite (v : Word) : Statement (.glbCfgrptTailWrite v) := always
theorem cmdMringCtrlWrite (m : Nat) (v : Word) : Statement (.cmdMringCtrlWrite m v) := decide_eq_true_iff
theorem sqTail (m : Nat) (v : Word) : Statement (.sqTail m v) := decide_eq_true_iff
theorem cqHead (m : Nat) (v : Word) : Statement (.cqHead m v) := decide_eq_true_iff
theorem descriptorFetch (ring : RingId) (d : Option Desc) : Statement (.descriptorFetch ring d) := Iff.rfl
theorem heldRecordFlush (fn : Fn) (portUp : Bool) : Statement (.heldRecordFlush fn portUp) := Iff.rfl
theorem nop (seq : Nat) : Statement (.nop seq) := always
theorem epochClaim (seq : Nat) : Statement (.epochClaim seq) := always
theorem objQuery (seq : Nat) : Statement (.objQuery seq) := always
theorem objCommit (seq : Nat) (hashOk : Bool) : Statement (.objCommit seq hashOk) := always
theorem objAbort (seq : Nat) : Statement (.objAbort seq) := always
theorem generationCommitDone (seq : Nat) : Statement (.generationCommitDone seq) := always
theorem tblDrain (seq : Nat) : Statement (.tblDrain seq) := always
theorem rtWrite (seq : Nat) (data : ReadData) : Statement (.rtWrite seq data) := always
theorem ghThreshSet (seq : Nat) : Statement (.ghThreshSet seq) := always
theorem capConfigFilter (seq : Nat) : Statement (.capConfigFilter seq) := always
theorem capConfigRing (seq : Nat) : Statement (.capConfigRing seq) := always
theorem capTailWrite (v : Word) : Statement (.capTailWrite v) := always
theorem winWrite (seq : Nat) : Statement (.winWrite seq) := always
theorem winLock (seq : Nat) : Statement (.winLock seq) := always
theorem winEpochFence (seq : Nat) : Statement (.winEpochFence seq) := always
theorem mapWrite (seq : Nat) (data : ReadData) : Statement (.mapWrite seq data) := always
theorem define (seq : Nat) (data : ReadData) (answers : List SwitchAnswer) : Statement (.define seq data answers) := always
theorem attach (seq : Nat) : Statement (.attach seq) := always
theorem detach (seq : Nat) (site : DetachAt) : Statement (.detach seq site) := Iff.rfl
theorem destroy (seq : Nat) (answers : List SwitchAnswer) : Statement (.destroy seq answers) := always
theorem readmit (seq : Nat) (answers : List SwitchAnswer) : Statement (.readmit seq answers) := always
theorem dirPartitionSet (seq : Nat) (answers : List SwitchAnswer) : Statement (.dirPartitionSet seq answers) := always
theorem dirQuotaSetHome (seq : Nat) : Statement (.dirQuotaSetHome seq) := always
theorem dirQuotaSetDomain (seq : Nat) : Statement (.dirQuotaSetDomain seq) := always
theorem fabricApplyResend (sw : Nat) (applied : Bool) : Statement (.fabricApplyResend sw applied) := decide_eq_true_iff
theorem switchJoin (sw : Nat) (defs : ReadData) : Statement (.switchJoin sw defs) := decide_eq_true_iff
theorem sprigLoad (seq : Nat) (code data : ReadData) : Statement (.sprigLoad seq code data) := always
theorem sprigStart (seq : Nat) : Statement (.sprigStart seq) := always
theorem sprigStop (seq : Nat) : Statement (.sprigStop seq) := always
theorem commitLimitsSet (seq : Nat) : Statement (.commitLimitsSet seq) := always
theorem telConfig (seq : Nat) : Statement (.telConfig seq) := always
theorem pageMigrate (seq : Nat) : Statement (.pageMigrate seq) := always
theorem moveSubmit (seq : Nat) (data : ReadData) : Statement (.moveSubmit seq data) := always
theorem arbClassSet (seq : Nat) : Statement (.arbClassSet seq) := always
theorem queueSet (seq : Nat) : Statement (.queueSet seq) := always
theorem policerSet (seq : Nat) : Statement (.policerSet seq) := always
theorem shaperSet (seq : Nat) : Statement (.shaperSet seq) := always
theorem gclWrite (seq : Nat) (data : ReadData) : Statement (.gclWrite seq data) := always
theorem portConfig (seq : Nat) : Statement (.portConfig seq) := always
theorem portReset (seq : Nat) : Statement (.portReset seq) := always
theorem laneTest (seq : Nat) : Statement (.laneTest seq) := always
theorem eyeScan (seq : Nat) : Statement (.eyeScan seq) := always
theorem eyeScanEnd (lane seq : Nat) (last : Bool) (counts : List Nat) : Statement (.eyeScanEnd lane seq last counts) := decide_eq_true_iff
theorem oblConfigLink (seq : Nat) : Statement (.oblConfigLink seq) := always
theorem oblConfigRoute (seq : Nat) : Statement (.oblConfigRoute seq) := always
theorem oblConfigFabric (seq : Nat) (answers : List SwitchAnswer) : Statement (.oblConfigFabric seq answers) := always
theorem stwConfig (seq : Nat) : Statement (.stwConfig seq) := always
theorem vfCreate (seq : Nat) (data : ReadData) : Statement (.vfCreate seq data) := always
theorem vfDestroy (seq : Nat) : Statement (.vfDestroy seq) := always
theorem vecConfigLine (seq : Nat) : Statement (.vecConfigLine seq) := always
theorem vecConfigVector (seq : Nat) : Statement (.vecConfigVector seq) := always
theorem slotPolicySet (seq : Nat) : Statement (.slotPolicySet seq) := always
theorem slotThermalModelSet (seq : Nat) : Statement (.slotThermalModelSet seq) := always
theorem slotRelease (seq : Nat) : Statement (.slotRelease seq) := always
theorem slotOff (seq : Nat) : Statement (.slotOff seq) := always
theorem slotTreadsSet (seq : Nat) : Statement (.slotTreadsSet seq) := always
theorem slotUnlock (seq : Nat) : Statement (.slotUnlock seq) := always
theorem unitRetire (seq : Nat) : Statement (.unitRetire seq) := always
theorem unitReturn (seq : Nat) (testOk : Bool) : Statement (.unitReturn seq testOk) := always
theorem unitJoin (unit : Nat) : Statement (.unitJoin unit) := decide_eq_true_iff
theorem timeConfig (seq : Nat) : Statement (.timeConfig seq) := always
theorem set (seq : Nat) : Statement (.set seq) := always
theorem calWrite (seq : Nat) (data : ReadData) : Statement (.calWrite seq data) := always
theorem calRestoreFactory (seq : Nat) : Statement (.calRestoreFactory seq) := always
theorem imageUpdate (seq : Nat) (image : Option ImageHdr) : Statement (.imageUpdate seq image) := always
theorem flashOpDone (ok : Bool) : Statement (.flashOpDone ok) := always
theorem flashEraseSector (v : Word) : Statement (.flashEraseSector v) := always
theorem flashProgram (v : Word) : Statement (.flashProgram v) := always
theorem flashRead (v : Word) : Statement (.flashRead v) := always
theorem forwardTimeout (seq : Nat) : Statement (.forwardTimeout seq) := always
theorem cmdFwd (src : Nat) (d : Desc) : Statement (.cmdFwd src d) := decide_eq_true_iff
theorem cplFwd (seq : Nat) (cpl : Cpl) : Statement (.cplFwd seq cpl) := always
theorem epoch (e : Word) : Statement (.epoch e) := always
theorem hostRequest (r : Request) (hw : PathHw) : Statement (.hostRequest r hw) := decide_eq_true_iff
theorem policerRelease (p : Nat) : Statement (.policerRelease p) := decide_eq_true_iff
theorem mapCacheMissFill (hw : PathHw) : Statement (.mapCacheMissFill hw) := always
theorem responseArrival (r : Response) : Statement (.responseArrival r) := decide_eq_true_iff
theorem egressSelect (e : Nat) (hw : ReadHw) : Statement (.egressSelect e hw) := decide_eq_true_iff
theorem bankRelocationDone : Statement .bankRelocationDone := always
theorem captureRecordWrite : Statement .captureRecordWrite := always
theorem configRequest (port : Nat) (fn : Fn) (op : CfgOp) : Statement (.configRequest port fn op) := two decide_eq_true_iff Iff.rfl
theorem portEngineStop (port : Nat) : Statement (.portEngineStop port) := decide_eq_true_iff
theorem portEngineRestartDone (port : Nat) : Statement (.portEngineRestartDone port) := decide_eq_true_iff
theorem marginingCommand (lane : Nat) (start : Bool) : Statement (.marginingCommand lane start) := decide_eq_true_iff
theorem linkUp (port : Nat) (info : LinkInfo) : Statement (.linkUp port info) := decide_eq_true_iff
theorem equalizationFail (port rate : Nat) (second : Bool) : Statement (.equalizationFail port rate second) := decide_eq_true_iff
theorem portDown (port : Nat) : Statement (.portDown port) := decide_eq_true_iff
theorem dpcRelease (port : Nat) : Statement (.dpcRelease port) := decide_eq_true_iff
theorem symbolLockLost (lane : Nat) (seen : LaneSeen) : Statement (.symbolLockLost lane seen) := decide_eq_true_iff
theorem recoveryRetrainDone (port width : Nat) : Statement (.recoveryRetrainDone port width) := decide_eq_true_iff
theorem l0pNarrow (port : Nat) : Statement (.l0pNarrow port) := decide_eq_true_iff
theorem l0pRestore (port : Nat) : Statement (.l0pRestore port) := decide_eq_true_iff
theorem linkPowerState (port : Nat) (dst : PwrState) : Statement (.linkPowerState port dst) := decide_eq_true_iff
theorem refclkLost (q : Nat) : Statement (.refclkLost q) := decide_eq_true_iff
theorem refclkReturn (q : Nat) : Statement (.refclkReturn q) := decide_eq_true_iff
theorem portPerstN (port : Nat) (asserted : Bool) : Statement (.portPerstN port asserted) := decide_eq_true_iff
theorem cachingRead (r : HomeReq) : Statement (.cachingRead r) := decide_eq_true_iff
theorem meminv (r : HomeReq) : Statement (.meminv r) := decide_eq_true_iff
theorem writeback (r : HomeReq) : Statement (.writeback r) := decide_eq_true_iff
theorem cleanEvict (r : HomeReq) : Statement (.cleanEvict r) := decide_eq_true_iff
theorem nonCachingRead (r : HomeReq) : Statement (.nonCachingRead r) := decide_eq_true_iff
theorem nonCachingWrite (r : HomeReq) : Statement (.nonCachingWrite r) := decide_eq_true_iff
theorem biconflict (r : HomeReq) : Statement (.biconflict r) := decide_eq_true_iff
theorem birsp (dla participant : Nat) (ans : BiRsp) : Statement (.birsp dla participant ans) := decide_eq_true_iff
theorem completionAck (dla : Nat) (kind : AckKind) (ecc : Ecc) : Statement (.completionAck dla kind ecc) := decide_eq_true_iff
theorem deliveryNotice (dla : Nat) (sw : Nat) : Statement (.deliveryNotice dla sw) := two decide_eq_true_iff decide_eq_true_iff
theorem dirCacheMissFill (set : Nat) (ecc0 ecc1 : Ecc) (way : Nat) (retry : Option Nat) : Statement (.dirCacheMissFill set ecc0 ecc1 way retry) := decide_eq_true_iff
theorem snoopTimeout (dla participant : Nat) : Statement (.snoopTimeout dla participant) := decide_eq_true_iff
theorem epochBoundary : Statement .epochBoundary := always
theorem heatSweep (set : Nat) (bad : Option Nat) : Statement (.heatSweep set bad) := decide_eq_true_iff
theorem sprigWake (slot : Nat) : Statement (.sprigWake slot) := decide_eq_true_iff
theorem sprigBudgetExpiry (slot : Nat) : Statement (.sprigBudgetExpiry slot) := decide_eq_true_iff
theorem sprigTimerExpiry (slot : Nat) : Statement (.sprigTimerExpiry slot) := decide_eq_true_iff
theorem sageInDoorbell (slot : Nat) (v : Word) : Statement (.sageInDoorbell slot v) := decide_eq_true_iff
theorem sageOutFullClear (slot : Nat) (v : Word) : Statement (.sageOutFullClear slot v) := decide_eq_true_iff
theorem sagePlogCtrlWrite (v : Word) : Statement (.sagePlogCtrlWrite v) := always
theorem sagePlogTailWrite (v : Word) : Statement (.sagePlogTailWrite v) := always
theorem add (slot rd ra rb : Nat) : Statement (.add slot rd ra rb) := four decide_eq_true_iff decide_eq_true_iff decide_eq_true_iff decide_eq_true_iff
theorem sub (slot rd ra rb : Nat) : Statement (.sub slot rd ra rb) := four decide_eq_true_iff decide_eq_true_iff decide_eq_true_iff decide_eq_true_iff
theorem and (slot rd ra rb : Nat) : Statement (.and slot rd ra rb) := four decide_eq_true_iff decide_eq_true_iff decide_eq_true_iff decide_eq_true_iff
theorem or (slot rd ra rb : Nat) : Statement (.or slot rd ra rb) := four decide_eq_true_iff decide_eq_true_iff decide_eq_true_iff decide_eq_true_iff
theorem xor (slot rd ra rb : Nat) : Statement (.xor slot rd ra rb) := four decide_eq_true_iff decide_eq_true_iff decide_eq_true_iff decide_eq_true_iff
theorem shl (slot rd ra rb : Nat) : Statement (.shl slot rd ra rb) := four decide_eq_true_iff decide_eq_true_iff decide_eq_true_iff decide_eq_true_iff
theorem shr (slot rd ra rb : Nat) : Statement (.shr slot rd ra rb) := four decide_eq_true_iff decide_eq_true_iff decide_eq_true_iff decide_eq_true_iff
theorem sar (slot rd ra rb : Nat) : Statement (.sar slot rd ra rb) := four decide_eq_true_iff decide_eq_true_iff decide_eq_true_iff decide_eq_true_iff
theorem mul (slot rd ra rb : Nat) : Statement (.mul slot rd ra rb) := four decide_eq_true_iff decide_eq_true_iff decide_eq_true_iff decide_eq_true_iff
theorem mulhu (slot rd ra rb : Nat) : Statement (.mulhu slot rd ra rb) := four decide_eq_true_iff decide_eq_true_iff decide_eq_true_iff decide_eq_true_iff
theorem divu (slot rd ra rb : Nat) : Statement (.divu slot rd ra rb) := four decide_eq_true_iff decide_eq_true_iff decide_eq_true_iff decide_eq_true_iff
theorem remu (slot rd ra rb : Nat) : Statement (.remu slot rd ra rb) := four decide_eq_true_iff decide_eq_true_iff decide_eq_true_iff decide_eq_true_iff
theorem ltu (slot rd ra rb : Nat) : Statement (.ltu slot rd ra rb) := four decide_eq_true_iff decide_eq_true_iff decide_eq_true_iff decide_eq_true_iff
theorem lt (slot rd ra rb : Nat) : Statement (.lt slot rd ra rb) := four decide_eq_true_iff decide_eq_true_iff decide_eq_true_iff decide_eq_true_iff
theorem minu (slot rd ra rb : Nat) : Statement (.minu slot rd ra rb) := four decide_eq_true_iff decide_eq_true_iff decide_eq_true_iff decide_eq_true_iff
theorem maxu (slot rd ra rb : Nat) : Statement (.maxu slot rd ra rb) := four decide_eq_true_iff decide_eq_true_iff decide_eq_true_iff decide_eq_true_iff
theorem popc (slot rd ra : Nat) : Statement (.popc slot rd ra) := three decide_eq_true_iff decide_eq_true_iff decide_eq_true_iff
theorem clz (slot rd ra : Nat) : Statement (.clz slot rd ra) := three decide_eq_true_iff decide_eq_true_iff decide_eq_true_iff
theorem addi (slot rd ra : Nat) (imm : BitVec 32) : Statement (.addi slot rd ra imm) := three decide_eq_true_iff decide_eq_true_iff decide_eq_true_iff
theorem andi (slot rd ra : Nat) (imm : BitVec 32) : Statement (.andi slot rd ra imm) := three decide_eq_true_iff decide_eq_true_iff decide_eq_true_iff
theorem ori (slot rd ra : Nat) (imm : BitVec 32) : Statement (.ori slot rd ra imm) := three decide_eq_true_iff decide_eq_true_iff decide_eq_true_iff
theorem xori (slot rd ra : Nat) (imm : BitVec 32) : Statement (.xori slot rd ra imm) := three decide_eq_true_iff decide_eq_true_iff decide_eq_true_iff
theorem shli (slot rd ra : Nat) (imm : BitVec 32) : Statement (.shli slot rd ra imm) := three decide_eq_true_iff decide_eq_true_iff decide_eq_true_iff
theorem shri (slot rd ra : Nat) (imm : BitVec 32) : Statement (.shri slot rd ra imm) := three decide_eq_true_iff decide_eq_true_iff decide_eq_true_iff
theorem sari (slot rd ra : Nat) (imm : BitVec 32) : Statement (.sari slot rd ra imm) := three decide_eq_true_iff decide_eq_true_iff decide_eq_true_iff
theorem ltui (slot rd ra : Nat) (imm : BitVec 32) : Statement (.ltui slot rd ra imm) := three decide_eq_true_iff decide_eq_true_iff decide_eq_true_iff
theorem lti (slot rd ra : Nat) (imm : BitVec 32) : Statement (.lti slot rd ra imm) := three decide_eq_true_iff decide_eq_true_iff decide_eq_true_iff
theorem immhi (slot rd ra : Nat) (imm : BitVec 32) : Statement (.immhi slot rd ra imm) := three decide_eq_true_iff decide_eq_true_iff decide_eq_true_iff
theorem ld (slot rd ra : Nat) (imm : BitVec 32) (ecc : Ecc) : Statement (.ld slot rd ra imm ecc) := three decide_eq_true_iff decide_eq_true_iff decide_eq_true_iff
theorem st (slot ra rb : Nat) (imm : BitVec 32) : Statement (.st slot ra rb imm) := three decide_eq_true_iff decide_eq_true_iff decide_eq_true_iff
theorem br (slot cond ra rb : Nat) (imm : BitVec 32) : Statement (.br slot cond ra rb imm) := four decide_eq_true_iff decide_eq_true_iff decide_eq_true_iff decide_eq_true_iff
theorem call (slot rd : Nat) (imm : BitVec 32) : Statement (.call slot rd imm) := two decide_eq_true_iff decide_eq_true_iff
theorem jumpr (slot rd ra : Nat) (imm : BitVec 32) : Statement (.jumpr slot rd ra imm) := three decide_eq_true_iff decide_eq_true_iff decide_eq_true_iff
theorem wait (slot rd : Nat) : Statement (.wait slot rd) := two decide_eq_true_iff decide_eq_true_iff
theorem halt (slot : Nat) : Statement (.halt slot) := decide_eq_true_iff
theorem timer (slot ra : Nat) (imm : BitVec 32) : Statement (.timer slot ra imm) := two decide_eq_true_iff decide_eq_true_iff
theorem time (slot rd : Nat) : Statement (.time slot rd) := two decide_eq_true_iff decide_eq_true_iff
theorem epochn (slot rd : Nat) : Statement (.epochn slot rd) := two decide_eq_true_iff decide_eq_true_iff
theorem hotpop (slot rd : Nat) (bad : Bool) : Statement (.hotpop slot rd bad) := two decide_eq_true_iff decide_eq_true_iff
theorem heatrd (slot rd ra rb : Nat) (imm : BitVec 32) (bad : Bool) : Statement (.heatrd slot rd ra rb imm bad) := four decide_eq_true_iff decide_eq_true_iff decide_eq_true_iff decide_eq_true_iff
theorem heatidx (slot rd ra : Nat) (bad : Bool) : Statement (.heatidx slot rd ra bad) := three decide_eq_true_iff decide_eq_true_iff decide_eq_true_iff
theorem egrd (slot rd ra : Nat) (imm : BitVec 32) (bad : Bool) : Statement (.egrd slot rd ra imm bad) := three decide_eq_true_iff decide_eq_true_iff decide_eq_true_iff
theorem maprd (slot rd ra rb : Nat) : Statement (.maprd slot rd ra rb) := four decide_eq_true_iff decide_eq_true_iff decide_eq_true_iff decide_eq_true_iff
theorem poolrd (slot rd ra : Nat) : Statement (.poolrd slot rd ra) := three decide_eq_true_iff decide_eq_true_iff decide_eq_true_iff
theorem prop (slot rd : Nat) (src : MemBlock) : Statement (.prop slot rd src) := three decide_eq_true_iff decide_eq_true_iff decide_eq_true_iff
theorem res (slot rd : Nat) : Statement (.res slot rd) := two decide_eq_true_iff decide_eq_true_iff
theorem mbrd (slot rd : Nat) (imm : BitVec 32) : Statement (.mbrd slot rd imm) := two decide_eq_true_iff decide_eq_true_iff
theorem mbwr (slot ra : Nat) (imm : BitVec 32) : Statement (.mbwr slot ra imm) := two decide_eq_true_iff decide_eq_true_iff
theorem mbsend (slot rd : Nat) : Statement (.mbsend slot rd) := two decide_eq_true_iff decide_eq_true_iff
theorem mbdone (slot : Nat) : Statement (.mbdone slot) := decide_eq_true_iff
theorem migrate (slot : Nat) : Statement (.migrate slot) := decide_eq_true_iff
theorem split (slot : Nat) : Statement (.split slot) := decide_eq_true_iff
theorem weight (slot : Nat) : Statement (.weight slot) := decide_eq_true_iff
theorem policer (slot : Nat) : Statement (.policer slot) := decide_eq_true_iff
theorem note (slot : Nat) : Statement (.note slot) := decide_eq_true_iff
theorem propFwd (src slot epoch : Nat) (words : List Word) : Statement (.propFwd src slot epoch words) := two decide_eq_true_iff decide_eq_true_iff
theorem propRes (status tag slot : Nat) : Statement (.propRes status tag slot) := decide_eq_true_iff
theorem proposalTimeout (slot tag : Nat) : Statement (.proposalTimeout slot tag) := decide_eq_true_iff
theorem arbiterTick (g : Nat) : Statement (.arbiterTick g) := decide_eq_true_iff
theorem moverDecision (m : Nat) (ecc : Ecc) : Statement (.moverDecision m ecc) := decide_eq_true_iff
theorem burstEnd (m : Nat) : Statement (.burstEnd m) := decide_eq_true_iff
theorem moverLineComplete (m : Nat) (ev : LineEvent) : Statement (.moverLineComplete m ev) := decide_eq_true_iff
theorem moverWatchdog (m : Nat) : Statement (.moverWatchdog m) := decide_eq_true_iff
theorem migrationMarkCommitted (k : Nat) : Statement (.migrationMarkCommitted k) := decide_eq_true_iff
theorem migrationFenceDrained (k : Nat) : Statement (.migrationFenceDrained k) := decide_eq_true_iff
theorem migrationLineCopied (k line mover tag : Nat) : Statement (.migrationLineCopied k line mover tag) := two decide_eq_true_iff decide_eq_true_iff
theorem migrationSwapCommitted (k : Nat) : Statement (.migrationSwapCommitted k) := decide_eq_true_iff
theorem migrationSettled (k : Nat) : Statement (.migrationSettled k) := decide_eq_true_iff
theorem migrationUndoDone (k : Nat) : Statement (.migrationUndoDone k) := decide_eq_true_iff
theorem gateEntryChange (e : Nat) : Statement (.gateEntryChange e) := decide_eq_true_iff
theorem gclSwitchover (e : Nat) : Statement (.gclSwitchover e) := decide_eq_true_iff
theorem histSample (e : Nat) : Statement (.histSample e) := decide_eq_true_iff
theorem histClear (e : Nat) (v : Word) : Statement (.histClear e v) := decide_eq_true_iff
theorem payloadFlit (l : Nat) (h : FlitHdr) (crcOk : Bool) (fecCorrected : Nat) (part : List FlitPart) : Statement (.payloadFlit l h crcOk fecCorrected part) := decide_eq_true_iff
theorem idleFlit (l : Nat) (h : FlitHdr) (crcOk : Bool) : Statement (.idleFlit l h crcOk) := decide_eq_true_iff
theorem microFlit (l : Nat) (mf : MicroFlit) (crcOk : Bool) : Statement (.microFlit l mf crcOk) := two decide_eq_true_iff decide_eq_true_iff
theorem replayTimer (l : Nat) (hw : ReplayHw) : Statement (.replayTimer l hw) := decide_eq_true_iff
theorem retrainDone (l : Nat) (ok : Bool) : Statement (.retrainDone l ok) := decide_eq_true_iff
theorem oblTrainingStep (l : Nat) (step : TrainStep) : Statement (.oblTrainingStep l step) := decide_eq_true_iff
theorem init (l : Nat) (info : InitInfo) : Statement (.init l info) := decide_eq_true_iff
theorem creditTimeout (l vc : Nat) : Statement (.creditTimeout l vc) := two decide_eq_true_iff decide_eq_true_iff
theorem flowQuiescence (dest ingress vc : Nat) : Statement (.flowQuiescence dest ingress vc) := three decide_eq_true_iff decide_eq_true_iff decide_eq_true_iff
theorem sleepEntry (l : Nat) : Statement (.sleepEntry l) := decide_eq_true_iff
theorem sleep (l : Nat) : Statement (.sleep l) := decide_eq_true_iff
theorem directionWake (l : Nat) : Statement (.directionWake l) := decide_eq_true_iff
theorem heartbeatSend : Statement .heartbeatSend := always
theorem heartbeat (e : Word) (count : Nat) : Statement (.heartbeat e count) := always
theorem mgrLost : Statement .mgrLost := always
theorem messageRelease (l : Nat) (m : Msg) : Statement (.messageRelease l m) := two decide_eq_true_iff Iff.rfl
theorem flowRestart (l : Nat) (m : Msg) : Statement (.flowRestart l m) := two decide_eq_true_iff Iff.rfl
theorem gap (l : Nat) (m : Msg) : Statement (.gap l m) := two decide_eq_true_iff Iff.rfl
theorem intx (l : Nat) (m : Msg) : Statement (.intx l m) := two decide_eq_true_iff Iff.rfl
theorem sideband (l : Nat) (m : Msg) : Statement (.sideband l m) := two decide_eq_true_iff Iff.rfl
theorem sidebandOut (l : Nat) (m : Msg) : Statement (.sidebandOut l m) := two decide_eq_true_iff Iff.rfl
theorem mrdlk (port owner ingress : Nat) : Statement (.mrdlk port owner ingress) := three decide_eq_true_iff decide_eq_true_iff decide_eq_true_iff
theorem unlock (port owner ingress : Nat) : Statement (.unlock port owner ingress) := three decide_eq_true_iff decide_eq_true_iff decide_eq_true_iff
theorem lockTimeout (port : Nat) : Statement (.lockTimeout port) := decide_eq_true_iff
theorem vfSqTail (vf : Nat) (v : Word) : Statement (.vfSqTail vf v) := decide_eq_true_iff
theorem vfCqHead (vf : Nat) (v : Word) : Statement (.vfCqHead vf v) := decide_eq_true_iff
theorem eqHead (vf : Nat) (v : Word) : Statement (.eqHead vf v) := decide_eq_true_iff
theorem mbSend (vf : Nat) (v : Word) : Statement (.mbSend vf v) := decide_eq_true_iff
theorem mbDone (vf : Nat) (v : Word) : Statement (.mbDone vf v) := decide_eq_true_iff
theorem vfInDoorbell (v : Word) : Statement (.vfInDoorbell v) := always
theorem vfOutFullClear (v : Word) : Statement (.vfOutFullClear v) := always
theorem vfCringCtrlWrite (vf : Nat) (v : Word) : Statement (.vfCringCtrlWrite vf v) := decide_eq_true_iff
theorem vfEvqCtrlWrite (vf : Nat) (v : Word) : Statement (.vfEvqCtrlWrite vf v) := decide_eq_true_iff
theorem functionLevelReset (vf : Nat) : Statement (.functionLevelReset vf) := decide_eq_true_iff
theorem vfEnableClear (enable : Bool) (numVfs : Nat) : Statement (.vfEnableClear enable numVfs) := always
theorem pfConventionalReset : Statement .pfConventionalReset := always
theorem fltStatusWrite (v : Word) : Statement (.fltStatusWrite v) := always
theorem evtPendWrite (r : Nat) (v : Word) : Statement (.evtPendWrite r v) := decide_eq_true_iff
theorem evtMaskWrite (r : Nat) (v : Word) : Statement (.evtMaskWrite r v) := decide_eq_true_iff
theorem winDenyInfoWrite (h : Nat) (v : Word) : Statement (.winDenyInfoWrite h v) := decide_eq_true_iff
theorem coalescerTimer (vec : Nat) : Statement (.coalescerTimer vec) := decide_eq_true_iff
theorem msixUnmask (vec : Nat) : Statement (.msixUnmask vec) := decide_eq_true_iff
theorem slotSample (c : Nat) (m : SlotMeas) : Statement (.slotSample c m) := decide_eq_true_iff
theorem fastTrip (c : Nat) : Statement (.fastTrip c) := decide_eq_true_iff
theorem presenceChange (c : Nat) (long short : Bool) : Statement (.presenceChange c long short) := decide_eq_true_iff
theorem seated (c : Nat) : Statement (.seated c) := decide_eq_true_iff
theorem prsntMismatch (c : Nat) : Statement (.prsntMismatch c) := decide_eq_true_iff
theorem unseated (c : Nat) (long : Bool) : Statement (.unseated c long) := decide_eq_true_iff
theorem seatingAbandoned (c : Nat) : Statement (.seatingAbandoned c) := decide_eq_true_iff
theorem inrushTimeout (c : Nat) : Statement (.inrushTimeout c) := decide_eq_true_iff
theorem busAbort (c : Nat) : Statement (.busAbort c) := decide_eq_true_iff
theorem outShort (c : Nat) : Statement (.outShort c) := decide_eq_true_iff
theorem perstDeassert (c : Nat) : Statement (.perstDeassert c) := decide_eq_true_iff
theorem retryCountClear (c : Nat) : Statement (.retryCountClear c) := decide_eq_true_iff
theorem stoppingGateOff (c : Nat) : Statement (.stoppingGateOff c) := decide_eq_true_iff
theorem backoffEnd (c : Nat) : Statement (.backoffEnd c) := decide_eq_true_iff
theorem autoRelease (c : Nat) : Statement (.autoRelease c) := decide_eq_true_iff
theorem placeFree : Statement .placeFree := always
theorem hostPowerControl (c : Nat) (on : Bool) : Statement (.hostPowerControl c on) := decide_eq_true_iff
theorem wakeN (c : Nat) (low : Bool) : Statement (.wakeN c low) := decide_eq_true_iff
theorem attnBtnN (c : Nat) (low : Bool) : Statement (.attnBtnN c low) := decide_eq_true_iff
theorem ppsIn (freqOk : Bool) : Statement (.ppsIn freqOk) := always
theorem sourceLost (kind : Nat) : Statement (.sourceLost kind) := decide_eq_true_iff
theorem timeFreqInLoss : Statement .timeFreqInLoss := always
theorem thymeStep : Statement .thymeStep := always
theorem ppsOutPulse : Statement .ppsOutPulse := always
theorem syncExchange : Statement .syncExchange := always
theorem timeReq (l src : Nat) (tx : Word) (seq : Nat) : Statement (.timeReq l src tx seq) := two decide_eq_true_iff decide_eq_true_iff
theorem timeRsp (seq : Nat) (t1 t2 t3 t4 : Word) (state err : Nat) : Statement (.timeRsp seq t1 t2 t3 t4 state err) := always
theorem dbgChallenge : Statement .dbgChallenge := always
theorem dbgResponse (valid : Bool) : Statement (.dbgResponse valid) := always
theorem spdmRequest (op : SpdmOp) : Statement (.spdmRequest op) := always
theorem kSetGo (stream : Nat) : Statement (.kSetGo stream) := always
theorem ideFail (stream : Nat) : Statement (.ideFail stream) := always
theorem coldResetRelease (mgrSel : Bool) (pb0Bifur timeRef switchId : Nat) : Statement (.coldResetRelease mgrSel pb0Bifur timeRef switchId) := always
theorem commaLockLost (lane : Nat) : Statement (.commaLockLost lane) := decide_eq_true_iff
theorem linkDrainTimeout (l : Nat) : Statement (.linkDrainTimeout l) := decide_eq_true_iff
theorem tempHighClear : Statement .tempHighClear := always
theorem moverRestartDone (m : Nat) : Statement (.moverRestartDone m) := decide_eq_true_iff
theorem functionLevelResetEnd (vf : Nat) : Statement (.functionLevelResetEnd vf) := decide_eq_true_iff
theorem reloadComplete (host : Option Nat) (port : Option Nat) : Statement (.reloadComplete host port) := two Iff.rfl Iff.rfl

end Sys2Proof.Laws.Units
end

