-- ==== Sys2Proof/Laws/Seq.lean ====
section
/-! SUPPORT. What running one opcode does: the three ways in which a command that may run ends. -/

namespace Sys2Proof.Machine

theorem runOp_eq {s : State} {seq op : Nat} {c : SeqCmd} (h : Runs s seq op c) {sel : Desc → Bool}
    (hs : sel c.desc = true) (bump : Bool) (body : SeqCmd → State → CmdOut) :
    runOp op sel bump body seq s = execute bump body c s := by
  obtain ⟨h1, h2, h3, -, -⟩ := h
  simp [runOp, h1, h2, h3, hs]

/-- A command that may run reaches its own checks and effect. -/
theorem execute_eq {s : State} {seq op : Nat} {c : SeqCmd} (h : Runs s seq op c) (bump : Bool)
    (body : SeqCmd → State → CmdOut) :
    execute bump body c s =
      match body c s with
      | .fail code s' => finishFail c code s'
      | .done r ks s' => Completed c bump r ks s'
      | .wait ks s' => NowWaits c ks s' := by
  obtain ⟨-, h2, -, h4, h5⟩ := h
  unfold execute Completed NowWaits
  subst h2
  rcases h5 with h5 | ⟨h5, h6, h7⟩
  · simp only [h5, h4]; rfl
  · by_cases hv : versioned c = true
    · simp only [h5, h6, h4, h7 hv]; simp <;> rfl
    · simp only [h5, h6, h4, hv]; simp <;> rfl

theorem runOp_done {s s' : State} {seq op : Nat} {c : SeqCmd} {sel : Desc → Bool} {bump : Bool}
    {body : SeqCmd → State → CmdOut} {r : Word} {ks : List FieldClamp} (h : Runs s seq op c) (hs : sel c.desc = true)
    (hb : body c s = .done r ks s') : runOp op sel bump body seq s = Completed c bump r ks s' := by
  rw [runOp_eq h hs, execute_eq h, hb]

theorem runOp_wait {s s' : State} {seq op : Nat} {c : SeqCmd} {sel : Desc → Bool} {bump : Bool}
    {body : SeqCmd → State → CmdOut} {ks : List FieldClamp} (h : Runs s seq op c) (hs : sel c.desc = true)
    (hb : body c s = .wait ks s') : runOp op sel bump body seq s = NowWaits c ks s' := by
  rw [runOp_eq h hs, execute_eq h, hb]

theorem runOp_fail {s s' : State} {seq op code : Nat} {c : SeqCmd} {sel : Desc → Bool} {bump : Bool}
    {body : SeqCmd → State → CmdOut} (h : Runs s seq op c) (hs : sel c.desc = true)
    (hb : body c s = .fail code s') : runOp op sel bump body seq s = finishFail c code s' := by
  rw [runOp_eq h hs, execute_eq h, hb]

end Sys2Proof.Machine
end

