-- ==== Sys2Proof/Laws/Wire.lean ====
section
/-! SUPPORT. The layouts of the link's words lose no field: what is packed is read back, for every field within its
width (10 R277, R288; 11 R313, R327). -/

namespace Sys2Proof.Machine

/-- The sum that `pack` stores, term by term. -/
def packSum : List (Nat × Nat) → Nat
  | [] => 0
  | f :: l => f.1 * 2 ^ f.2 + packSum l

theorem packSum_nil : packSum [] = 0 := rfl

theorem packSum_cons (a k : Nat) (l : List (Nat × Nat)) : packSum ((a, k) :: l) = a * 2 ^ k + packSum l := by
  cases l <;> rfl

theorem foldl_packSum (l : List (Nat × Nat)) (n : Nat) :
    l.foldl (fun a f => a + f.1 * 2 ^ f.2) n = n + packSum l := by
  induction l generalizing n with
  | nil => rfl
  | cons f l ih => rw [List.foldl_cons, ih]; simp only [packSum]; omega

/-- The number that a packed word holds, when its fields fit. -/
theorem toNat_pack (l : List (Nat × Nat)) (n : Nat) (h : packSum l = n) (w : n < 2 ^ 64) : (pack l).toNat = n := by
  unfold pack w64
  rw [foldl_packSum, Nat.zero_add, h, BitVec.toNat_ofNat, Nat.mod_eq_of_lt w]

/-- A field read from a word whose number is known. -/
theorem fld_of_toNat (w : Word) (hi lo n q m v : Nat) (e : w.toNat = n) (hq : 2 ^ lo = q) (hm : 2 ^ (hi + 1 - lo) = m)
    (h : n / q % m = v) : fld w hi lo = v := by
  subst hq hm e
  exact h

/-- A flag read from a word whose number is known. -/
theorem bit_of_toNat (w : Word) (i n q : Nat) (b : Bool) (e : w.toNat = n) (hq : 2 ^ i = q) (h : n / q % 2 = b2n b) :
    bit w i = b := by
  subst hq e
  unfold bit
  rw [BitVec.getLsbD, Nat.testBit_eq_decide_div_mod_eq, h]
  cases b <;> rfl

theorem b2n_lt (b : Bool) : b2n b < 2 := by cases b <;> decide

theorem flitTypeCode_lt (t : FlitType) : FlitTypeCode t < 2 := by cases t <;> decide

theorem nth_zero (a : Word) (l : List Word) : nth (a :: l) 0 = a := rfl

theorem nth_one (a b : Word) (l : List Word) : nth (a :: b :: l) 1 = b := rfl

/-- The number of a flit header word (10 R277). -/
theorem flitHdrWord_toNat (t : FlitType) (h : FlitHdr) (w : flitHdrFits h = true) :
    (flitHdrWord t h).toNat = h.seq + h.ack * 4096 + h.vc * 16777216 + FlitTypeCode t * 67108864 + h.cvc * 268435456
      + h.credit * 1073741824 + b2n h.cong * 18014398509481984 + h.back * 72057594037927936 := by
  simp only [flitHdrFits, Bool.and_eq_true, decide_eq_true_eq] at w
  have hc := b2n_lt h.cong
  have ht := flitTypeCode_lt t
  unfold flitHdrWord
  apply toNat_pack
  · rw [packSum_cons, packSum_cons, packSum_cons, packSum_cons, packSum_cons, packSum_cons, packSum_cons, packSum_cons,
      packSum_nil]
    omega
  · omega

/-- Every flit header within its widths is read back with its TYPE (10 R277). -/
theorem flitHdr_roundtrip (t : FlitType) (h : FlitHdr) (w : flitHdrFits h = true) :
    flitHdrOf (flitHdrWord t h) = some (t, h) := by
  have e := flitHdrWord_toNat t h w
  simp only [flitHdrFits, Bool.and_eq_true, decide_eq_true_eq] at w
  have hc := b2n_lt h.cong
  have ht := flitTypeCode_lt t
  have f : flitHdrFields (flitHdrWord t h) = h := by
    unfold flitHdrFields
    rw [fld_of_toNat _ 11 0 _ 1 4096 h.seq e (by decide) (by decide) (by omega),
      fld_of_toNat _ 23 12 _ 4096 4096 h.ack e (by decide) (by decide) (by omega),
      fld_of_toNat _ 25 24 _ 16777216 4 h.vc e (by decide) (by decide) (by omega),
      fld_of_toNat _ 29 28 _ 268435456 4 h.cvc e (by decide) (by decide) (by omega),
      fld_of_toNat _ 53 30 _ 1073741824 16777216 h.credit e (by decide) (by decide) (by omega),
      fld_of_toNat _ 63 56 _ 72057594037927936 256 h.back e (by decide) (by decide) (by omega),
      bit_of_toNat _ 54 _ 18014398509481984 h.cong e (by decide) (by omega)]
  have g : fld (flitHdrWord t h) 27 26 = FlitTypeCode t :=
    fld_of_toNat _ 27 26 _ 67108864 4 _ e (by decide) (by decide) (by omega)
  unfold flitHdrOf
  rw [f, g]
  cases t <;> rfl

/-- Every micro-flit header within its widths is read back (10 R288). -/
theorem microHdr_roundtrip (m : MicroFlit) (w : microFits m = true) : microOf (microHdrWord m) m.content = m := by
  simp only [microFits, Bool.and_eq_true, decide_eq_true_eq] at w
  have hl := b2n_lt m.last
  have e : (microHdrWord m).toNat = m.bseq + m.back * 256 + m.mtype * 65536 + m.part * 1048576 + b2n m.last * 4194304
      + m.dest * 16777216 + m.src * 4294967296 := by
    unfold microHdrWord
    apply toNat_pack
    · rw [packSum_cons, packSum_cons, packSum_cons, packSum_cons, packSum_cons, packSum_cons, packSum_cons, packSum_nil]
      omega
    · omega
  unfold microOf
  rw [fld_of_toNat _ 7 0 _ 1 256 m.bseq e (by decide) (by decide) (by omega),
    fld_of_toNat _ 15 8 _ 256 256 m.back e (by decide) (by decide) (by omega),
    fld_of_toNat _ 19 16 _ 65536 16 m.mtype e (by decide) (by decide) (by omega),
    fld_of_toNat _ 21 20 _ 1048576 4 m.part e (by decide) (by decide) (by omega),
    fld_of_toNat _ 28 24 _ 16777216 32 m.dest e (by decide) (by decide) (by omega),
    fld_of_toNat _ 36 32 _ 4294967296 32 m.src e (by decide) (by decide) (by omega),
    bit_of_toNat _ 22 _ 4194304 m.last e (by decide) (by omega)]

/-- Every header unit 0 within its widths is read back (11 R313). -/
theorem unit0_roundtrip (m : Msg) (w : unit0Fits m = true) :
    unit0Of (unit0Words m) m.vc m.posted m.tag m.body = m := by
  simp only [unit0Fits, Bool.and_eq_true, decide_eq_true_eq] at w
  have hf : m.flags.toNat < 256 := m.flags.isLt
  have e0 : (pack [(m.mkind, 0), (m.flags.toNat, 8), (m.fseq, 16), (m.pfence, 32), (m.srcIngress, 48), (m.srcSwitch, 56)]).toNat
      = m.mkind + m.flags.toNat * 256 + m.fseq * 65536 + m.pfence * 4294967296 + m.srcIngress * 281474976710656
        + m.srcSwitch * 72057594037927936 := by
    apply toNat_pack
    · rw [packSum_cons, packSum_cons, packSum_cons, packSum_cons, packSum_cons, packSum_cons, packSum_nil]
      omega
    · omega
  have e1 : (pack [(m.dest, 0), (m.tc, 12), (m.destSwitch, 16), (m.dataUnits, 24), (m.notice, 32)]).toNat
      = m.dest + m.tc * 4096 + m.destSwitch * 65536 + m.dataUnits * 16777216 + m.notice * 4294967296 := by
    apply toNat_pack
    · rw [packSum_cons, packSum_cons, packSum_cons, packSum_cons, packSum_cons, packSum_nil]
      omega
    · omega
  unfold unit0Of unit0Words
  simp only [nth_zero, nth_one]
  rw [fld_of_toNat _ 7 0 _ 1 256 m.mkind e0 (by decide) (by decide) (by omega),
    fld_of_toNat _ 15 8 _ 256 256 m.flags.toNat e0 (by decide) (by decide) (by omega),
    fld_of_toNat _ 31 16 _ 65536 65536 m.fseq e0 (by decide) (by decide) (by omega),
    fld_of_toNat _ 47 32 _ 4294967296 65536 m.pfence e0 (by decide) (by decide) (by omega),
    fld_of_toNat _ 55 48 _ 281474976710656 256 m.srcIngress e0 (by decide) (by decide) (by omega),
    fld_of_toNat _ 60 56 _ 72057594037927936 32 m.srcSwitch e0 (by decide) (by decide) (by omega),
    fld_of_toNat _ 11 0 _ 1 4096 m.dest e1 (by decide) (by decide) (by omega),
    fld_of_toNat _ 15 12 _ 4096 16 m.tc e1 (by decide) (by decide) (by omega),
    fld_of_toNat _ 20 16 _ 65536 32 m.destSwitch e1 (by decide) (by decide) (by omega),
    fld_of_toNat _ 31 24 _ 16777216 256 m.dataUnits e1 (by decide) (by decide) (by omega),
    fld_of_toNat _ 63 32 _ 4294967296 4294967296 m.notice e1 (by decide) (by decide) (by omega),
    BitVec.ofNat_toNat, BitVec.setWidth_eq]

/-- Every content unit within its widths is read back (11 R327). -/
theorem signal_roundtrip (x : Signal) (w : signalFits x = true) : signalFields (signalWords x) = x := by
  simp only [signalFits, Bool.and_eq_true, decide_eq_true_eq] at w
  have e0 : (pack [(x.signal, 0), (x.state, 8), (x.port, 16), (x.channel, 32), (x.vs, 40), (x.vppb, 48)]).toNat
      = x.signal + x.state * 256 + x.port * 65536 + x.channel * 4294967296 + x.vs * 1099511627776 + x.vppb * 281474976710656 := by
    apply toNat_pack
    · rw [packSum_cons, packSum_cons, packSum_cons, packSum_cons, packSum_cons, packSum_cons, packSum_nil]
      omega
    · omega
  have e1 : (pack [(x.changes, 0)]).toNat = x.changes := by
    apply toNat_pack
    · rw [packSum_cons, packSum_nil]
      omega
    · omega
  unfold signalFields signalWords
  simp only [nth_zero, nth_one]
  rw [fld_of_toNat _ 7 0 _ 1 256 x.signal e0 (by decide) (by decide) (by omega),
    fld_of_toNat _ 15 8 _ 256 256 x.state e0 (by decide) (by decide) (by omega),
    fld_of_toNat _ 31 16 _ 65536 65536 x.port e0 (by decide) (by decide) (by omega),
    fld_of_toNat _ 39 32 _ 4294967296 256 x.channel e0 (by decide) (by decide) (by omega),
    fld_of_toNat _ 47 40 _ 1099511627776 256 x.vs e0 (by decide) (by decide) (by omega),
    fld_of_toNat _ 55 48 _ 281474976710656 256 x.vppb e0 (by decide) (by decide) (by omega),
    fld_of_toNat _ 31 0 _ 1 4294967296 x.changes e1 (by decide) (by decide) (by omega)]

end Sys2Proof.Machine
end

