-- ==== Sys2Proof/Tests/Slice0.lean ====
section
/-! SUPPORT. Tests of the model: every check of `Instr.wf` refuses an ill-formed command; one small step per family of
commands, its expected result taken from the rule it cites; and for every statement of Obligations.lean that has
hypotheses a state and operands that meet them (`witness_…`). -/

namespace Sys2Proof.Tests
open Sys2Proof Sys2Proof.Machine

/-- A switch that is up and READY, alone and the manager. -/
def up : State := { State.reset with
  glb := { State.reset.glb with ready := true, bringUp := .up, mgrSel := true } }

/-- A checked script command with opcode `op` on object (`cls`, `idx`) and its four arguments. -/
def com (op cls idx a0 a1 a2 a3 : Nat) : SeqCmd :=
  ⟨0, .script, 0, ⟨BitVec.ofNat 16 op, 0, 7, 0, BitVec.ofNat 64 (cls * 2 ^ 52 + idx), 0, BitVec.ofNat 64 a0, BitVec.ofNat 64 a1,
    BitVec.ofNat 64 a2, BitVec.ofNat 64 a3⟩, .ready, 0, 0⟩

/-- A state with one command in flight, its number 0. -/
def given (c : SeqCmd) (s : State) : State := { s with cmd := { s.cmd with inflight := [c], seqNext := 1 } }

/-! ## Ill-formed commands, one for each check of `Instr.wf` -/

def linkInfo0 : LinkInfo := ⟨1, 1, false, 0, false, false, false, false, .none, 0, false, 1⟩
def req0 : HomeReq := ⟨0, 64, some 0, .A, false, 0, false, .ok, .ok, 0, 0, 64, false, []⟩
def msg0 : Msg := ⟨1, 0, 0, 0, 0, 0, 0, 0, 0, 0, 0, 0, true, 0, .homeRead 0⟩
def host0 : Request := ⟨129, .range none 0, 0, none, false, .pcieWr, 0, 64, 0, 0, false, false, none, none, false, [], []⟩
def hw0 : PathHw := ⟨.ok, .ok, .ok, 0, none, false, false, .ok, false, none⟩

theorem test_wf_refuses_units_of_the_chassis :
    [Instr.mcFault 16, .thermtrip 16, .tempHigh 16, .coreRateLow 32, .vddCoreLoop 0 32 true 0, .refclkLost 4, .refclkReturn 4,
     .sourceLost 4, .unitJoin 65536].all (fun c => !c.wf) = true := by decide
theorem test_wf_refuses_registers :
    [Instr.registerWrite (.vf 2048) 0 0 0, .registerWrite .pf 1 0 0, .registerWrite .pf 0 0x2000000 0,
     .registerWrite (.vf 0) 0 0x2000 0, .registerWrite (.vf 0) 2 0x1000 0, .narrowAccess (.vf 2048) 0 0 true 0,
     .narrowAccess .pf 3 0 false 0].all (fun c => !c.wf) = true := by decide
theorem test_wf_refuses_rings :
    [Instr.cmdMringCtrlWrite 2 0, .sqTail 2 0, .cqHead 2 0, .descriptorFetch (.mring 2) none, .descriptorFetch (.tenant 2048) none,
     .heldRecordFlush (.vf 2048) true, .vfSqTail 2048 0, .vfCqHead 2048 0, .eqHead 2048 0, .mbSend 2048 0, .mbDone 2048 0,
     .vfCringCtrlWrite 2048 0, .vfEvqCtrlWrite 2048 0, .functionLevelReset 2048, .functionLevelResetEnd 2048].all
      (fun c => !c.wf) = true := by decide
theorem test_wf_refuses_switches :
    [Instr.fabricApplyResend 32 false, .switchJoin 32 none, .cmdFwd 32 (com 1 0 0 0 0 0 0).desc, .propFwd 32 0 0 [],
     .propFwd 0 32 0 [], .deliveryNotice 0 32, .timeReq 0 32 0 0, .flowQuiescence 32 0 0, .flowQuiescence 0 129 0,
     .flowQuiescence 0 0 4, .mrdlk 0 32 0, .mrdlk 0 0 129, .unlock 112 0 0].all (fun c => !c.wf) = true := by decide
theorem test_wf_refuses_ports :
    [Instr.hostRequest host0 hw0, .configRequest 112 .pf (.read 0), .configRequest 0 (.vf 2048) (.read 0), .portEngineStop 112,
     .portEngineRestartDone 112, .linkUp 112 linkInfo0, .equalizationFail 112 1 true, .portDown 112,
     .dpcRelease 112, .recoveryRetrainDone 112 1, .l0pNarrow 112, .l0pRestore 112, .linkPowerState 112 .l0, .portPerstN 112 true,
     .lockTimeout 112].all (fun c => !c.wf) = true := by decide
theorem test_wf_refuses_lanes :
    [Instr.eyeScanEnd 512 0 true [], .marginingCommand 512 true, .symbolLockLost 512 ⟨false, .quiet⟩, .commaLockLost 512].all
      (fun c => !c.wf) = true := by decide
theorem test_wf_refuses_domains :
    [Instr.detach 0 (.away 64 0), .cachingRead req0, .meminv req0, .writeback req0, .cleanEvict req0, .nonCachingRead req0, .nonCachingWrite req0,
     .biconflict req0, .birsp (64 * 2 ^ 40) 0 .I, .completionAck (64 * 2 ^ 40) .requester .ok, .deliveryNotice (64 * 2 ^ 40) 0,
     .snoopTimeout (64 * 2 ^ 40) 0, .dirCacheMissFill (2 ^ 27) .ok .ok 0 none, .heatSweep (2 ^ 25) none].all (fun c => !c.wf) = true := by
  decide
theorem test_wf_refuses_slots :
    [Instr.sprigWake 32, .sprigBudgetExpiry 32, .sprigTimerExpiry 32, .sageInDoorbell 32 0, .sageOutFullClear 32 0, .halt 32,
     .mbdone 32, .migrate 32, .split 32, .weight 32, .policer 32, .note 32, .propRes 0 0 32, .proposalTimeout 32 0].all
      (fun c => !c.wf) = true := by decide
theorem test_wf_refuses_sage_registers :
    [Instr.add 32 0 0 0, .sub 0 32 0 0, .and 0 0 32 0, .or 0 0 0 32, .popc 0 32 0, .addi 0 0 32 0, .ld 0 32 0 0 .ok,
     .st 0 32 0 0, .st 0 0 32 0, .br 0 9 0 0 0, .br 0 0 0 32 0, .call 0 32 0, .jumpr 0 0 32 0, .wait 0 32, .timer 0 32 0,
     .time 0 32, .heatrd 0 0 0 32 0 false, .egrd 0 0 32 0 false, .maprd 0 0 0 32, .prop 0 0 ⟨32, []⟩, .mbrd 0 32 0, .mbwr 0 32 0].all
      (fun c => !c.wf) = true := by decide
theorem test_wf_refuses_movers :
    [Instr.arbiterTick 8, .moverDecision 64 .ok, .burstEnd 64, .moverLineComplete 64 .issue, .moverWatchdog 64, .moverRestartDone 64,
     .migrationMarkCommitted 256, .migrationFenceDrained 256, .migrationLineCopied 256 0 0 0, .migrationLineCopied 0 0 64 0, .migrationSwapCommitted 256,
     .migrationSettled 256, .migrationUndoDone 256].all (fun c => !c.wf) = true := by decide
theorem test_wf_refuses_egresses :
    [Instr.policerRelease 4096, .egressSelect 129 ⟨[], .ok⟩, .gateEntryChange 129, .gclSwitchover 129, .histSample 129,
     .histClear 129 0].all (fun c => !c.wf) = true := by decide
theorem test_wf_refuses_links :
    [Instr.idleFlit 8 ⟨0, 0, 0, 0, 0, false, 0⟩ true, .replayTimer 8 ⟨0, .ok, .ok⟩, .retrainDone 8 true, .oblTrainingStep 8 .signal,
     .creditTimeout 8 0, .creditTimeout 0 4, .sleepEntry 8, .sleep 8, .directionWake 8, .linkDrainTimeout 8,
     .messageRelease 8 msg0, .flowRestart 0 { msg0 with srcSwitch := 32 }, .gap 0 { msg0 with destSwitch := 32 },
     .intx 0 { msg0 with srcIngress := 129 }, .sideband 0 { msg0 with vc := 4 }, .sidebandOut 8 msg0].all
      (fun c => !c.wf) = true := by decide
theorem test_wf_refuses_events_and_channels :
    [Instr.evtPendWrite 64 0, .evtMaskWrite 64 0, .winDenyInfoWrite 64 0, .coalescerTimer 8192, .msixUnmask 8192, .fastTrip 32,
     .seated 32, .prsntMismatch 32, .inrushTimeout 32, .autoRelease 32, .hostPowerControl 32 true, .wakeN 32 true,
     .reloadComplete (some 64) none, .reloadComplete none (some 112)].all (fun c => !c.wf) = true := by decide
theorem test_wf_accepts_the_last_units :
    [Instr.mcFault 15, .br 0 8 31 31 0, .registerWrite (.vf 2047) 2 0xFF8 0, .registerWrite .pf 0 0x1FFFFF8 0, .mbDone 2047 0,
     .reloadComplete (some 63) (some 111), .gap 7 { msg0 with vc := 3 }].all (fun c => c.wf) = true := by decide
/-- The table gives no row any bits (spec/opcode_table.json), so no word spells a command. -/
theorem test_no_word_spells_a_command : decodeTableWord 8 0 = none ∧ decodeTableWord 64 0xFFFFFFFFFFFFFFFF = none := by decide

/-! ## Witnesses: for each statement with hypotheses, values that meet those of each clause

A clause that asks only for a unit in range, or for either value of a flag, has no line of its own. -/

/-- The command `c` runs in state `s`, as the statements about sequenced commands ask. -/
def runs (op : Nat) (c : SeqCmd) (s : State) : Prop := Runs (given c s) 0 op c

/-- VF 2047 is created; it has vectors 4 to 7. -/
def tenant : State := { up with vf := { up.vf with
  enable := true, numVfs := 2048
  vfs := [(2047, { Vf.reset with
    state := .created, vecBase := 4, vecCount := 4, ringSlots := 1, jobsMax := 1, bme := true, instEpoch := 1 })] } }

/-- A host that takes the records of every function. -/
def hosted (s : State) : State := { s with host := { s.host with pfBme := true, pfUp := true } }

/-- Ring 1 is enabled, with one descriptor to fetch. -/
def ringed (s : State) : State := { hosted s with cmd := { s.cmd with ring1 := { CmdRing.reset with enable := true, sqTail := 1 } } }

theorem witness_StepRunsTheFrontCommand : State.reset.pending = [] := rfl

/-- Sixteen ahead of FETCHED is the largest accepted SQ_TAIL; a CQ_HEAD equal to WRITTEN is the nearest accepted. -/
theorem witness_DoorbellsMoveTailAndHead : up.glb.imageFail = false ∧ vfOpen tenant 2047 = true ∧
    (16 + 2 ^ 32 - (getRing up (.mring 1)).fetched) % 2 ^ 32 = 2 ^ (getRing up (.mring 1)).sizeLog2 ∧
    2 ^ (getRing up (.mring 1)).sizeLog2 < (17 + 2 ^ 32 - (getRing up (.mring 1)).fetched) % 2 ^ 32 ∧
    ¬(1 ≤ ((getRing up (.mring 1)).sqTail + 2 ^ 32 - 16) % 2 ^ 32 ∧ ((getRing up (.mring 1)).sqTail + 2 ^ 32 - 16) % 2 ^ 32 ≤ 2 ^ 31) ∧
    ((getRing up (.mring 1)).written + 2 ^ 32 - 0) % 2 ^ 32 ≤ 2 ^ (getRing up (.mring 1)).cplSizeLog2 ∧
    2 ^ (getRing up (.mring 1)).cplSizeLog2 < ((getRing up (.mring 1)).written + 2 ^ 32 - 1) % 2 ^ 32 := by decide

theorem witness_RingControlRegisters : up.glb.imageFail = false ∧ vfOpen tenant 2047 = true ∧
    (getRing up (.mring 0)).enable = false ∧ ringActive up (.mring 0) = false ∧ (1#64).getLsbD 0 = true ∧
    (getRing (ringed up) (.mring 1)).enable = true ∧ (0#64).getLsbD 0 = false := by decide

/-- With nothing produced, TAIL 0 is legal and TAIL 1 is not. -/
theorem witness_RecordRingRegisters : up.glb.imageFail = false ∧
    (0 + 2 ^ 32 - up.glb.rpt.consumed) % 2 ^ 32 ≤ (up.glb.rpt.produced + 2 ^ 32 - up.glb.rpt.consumed) % 2 ^ 32 ∧
    ¬((1 + 2 ^ 32 - up.sage.plog.consumed) % 2 ^ 32 ≤ (up.sage.plog.produced + 2 ^ 32 - up.sage.plog.consumed) % 2 ^ 32) ∧
    ¬((1 + 2 ^ 32 - up.cap.tail) % 2 ^ 32 ≤ (up.cap.head + 2 ^ 32 - up.cap.tail) % 2 ^ 32) := by decide

theorem witness_DescriptorsAreFetchedInOrder :
    mayFetch up (.mring 0) = false ∧ mayFetch (ringed up) (.mring 1) = true ∧ proxyHere (ringed up) = false := by decide

theorem witness_ForwardedCommandsAndTheirAnswers :
    (∃ c, findCmd (given { com 1 0 0 0 0 0 0 with stage := .forwarded, note := 1 } up) 0 = some c ∧ c.stage = .forwarded ∧
      c.note = 1 ∧ c.origin ≠ .relay) ∧
    (∃ c, findCmd (given { com 1 0 0 0 0 0 0 with stage := .forwarded, note := 1, origin := .relay } up) 0 = some c ∧
      c.stage = .forwarded ∧ c.note = 1 ∧ c.origin = .relay) ∧ findCmd up 0 = none :=
  ⟨⟨_, rfl, rfl, rfl, by decide⟩, ⟨_, rfl, rfl, rfl, rfl⟩, rfl⟩

theorem witness_CompletionOfARingCommand : ({ com 1 0 0 0 0 0 0 with origin := .ring (.mring 1) } : SeqCmd).origin = .ring (.mring 1) ∧
    fnHeld up (ringFn (.mring 1)) = true ∧ fnHeld (hosted up) (ringFn (.mring 1)) = false ∧ (hosted up).host.held = [] := by decide

theorem witness_CompletingACommandLeavesTheRestAlone : Completed (com 1 0 0 0 0 0 0) true 0 [] up = Completed (com 1 0 0 0 0 0 0) true 0 [] up := rfl

theorem witness_HeldRecordsAreWrittenInOrder :
    fnBme (hosted up) .pf = true ∧ (hosted up).host.pfUp = true ∧ fnBme tenant (.vf 2047) = true ∧ up.host.pfUp = false := by decide

theorem witness_RegisterWritesAreTheirRows : up.glb.imageFail = false ∧ (0x2A5C3#64).getLsbD 17 = true ∧ (0x1A5C3#64).getLsbD 17 = false := by
  decide

theorem witness_PlainRegisterAccesses : up.glb.imageFail = false ∧ 0x1FFFFFF < 2 ^ 25 ∧ 0x1FFFFFF % 8 ≠ 0 := by decide

/-- A claimed switch whose epoch is settled. -/
def claimed (s : State) : State := { s with obl := { s.obl with epochSettled := true }, cmd := { s.cmd with ownEpoch := 1 } }

theorem witness_EpochCommands : runs 1 (com 1 0 0 0 0 0 0) up ∧
    (runs 2 (com 2 0 0 2 0 0 0) (claimed up) ∧ (claimed up).obl.epochSettled = true ∧ (claimed up).cmd.ownEpoch < 2) ∧
    (runs 2 (com 2 0 0 1 0 0 0) (claimed up) ∧ 1 ≤ (claimed up).cmd.ownEpoch) ∧ runs 3 (com 3 2 63 0 0 0 0) up ∧
    State.reset.glb.mgrSel = false ∧ up.glb.ready = true ∧ up.glb.mgrSel = true := by
  unfold runs Runs
  repeat' apply And.intro
  all_goals decide

/-- Staged objects of the classes that a commit takes; host 63 and slot 31. -/
def stagedAll : State := { up with
  gh := { up.gh with routeStage := some ⟨[], []⟩ }
  win := { up.win with hosts := [(63, { HostSpace.reset with
    winStage := some ⟨0, 1, []⟩, stageMgr := some ⟨[⟨0, ⟨true, true, false, 1, 512⟩, false⟩], 0⟩
    win := GenTable.reset ⟨0, 1, []⟩ })] }
  sage := { up.sage with slots := [(31, { SageSlot.reset with stage := some ([0x61], []) })] }
  sec := { up.sec with calStage := some [], imageStage := some (0, 0, []) } }

theorem witness_CommitAndAbortOfStagedObjects :
    (runs 4 (com 4 1 0 0 0 0 0) up ∧ up.gh.routeStage = none) ∧
    (runs 4 (com 4 1 0 0 0 0 0) stagedAll ∧ stagedAll.gh.routeStage.isSome = true ∧ stagedAll.gh.route.slots.length < 4) ∧
    (runs 4 (com 4 2 63 0 0 0 0) stagedAll ∧ winCommitCode (given (com 4 2 63 0 0 0 0) stagedAll) 63 = 0) ∧
    (runs 4 (com 4 3 63 0 0 0 0) stagedAll ∧ mapCommitCode (given (com 4 3 63 0 0 0 0) stagedAll) 63 none = 0) ∧
    (runs 4 (com 4 5 31 0 0 0 0) stagedAll ∧ (getSlot stagedAll 31).stage = some ([0x61], []) ∧ (getSlot stagedAll 31).state ≠ .running) ∧
    (runs 4 (com 4 16 1 0 0 0 0) stagedAll ∧ stagedAll.sec.calStage.isSome = true) ∧
    (runs 4 (com 4 16 2 0 0 0 0) stagedAll ∧ stagedAll.sec.imageStage.isSome = true) ∧ runs 5 (com 5 1 0 0 0 0 0) stagedAll ∧
    runs 5 (com 5 2 63 0 0 0 0) stagedAll ∧ runs 5 (com 5 5 31 0 0 0 0) stagedAll ∧ runs 5 (com 5 3 63 0 0 0 0) stagedAll ∧
    (findCmd (given { com 4 1 0 0 0 0 0 with stage := .waiting } up) 0 = some { com 4 1 0 0 0 0 0 with stage := .waiting } ∧
      (com 4 1 0 0 0 0 0).desc.opcode = 4#16 ∧ objClass (com 4 1 0 0 0 0 0).desc.objectId = 1) := by
  unfold runs Runs
  repeat' apply And.intro
  all_goals decide
/-- Port block 27 is bifurcated into four ports; port 111 is enabled, up, and as `f` makes it. -/
def onPort (f : Port → Port) (s : State) : State := { s with port := { s.port with
  bifur := [(27, 4)]
  ports := [(111, f { Port.reset with
    cfg := { Port.reset.cfg with enable := true }, held := false, linkUp := true, rate := 6, width := 4, pwr := 0
    engRunning := true, trainedWidth := 4 })] } }

/-- Lane 447, the last of port 111, as `f` makes it. -/
def onLane (f : Lane → Lane) (s : State) : State := { s with port := { s.port with lanes := [(447, f Lane.reset)] } }

/-- An eye scan that runs. -/
def scan0 : EyeScan := ⟨0, 0, 20, 0, 0, 6, false, false, [5]⟩

theorem witness_PortAndLaneCommands :
    (Runs (given { com 0x7001 0xA 27 0 0 0 0 with origin := .commit 0 0 0 ⟨0, 0, 0, 0⟩ } (onPort id up)) 0 0x7001
        { com 0x7001 0xA 27 0 0 0 0 with origin := .commit 0 0 0 ⟨0, 0, 0, 0⟩ } ∧
      (getPort (onPort id up) 111).linkUp = true ∧ 111 ∈ blockPorts (onPort id up) 27) ∧
    (∀ p ∈ blockPorts up 27, (getPort up p).linkUp = false ∧ (getPort up p).cfg.enable = false) ∧
    (runs 0x7002 (com 0x7002 0xA (2 ^ 48 + 111) 0 0 0 0) (onPort (fun x => { x with retired := true }) up) ∧
      (getPort (onPort (fun x => { x with retired := true }) up) 111).retired = true) ∧
    (runs 0x7002 (com 0x7002 0xA (2 ^ 48 + 111) 0 0 0 0) (onPort id up) ∧ (getPort (onPort id up) 111).retired = false) ∧
    (runs 0x7003 (com 0x7003 0xA (2 ^ 49 + 447) 0 0 0 0) (onPort id up) ∧ laneOut (onPort id up) 447 = false) ∧
    (runs 0x7003 (com 0x7003 0xA (2 ^ 49) 0x60 0 0 0) up ∧ laneOut up 0 = true ∧ portOfLane up 0 = some 0 ∧
      portHeld (getPort up 0) = true) ∧
    (runs 0x7004 (com 0x7004 0xA (2 ^ 49 + 511) 0 0 0 0) up ∧ scanOk up 511 = false) ∧
    (runs 0x7004 (com 0x7004 0xA (2 ^ 49 + 447) 0 0 0 0) (onPort id up) ∧ scanOk (onPort id up) 447 = true ∧
      (getLane (onPort id up) 447).scan = none ∧ (getLane (onPort id up) 447).margining = false) ∧
    (let s := onLane (fun x => { x with scan := some scan0 }) (hosted up)
     (getLane s 447).scan = some scan0 ∧ scan0.seq = 0 ∧ fnHeld s .pf = false ∧ s.host.held = []) := by
  unfold runs Runs
  repeat' apply And.intro
  all_goals decide

theorem witness_PortLinkStates :
    canTrain up 108 = false ∧ (getPort up 108).linkUp = false ∧
    ((getPort (onPort (fun x => { x with linkUp := false }) up) 111).linkUp = false ∧
      canTrain (onPort (fun x => { x with linkUp := false }) up) 111 = true) ∧
    ((getPort (onPort id up) 111).linkUp = true ∧ asserted up 5 (unitCode 2 111) = false) ∧
    ((getPort (onPort (fun x => { x with dpcTrigger := true, retired := true }) up) 111).dpcTrigger = true ∧
      (getPort (onPort (fun x => { x with dpcTrigger := true }) up) 111).retired = false) ∧
    portOfLane (onPort id up) 447 = some 111 ∧ (getPort (onPort id up) 111).recovering = false ∧
    (getPort (onPort (fun x => { x with recovering := true }) up) 111).recovering = true ∧
    (let x := getPort (onPort (fun x => { x with cfg := { x.cfg with l0pAuto := true }, width := 2 }) up) 111
     x.linkUp = true ∧ x.cfg.l0pAuto = true ∧ x.recovering = false ∧ x.pwr ≤ 1 ∧ 2 ≤ x.width ∧ 1 ≤ x.width / 2 ∧
       portLanes (onPort id up) 111 = 4) := by decide

theorem witness_PortsFromOutside :
    (portCreated up 111 = false ∧ portCreated (onPort id up) 111 = true ∧ (getPort (onPort id up) 111).cfg.role % 2 = 0 ∧
      (getPort (onPort id up) 111).perstIn ≠ true) ∧
    (getPort up 111).engRunning = false ∧ (getPort (onPort id up) 111).engRunning = true ∧
    ((getPort (onPort (fun x => { x with engRestarting := true }) up) 111).engRestarting = true ∧
      (getPort (onPort (fun x => { x with engRestarting := true }) up) 111).heldCfgReqs = []) ∧
    (getPort up 111).engRestarting = false ∧ vfShown up 2047 = .absent ∧ up.glb.ready = true := by decide

theorem witness_CaptureCommands :
    (runs 0x1003 (com 0x1003 8 (2 ^ 48 + 7) 0x101 0 0 0) up ∧ objIndex (com 0x1003 8 (2 ^ 48 + 7) 0x101 0 0 0).desc.objectId / 2 ^ 48 = 1 ∧
      fld (com 0x1003 8 (2 ^ 48 + 7) 0x101 0 0 0).desc.arg0 8 1 = 128) ∧
    (runs 0x1003 (com 0x1003 8 (2 ^ 49) 64 0x20 0 0) up ∧ objIndex (com 0x1003 8 (2 ^ 49) 64 0x20 0 0).desc.objectId / 2 ^ 48 = 2 ∧
      up.cap.enable = false ∧ (com 0x1003 8 (2 ^ 49) 64 0x20 0 0).desc.arg1.getLsbD 5 = true) ∧
    (runs 0x1003 (com 0x1003 8 (2 ^ 49) 64 0 0 0) { up with cap := { up.cap with enable := true } } ∧
      (com 0x1003 8 (2 ^ 49) 64 0 0 0).desc.arg0.toNat / 64 * 64 ≠ up.cap.base) := by
  unfold runs Runs
  repeat' apply And.intro
  all_goals decide

/-- DID 4095 is the last that RT_WRITE writes as a single entry; bank 255 is the last bank. -/
theorem witness_RoutingAndThresholdCommands :
    runs 0x1002 (com 0x1002 8 15 9 0 0 0) up ∧
    (runs 0x1001 (com 0x1001 1 0 (4095 * 2 ^ 16) 0 0 0) up ∧ (4095 * 2 ^ 16 / 2 ^ 16 % 2 ^ 14) < 4096) ∧
    (runs 0x1001 (com 0x1001 1 0 1 0 0 0) up ∧ (com 0x1001 1 0 1 0 0 0).desc.arg0.getLsbD 0 = true) ∧
    (runs 0x1001 (com 0x1001 1 0 0 0 0 1) up ∧ (com 0x1001 1 0 0 0 0 1).desc.arg3.toNat % 2 ^ 15 ≠ 0) ∧
    up.gh.relocQ = [] ∧ ({ up with gh := { up.gh with relocQ := [255] } } : State).gh.relocQ = 255 :: [] := by
  unfold runs Runs
  repeat' apply And.intro
  all_goals decide

/-- Host 63 with entry 1023 of its windows as given, and an aperture of 2 MiB from 0. -/
def windowed (e : WinEntry) (s : State) : State := { s with win := { s.win with hosts := [(63, { HostSpace.reset with
  win := GenTable.reset ⟨0, 1, [(1023, e)]⟩ })] } }

theorem witness_WindowCommands :
    (runs 0x2001 (com 0x2001 2 63 1023 0 0 0) (windowed { WinEntry.reset with locked := true } up) ∧
      (tget WinEntry.reset (winNow (windowed { WinEntry.reset with locked := true } up) 63).entries 1023).locked = true) ∧
    (runs 0x2001 (com 0x2001 2 63 1023 0 0 0) up ∧ (tget WinEntry.reset (winNow up 63).entries 1023).locked = false) ∧
    (runs 0x2001 (com 0x2001 2 63 0x10000 0 0 0) up ∧ (com 0x2001 2 63 0x10000 0 0 0).desc.arg0.getLsbD 16 = true) ∧
    (runs 0x2002 (com 0x2002 2 63 1023 0 0 0) up ∧ (tget WinEntry.reset (winNow up 63).entries 1023).valid = false) ∧
    (runs 0x2002 (com 0x2002 2 63 1023 0 0 0) (windowed { WinEntry.reset with valid := true } up) ∧
      (tget WinEntry.reset (winNow (windowed { WinEntry.reset with valid := true } up) 63).entries 1023).valid = true ∧
      (getHost (windowed { WinEntry.reset with valid := true } up) 63).winStage = none) ∧
    up.glb.imageFail = false ∧ (1#64).getLsbD 0 = true ∧ (0#64).getLsbD 0 = false := by
  unfold runs Runs
  repeat' apply And.intro
  all_goals decide

/-- The last page of the aperture is 511, and 512 is the first outside it. -/
theorem witness_MapWriteStagesEntries :
    (runs 0x2004 (com 0x2004 3 63 0 0 0 0) (windowed { WinEntry.reset with valid := true, mapLocked := true } up) ∧
      issuerVf (com 0x2004 3 63 0 0 0 0) = none ∧
      mapLockedAt (winNow (windowed { WinEntry.reset with valid := true, mapLocked := true } up) 63) 0 1 = true) ∧
    (let s := windowed WinEntry.reset up
     runs 0x2004 (com 0x2004 3 63 (512 * 4096) 0 0 0) s ∧ mapLockedAt (winNow s 63) 512 1 = false ∧
       aperPage (winNow s 63) + aperPages (winNow s 63) = 512) ∧
    (let s := windowed WinEntry.reset up
     runs 0x2004 (com 0x2004 3 63 (511 * 4096) 0 0 0) s ∧ mapLockedAt (winNow s 63) 511 1 = false ∧ aperPage (winNow s 63) ≤ 511 ∧
       migratingAt s 63 511 1 = false ∧ 1 ≤ leafFree s ∧ 1 ≤ stageFree s) ∧
    (runs 0x2004 (com 0x2004 3 63 0 0 0 1) up ∧ fld (com 0x2004 3 63 0 0 0 1).desc.arg3 15 0 ≠ 0) ∧
    runs 0x2003 (com 0x2003 2 63 0 0 0 0) up ∧
    (runs 6 (com 6 1 0 0 0 0 0) up ∧ (up.gh.route.current + 2 ^ 32 - 0) % 2 ^ 32 = 1) ∧
    (runs 6 (com 6 1 0 1 0 0 0) up ∧ (up.gh.route.current + 2 ^ 32 - 1) % 2 ^ 32 = 0) := by
  unfold runs Runs
  repeat' apply And.intro
  all_goals decide

/-- Port 111 is up, DID 1 leads to it, and host 63 has an aperture without windows. -/
def routed : State := { onPort id up with
  gh := { up.gh with route := GenTable.reset ⟨[(1, BitVec.ofNat 64 (1 + 111 * 4))], []⟩ }
  win := { up.win with hosts := [(63, { HostSpace.reset with win := GenTable.reset ⟨0, 1, []⟩ })], cache := [⟨63, 0, true, 1⟩] } }

def write1 : Request := ⟨111, .range none 1, 0, none, false, .pcieWr, 0, 64, 15, 0, false, false, none, none, false, [1], []⟩
def read1 : Request := ⟨111, .aperture 63, 0, none, false, .pcieRd, 4032, 64, 15, 0, false, false, none, none, false, [], []⟩

theorem witness_RequestsAtTheirIngress : ingressUp up 111 = false ∧ Admissible routed write1 ∧ Admissible routed read1 ∧ Quiet hw0 ∧
    ({ hw0 with malformed := true } : PathHw).malformed = true ∧ (getPort routed 111).engRunning = true ∧
    Admissible (onPort (fun x => { x with engRunning := false }) up) write1 ∧ (getPort (onPort (fun x => { x with engRunning := false }) up) 111).engRunning = false ∧
    (let e := didEntry routed routed.gh.route.stamping 1
     e.getLsbD 0 = true ∧ e.getLsbD 1 = false ∧ fld e 9 2 = 111 ∧ portCreated routed 111 = true ∧ (getPort routed 111).linkUp = true ∧
       (getPort routed 111).proto = 0 ∧ accessDomain routed routed.gh.route.stamping ⟨⟨0, 64, [1]⟩, 1, none, 0, none, none, false⟩ = none ∧ routed.sched.held = [] ∧
       policerFor routed 111 15 none = none) ∧
    (let w := winAt routed 63 (getHost routed 63).win.stamping
     read1.addr % 4096 + read1.len = 4096 ∧ inAperture w 0 = true ∧ winGrants w 0 1 none .r = false ∧ sharedFits routed (qkey 111 15) 1 false = true ∧
       (getHost routed 63).reloading = false ∧ cacheHit routed 63 (getHost routed 63).map.stamping 0 = true ∧
       (getHost routed 63).denyValid = false) := by
  unfold Admissible Quiet
  repeat' apply And.intro
  all_goals decide

/-- A read of port 111 that waits for the answer of port 111. -/
def wait1 : Wait := ⟨7, 7, 111, 15, 111, 1, none, 1, 1, .pcieRd, none, none, false, false, 0, false, 0, none, none, none, none⟩
def waiting1 : State := { routed with gh := { routed.gh with waits := [wait1] } }

/-- A posted write of one cell, held by policer 4095. -/
def held1 : Txn := ⟨3, 111, 111, 15, 1, 0, false, 1, none, 1, 1, true, 0, 0, 111, none, none, 3, [0], CapNote.none, .req write1 0⟩

set_option maxRecDepth 4000 in
theorem witness_AnswersFillsAndReleases :
    (rspUp routed 111 = true ∧ rspCredit routed ⟨111, 7, .data, [5], [], none⟩ = true ∧ routed.dir.expander = [] ∧ routed.gh.waits = []) ∧
    (rspUp waiting1 111 = true ∧ rspCredit waiting1 ⟨111, 7, .data, [5], [], none⟩ = true ∧ waiting1.gh.waits = [wait1] ∧ wait1.id = 7 ∧
      (getPort waiting1 wait1.ingress).linkUp = true ∧ rspError .data = false ∧ waiting1.gh.deferred = [] ∧ (getPort routed 111).engRunning = true ∧
      sharedFits waiting1 (qkey 111 15) (cellsOf 8) false = true ∧ sharedFits up (qkey 111 15) held1.cells true = true) ∧
    (up.win.fills = [] ∧ (⟨read1, 1, 1, 1, some 63, 0⟩ : Stamped).host = some 63 ∧ hw0.memRetry = none ∧ hw0.storeEcc = .ok) ∧
    (up.sched.held.find? (fun h => h.policer == 4095) = none ∧ (policerFill 0 (getPolicer up 4095)).tp = 65536000 ∧
      64 * held1.cells * 1000 ≤ 65536000 ∧ 65536000 < 64 * ({ held1 with cells := 1025 } : Txn).cells * 1000) ∧
    ((getHost { up with win := { up.win with hosts := [(63, { HostSpace.reset with reloading := true })] } } 63).reloading = true ∧
      (getHost up 63).waiting = []) := by decide

/-- The write waits in queue 15 of port 111. -/
def queued1 : State := { routed with gh := { routed.gh with queues := [(qkey 111 15, [held1])] } }

set_option maxRecDepth 100000 in
theorem witness_EgressesSendTheirBestHead :
    best (countNpw 128 (guardCount 128 (List.range 16) (refresh 128 up))) 128 = none ∧
    (let s1 := countNpw 111 (guardCount 111 (List.range 16) (refresh 111 queued1))
     best s1 111 = some 15 ∧ headOf s1 111 15 = some held1 ∧ held1.egress = 111 ∧ held1.queue = 15) ∧ (⟨[⟨0, 1, .uncorrectable, false⟩], .corrected⟩ : ReadHw).link ≠ .uncorrectable ∧ badWord true held1 ⟨[⟨0, 1, .uncorrectable, false⟩], .corrected⟩ = false ∧ queued1.gh.deferred = [] ∧ up.move.movers = [] ∧
    (let s := { up with move := { up.move with movers := [(63, { Mover.reset with state := .granted, job := some (captureJob 0) })] } }
     (∃ e ∈ s.move.movers, e.2.state = .granted ∧ ∃ j, e.2.job = some j ∧ j.kind = .capture) ∧ s.cap.head < 2 ^ 32) := by
  refine ⟨by decide, by decide, by decide, by decide, by decide, rfl, ⟨_, List.mem_cons_self, rfl, _, rfl, rfl⟩, by decide⟩
/-- Domain 63: one range of 2 MiB at DID 1 of this switch, whose host 63 and switch 1's host 0 take part; homed here. -/
def dom1 : Domain := { Domain.reset with
  defined := true, ranges := [⟨0, 1, 0, 2097152⟩], participants := [(0, 63), (1, 0)], homes := [0], granLog2 := 30 }

/-- Domain 63 is defined, with set 0 of its home cached, and its expander is behind port 111. -/
def shared (s : State) : State := { s with
  dir := { s.dir with domains := [(63, dom1)], cached := [dirSet s (63 * 2 ^ 40)] } }

/-- Window 1023 of host 63 is valid, and the host's port is a CXL.mem port that takes BISnp. -/
def attachable (s : State) : State := { windowed { WinEntry.reset with valid := true } (shared s) with
  port := { s.port with ports := [(Config.hostPort 63, { Port.reset with linkUp := true, proto := 3, backInval := true })] } }

theorem witness_DomainCommands :
    (let c := com 0x3001 4 63 0 0 0 0
     runs 0x3001 c up ∧ fld c.desc.arg0 2 0 = 0 ∧
       defineOk up 63 ((clampSizes (2 ^ 25) (recRanges [] 1)).map (fun r => { r with size := r.size * 2097152 })) (recParts [] 1) = false ∧
       defineOk up 63 ((clampSizes (2 ^ 25) (recRanges [0, 1] 1)).map (fun r => { r with size := r.size * 2097152 })) (recParts [0, 1] 1) = true ∧
       fabricOthers up = []) ∧
    (let c := com 0x3001 4 63 (1 + 63 * 2 ^ 16 + 1023 * 2 ^ 32) 0 0 0
     let s := windowed { WinEntry.reset with locked := true } up
     runs 0x3001 c s ∧ fld c.desc.arg0 2 0 = 1 ∧ (winEntry (winNow s 63) 1023).locked = true) ∧
    (let c := com 0x3001 4 63 (2 + 63 * 2 ^ 16 + 1023 * 2 ^ 32) 0 0 0
     let s : State := { up with dir := { up.dir with attach := [(63, 1023, 63)] } }
     runs 0x3001 c s ∧ fld c.desc.arg0 2 0 = 2 ∧ (63, 1023, 63) ∉ up.dir.attach ∧ (63, 1023, 63) ∈ s.dir.attach) ∧
    (let c := com 0x3001 4 63 3 0 0 0
     runs 0x3001 c (shared up) ∧ fld c.desc.arg0 2 0 = 3 ∧ (getDomain up 63).defined = false ∧
       (getDomain (shared up) 63).defined = true ∧ attachedTo (shared up) 63 = false) ∧
    (let c := { com 0x3001 4 63 3 0 0 0 with origin := .proxy 1 }
     let s := { shared up with obl := { up.obl with epochSettled := true, reach := 2 } }
     Runs (given c s) 0 0x3001 c ∧ managerOrigin c = true ∧ fabricCheck (given c s) [] ≠ 0) ∧
    (let c := com 0x3001 4 63 (4 + 1 * 2 ^ 32) 0 0 0
     let s := setDomain 63 { dom1 with cut := [1] } up
     runs 0x3001 c s ∧ 4 ≤ fld c.desc.arg0 2 0 ∧ 1 ∉ (getDomain up 63).cut ∧ 1 ∈ (getDomain s 63).cut) ∧
    (let c := { com 0x3002 4 (2 ^ 48 + 63) 0 0 0 0 with origin := .fromManager 1 }
     Runs (given c (shared up)) 0 0x3002 c ∧ (getDomain up 63).defined = false ∧ (getDomain (shared up) 63).defined = true ∧
       attachedTo (shared up) 63 = false) ∧
    (let c := com 0x3003 4 (3 * 2 ^ 48) 0 0 0 0
     runs 0x3003 c up ∧ objIndex c.desc.objectId / 2 ^ 48 = 3) ∧
    (let c := com 0x3003 4 (2 * 2 ^ 48 + 63) 0 0 0 0
     runs 0x3003 c (shared up) ∧ objIndex c.desc.objectId / 2 ^ 48 = 2 ∧ (getDomain up 63).defined = false ∧
       (getDomain (shared up) 63).defined = true) := by
  unfold runs Runs
  repeat' apply And.intro
  all_goals decide

/-- The window that ATTACH takes. -/
theorem witness_DomainCommands_attach :
    let c := com 0x3001 4 63 (1 + 63 * 2 ^ 16 + 1023 * 2 ^ 32) 0 0 0
    let s := attachable up
    runs 0x3001 c s ∧ fld c.desc.arg0 2 0 = 1 ∧ (winEntry (winNow s 63) 1023).locked = false ∧
      (winEntry (winNow s 63) 1023).valid = true ∧ (getDomain s 63).defined = true ∧ winStageChanges s 63 1023 = false ∧
      winMigrating s 63 (winEntry (winNow s 63) 1023) = false ∧ participantOf (getDomain s 63) s.glb.switchId 63 = some 0 ∧
      0 ∉ (getDomain s 63).cut ∧ (63, 1023, 63) ∉ s.dir.attach ∧ s.dir.attach.length < Config.attachPairs ∧
      (getPort s (Config.hostPort 63)).linkUp = true ∧ (getPort s (Config.hostPort 63)).proto = 3 ∧
      (getPort s (Config.hostPort 63)).backInval = true := by
  have h : getPort (attachable up) (Config.hostPort 63) =
      { Port.reset with linkUp := true, proto := 3, backInval := true } := by simp [getPort, attachable, tget]
  refine ⟨?_, ?_, ?_, ?_, ?_, ?_, ?_, ?_, ?_, ?_, ?_, ?_, ?_, ?_⟩
  all_goals first | rw [h] | (unfold runs Runs; decide) | decide

theorem witness_FabricMembers : (∀ e ∈ up.obl.resend, e.1 ≠ 31) ∧
    (let s : State := { up with obl := { up.obl with resend := [(31, (com 1 0 0 0 0 0 0).desc)], reach := 0x80000000 } }
     (∃ e ∈ s.obl.resend, e.1 = 31) ∧ s.obl.reach.getLsbD 31 = true) ∧ isManager (claimed up) = true ∧ isManager up = false := by
  decide

/-- A request for the line at offset 0 of domain 63 by its participant `p`. -/
def hreq (p : Option Nat) : HomeReq := ⟨63 * 2 ^ 40, 63, p, .A, false, 111, false, .ok, .ok, 1, 0, 64, false, [7]⟩

/-- Domain 63 homed here, its expander up behind port 111, and its line 0 as given. -/
def atHome (x : DirLine) : State := setLine (63 * 2 ^ 40) x (shared { routed with port := { routed.port with
  ports := [(111, { getPort routed 111 with device := .hdmH })] } })

theorem witness_HomeRequests :
    (homeHere up (hreq (some 1)) = false ∧ homeHere up (hreq none) = false) ∧
    (let s := { atHome DirLine.reset with dir := { (atHome DirLine.reset).dir with cached := [] } }
     homeHere s (hreq (some 1)) = true ∧ homeHere s (hreq none) = true ∧ homeFull s (hreq (some 1)) .memInv = false ∧
       homeFull s (hreq none) .ncRead = false ∧ s.dir.cached.contains (dirSet s (63 * 2 ^ 40)) = false) ∧
    (let s := atHome { DirLine.reset with txn := some ⟨hreq (some 0), .readOwn, .ack, [], [], [], [], none, false⟩ }
     AtHome s (hreq (some 1)) ∧ AtHome s (hreq none) ∧ homeFull s (hreq (some 1)) (readKind .A) = false ∧ (getLine s (63 * 2 ^ 40)).txn.isSome = true ∧
       doneLines s (dirSet s (63 * 2 ^ 40)) = []) ∧
    (let s := atHome DirLine.reset
     AtHome s (hreq (some 1)) ∧ AtHome s (hreq none) ∧ (getLine s (63 * 2 ^ 40)).txn = none ∧ SetQuiet s (63 * 2 ^ 40) ∧
       (getLine s (63 * 2 ^ 40)).state = .I ∧ s.dir.suspect = [] ∧ (getLine s (63 * 2 ^ 40)).hasWay = false ∧
       (match chooseWay s (63 * 2 ^ 40) with | .free w => w == 0 | _ => false) = true ∧ expanderEgress s (63 * 2 ^ 40) = some (111, none)) ∧
    (let s := atHome { DirLine.reset with state := .EM, owner := 1, hasWay := true }
     AtHome s (hreq (some 1)) ∧ (getLine s (63 * 2 ^ 40)).txn = none ∧ SetQuiet s (63 * 2 ^ 40) ∧
       (getLine s (63 * 2 ^ 40)).state = .EM ∧ (hreq (some 1)).participant = some (getLine s (63 * 2 ^ 40)).owner ∧
       expanderEgress s (63 * 2 ^ 40) = some (111, none)) := by
  unfold AtHome SetQuiet
  repeat' apply And.intro
  all_goals decide

/-- A transaction of kind `k` at phase `ph` that waits for the snoop answers of `w`. -/
def homeTxn (k : HomeKind) (ph : HomePhase) (w : List Nat) (remote : Bool) : HomeTxn :=
  ⟨{ hreq (some 1) with remote := remote }, k, ph, w, w, [], [], none, false⟩

theorem witness_HomeTransactionsGoOn :
    (let s := atHome { DirLine.reset with txn := some (homeTxn .ncRead .snooping [0, 1] false) }
     (getLine s (63 * 2 ^ 40)).txn = some (homeTxn .ncRead .snooping [0, 1] false) ∧ doneLines s (dirSet s (63 * 2 ^ 40)) = [] ∧
       [0, 1].contains 2 = false ∧ [0, 1].contains 1 = true ∧ [0, 1].filter (fun y => y != 1) ≠ [] ∧
       [1].filter (fun y => y != 1) = [] ∧ expanderEgress s (63 * 2 ^ 40) = some (111, none) ∧
       (getDomain s 63).participants.findIdx? (fun h => h == (getDomain s 63).participants.getD 1 (0, 0)) = some 1 ∧ SetQuiet s (63 * 2 ^ 40)) ∧
    (let s := atHome { DirLine.reset with txn := some (homeTxn .memInv .ack [] true) }
     (getLine s (63 * 2 ^ 40)).txn = some (homeTxn .memInv .ack [] true) ∧ SetQuiet s (63 * 2 ^ 40)) ∧
    (dirBits up = 26 ∧ (∀ f ∈ up.dir.fills, dirSet up f.1.dla ≠ 2 ^ 26 - 1) ∧
      (let s : State := { up with dir := { up.dir with fills := [({ hreq none with dla := 2 ^ 26 - 1 }, .ncRead)] } }
       ∃ f ∈ s.dir.fills, dirSet s f.1.dla = 2 ^ 26 - 1)) := by
  unfold SetQuiet
  repeat' apply And.intro
  all_goals decide
/-- A Sage instruction word: OP, RD (or the condition), RA, RB and IMM (07 R206). -/
def insn (op rd ra rb : Nat) (imm : BitVec 32) : Word :=
  pack [(op, 0), (rd, 8), (ra, 13), (rb, 18), (imm.toNat, 32)]

/-- Slot 31 runs the code `ws` from PC `pc` on, its other parts as `f` makes them. -/
def sprig (pc : Nat) (ws : List Word) (f : SageSlot → SageSlot) : State := { up with sage := { up.sage with
  slots := [(31, f { SageSlot.reset with state := .running, code := ws, pc := pc, dataImage := [5] })] } }

/-- Slot 31 runs `w` at PC 0, and HALT stands behind it. -/
def runsWord (w : Word) : State := sprig 0 [w, insn 0x61 0 0 0 0] id

/-- The next word is there and legal. -/
def nextOk (s : State) : Bool := match (getSlot s 31).code[((getSlot s 31).pc + 8) / 8]? with
  | some w => legalWord w
  | none => false

/-- Destination 31 and sources 31, each instruction once. -/
theorem witness_SageRegisterInstructions :
    (∀ op ∈ [0x01, 0x02, 0x03, 0x04, 0x05, 0x06, 0x07, 0x08, 0x09, 0x0A, 0x0B, 0x0C, 0x0D, 0x0E, 0x0F, 0x10],
      slotRuns (runsWord (insn op 31 31 31 0)) 31 op (some 31) (some 31) (some 31) none = true ∧
        nextOk (runsWord (insn op 31 31 31 0)) = true) ∧
    (∀ op ∈ [0x11, 0x12], slotRuns (runsWord (insn op 31 31 0 0)) 31 op (some 31) (some 31) none none = true ∧
        nextOk (runsWord (insn op 31 31 0 0)) = true) ∧
    (∀ op ∈ [0x21, 0x23, 0x24, 0x25, 0x26, 0x27, 0x28, 0x2D, 0x2E, 0x30],
      slotRuns (runsWord (insn op 31 31 0 0xFFFFFFFF)) 31 op (some 31) (some 31) none (some 0xFFFFFFFF) = true ∧
        nextOk (runsWord (insn op 31 31 0 0xFFFFFFFF)) = true) := by decide

theorem witness_CodeAt : CodeAt (runsWord (insn 0x01 1 2 3 0)) 31 ((getSlot (runsWord (insn 0x01 1 2 3 0)) 31).pc + 8) :=
  ⟨insn 0x61 0 0 0 0, by decide, by decide⟩

/-- A branch from PC 8 by -1 word goes to PC 0, and one that is not taken to PC 16. -/
theorem witness_SageLoadsStoresAndControl :
    slotRuns (runsWord (insn 0x40 31 31 0 0xFFFFFFFF)) 31 0x40 (some 31) (some 31) none (some 0xFFFFFFFF) = true ∧
    slotRuns (runsWord (insn 0x41 0 31 31 0xFFFFFFFF)) 31 0x41 none (some 31) (some 31) (some 0xFFFFFFFF) = true ∧
    slotRuns (runsWord (insn 0x62 0 31 0 0xFFFFFFFF)) 31 0x62 none (some 31) none (some 0xFFFFFFFF) = true ∧
    (∀ cond < 9, slotRuns (sprig 8 [insn 0x61 0 0 0 0, insn 0x50 cond 31 31 0xFFFFFFFF, insn 0x61 0 0 0 0] id) 31 0x50
      (some cond) (some 31) (some 31) (some 0xFFFFFFFF) = true) ∧
    slotRuns (sprig 8 [insn 0x61 0 0 0 0, insn 0x56 31 0 0 0xFFFFFFFF] id) 31 0x56 (some 31) none none (some 0xFFFFFFFF) = true ∧
    slotRuns (runsWord (insn 0x57 31 0 0 15)) 31 0x57 (some 31) (some 0) none (some 15) = true ∧
    ((BitVec.ofNat 64 8 + (0xFFFFFFFF : BitVec 32).signExtend 64 * 8).toNat = 0 ∧
      ((reg up 31 0 + (15 : BitVec 32).signExtend 64) &&& ~~~7#64).toNat = 8) := by decide

theorem witness_CodeAt_branch :
    CodeAt (sprig 8 [insn 0x61 0 0 0 0, insn 0x50 1 31 31 0xFFFFFFFF, insn 0x61 0 0 0 0] id) 31 0 ∧
    CodeAt (sprig 8 [insn 0x61 0 0 0 0, insn 0x50 1 31 31 0xFFFFFFFF, insn 0x61 0 0 0 0] id) 31 16 ∧
    CodeAt (runsWord (insn 0x57 31 0 0 15)) 31 8 :=
  ⟨⟨insn 0x61 0 0 0 0, by decide, by decide⟩, ⟨insn 0x61 0 0 0 0, by decide, by decide⟩, ⟨insn 0x61 0 0 0 0, by decide, by decide⟩⟩

/-- The page of the heat entry is page 0 of host 0, in way 7 of set 0. -/
theorem witness_SageReadsOfTheSwitch :
    (∀ op ∈ [0x63, 0x64], slotRuns (runsWord (insn op 31 0 0 0)) 31 op (some 31) none none none = true) ∧
    slotRuns (runsWord (insn 0x71 31 31 31 1)) 31 0x71 (some 31) (some 31) (some 31) (some 1) = true ∧
    (∀ op ∈ [0x72, 0x75], slotRuns (runsWord (insn op 31 31 0 0)) 31 op (some 31) (some 31) none none = true) ∧
    slotRuns (runsWord (insn 0x73 31 31 0 3)) 31 0x73 (some 31) (some 31) none (some 3) = true ∧
    slotRuns (runsWord (insn 0x74 31 31 31 0)) 31 0x74 (some 31) (some 31) (some 31) none = true ∧
    slotRuns (runsWord (insn 0x7A 31 0 0 7)) 31 0x7A (some 31) none none (some 7) = true ∧
    slotRuns (runsWord (insn 0x7B 0 31 0 7)) 31 0x7B none (some 31) none (some 7) = true ∧
    (∀ way < 8, heatWay up 0 way = none) ∧
    (let s := { up with tel := { up.tel with heat := [(7, some ⟨0, 0, false, 0, 1, 0, 0, 0xFFFF⟩)] } }
     heatSet s 0 0 false = 0 ∧ heatWay s 0 7 = some ⟨0, 0, false, 0, 1, 0, 0, 0xFFFF⟩ ∧ heatPage 0 false = 0 ∧
       ∀ w < 7, heatWay s 0 w = none) := by decide

/-- The hot ring holds one entry, and the slot's cursor is `n`. -/
def hotted (n : Nat) : State := { sprig 0 [insn 0x70 31 0 0 0, insn 0x61 0 0 0 0] (fun x => { x with hotCursor := n }) with
  tel := { up.tel with hot := [9], hotPushed := 1 } }

theorem witness_SageQueueInstructions :
    (slotRuns (hotted 0) 31 0x70 (some 31) none none none = true ∧ (hotted 0).tel.hot.length ≤ (hotted 0).tel.hotPushed ∧
      (hotted 0).tel.hotPushed - (hotted 0).tel.hot.length ≤ (getSlot (hotted 0) 31).hotCursor ∧
      (getSlot (hotted 0) 31).hotCursor < (hotted 0).tel.hotPushed ∧ (hotted 1).tel.hotPushed ≤ (getSlot (hotted 1) 31).hotCursor) ∧
    (slotRuns (runsWord (insn 0x78 31 31 0 0)) 31 0x78 (some 31) (some 31) none none = true ∧
      (getSlot (runsWord (insn 0x78 31 31 0 0)) 31).props.length < 64 ∧ 64 ≤ (List.replicate 64 (⟨0, 0, 0, 0⟩ : Proposal)).length) ∧
    slotRuns (runsWord (insn 0x79 31 0 0 0)) 31 0x79 (some 31) none none none = true ∧
    (slotRuns (runsWord (insn 0x7C 31 0 0 0)) 31 0x7C (some 31) none none none = true ∧
      (getSlot (runsWord (insn 0x7C 31 0 0 0)) 31).outFull = false) ∧
    (let s := sprig 0 [insn 0x7C 31 0 0 0, insn 0x61 0 0 0 0] (fun x => { x with outFull := true })
     slotRuns s 31 0x7C (some 31) none none none = true ∧ (getSlot s 31).outFull = true) ∧
    slotRuns (runsWord (insn 0x7D 0 0 0 0)) 31 0x7D none none none none = true ∧
    (slotRuns (runsWord (insn 0x60 31 0 0 0)) 31 0x60 (some 31) none none none = true ∧
      (withHot (runsWord (insn 0x60 31 0 0 0)) (getSlot (runsWord (insn 0x60 31 0 0 0)) 31)).causes = 0) ∧
    (let s := sprig 0 [insn 0x60 31 0 0 0, insn 0x61 0 0 0 0] (fun x => { x with causes := 1 })
     slotRuns s 31 0x60 (some 31) none none none = true ∧ (withHot s (getSlot s 31)).causes ≠ 0) ∧
    (slotRuns (runsWord (insn 0x61 0 0 0 0)) 31 0x61 none none none none = true ∧
      (getSlot (runsWord (insn 0x61 0 0 0 0)) 31).props = []) := by decide

/-- The slot waits with START pending, its timer armed. -/
def waitingSlot : State := sprig 0 [insn 0x60 31 0 0 0, insn 0x61 0 0 0 0] (fun x => { x with
  state := .waiting, causes := 1, timer := some 5, inFull := true })

theorem witness_SprigFaultsAndWakes :
    (getSlot (runsWord (insn 0x40 31 31 0 7)) 31).state = .running ∧
    slotRuns (runsWord (insn 0x40 31 31 0 7)) 31 0x40 (some 31) (some 31) none (some 7) = true ∧
    ([0, 0, 0, 0, 0, 0, 0, 0].filter (fun t => decide ((runsWord 0).time.localNs < t + 1000000000))).length = 8 ∧
    ((getSlot waitingSlot 31).state = .waiting ∧ (withHot waitingSlot (getSlot waitingSlot 31)).causes ≠ 0) ∧
    (getSlot waitingSlot 31).timer = some 5 ∧ up.glb.imageFail = false ∧ (1#64).getLsbD 0 = true ∧
    (getSlot (runsWord 0) 31).inFull = false ∧ (getSlot waitingSlot 31).inFull = true ∧ (0#64).getLsbD 0 = false := by decide

theorem witness_SprigCommands :
    (runs 0x4001 (com 0x4001 5 31 0 32767 0 131071) up ∧ (getSlot up 31).state ≠ .running ∧ (getSlot up 31).state ≠ .waiting) ∧
    (runs 0x4001 (com 0x4001 5 31 0 0 0 0) waitingSlot ∧ (getSlot waitingSlot 31).state = .waiting) ∧
    (let c := { com 0x4002 5 31 0 0 0 0 with origin := .relay, desc := { (com 0x4002 5 31 0 0 0 0).desc with expectVersion := 1 } }
     Runs (given c up) 0 0x4002 c ∧ (getSlot up 31).code = []) ∧
    (let c := { com 0x4002 5 31 256 0 0 0 with origin := .relay, desc := { (com 0x4002 5 31 256 0 0 0).desc with expectVersion := 1 } }
     Runs (given c waitingSlot) 0 0x4002 c ∧ (getSlot waitingSlot 31).code ≠ [] ∧ c.desc.arg0.getLsbD 8 = true) ∧
    (let c := { com 0x4002 5 31 63 0 0 0 with origin := .relay, desc := { (com 0x4002 5 31 63 0 0 0).desc with expectVersion := 1 } }
     Runs (given c waitingSlot) 0 0x4002 c ∧ c.desc.arg0.getLsbD 8 = false ∧ (getSlot waitingSlot 31).retired = false) ∧
    (runs 0x4003 (com 0x4003 5 31 0 0 0 0) waitingSlot ∧ (getSlot waitingSlot 31).results.length ≤ 64) ∧
    runs 0x4004 (com 0x4004 6 0 0 0 0 0) up := by
  unfold runs Runs
  repeat' apply And.intro
  all_goals decide

/-- Slot 31 has posted the proposal `p` and no other; `up` counts it from turn 0. -/
def posted (p : Proposal) (s : State) : State := { s with sage := { s.sage with
  slots := [(31, { SageSlot.reset with props := [p] })] } }

/-- The word that names object (`kind`, `n`) of class 9. -/
def obj9 (kind n : Nat) : Word := pack [(9, 52), (kind * 2 ^ 48 + n, 0)]

/-- Host 63 with an aperture of 2 MiB whose region is as given. -/
def mapped (r : Region) (s : State) : State := { s with win := { s.win with hosts := [(63, { HostSpace.reset with
  win := GenTable.reset ⟨0, 1, []⟩, map := GenTable.reset [(0, r)] })] } }

/-- DID 1 is routed and has one chunk in its pool; page 0 of host 63 lies at DID 2. -/
def movable : State := { mapped (.leaf [(0, ⟨true, false, false, 2, 7⟩)]) routed with
  move := { up.move with chunks := [(5, some ⟨1, false, []⟩)] } }

theorem witness_ProposalsAreApplied_kinds :
    propKind ⟨5, 0, 0, 0⟩ = 5 ∧ noteStatus (posted ⟨5, 0, 0, 0⟩ up) (refOf (posted ⟨5, 0, 0, 0⟩ up) 31 ⟨5, 0, 0, 0⟩) = 0 ∧
    (let s := posted ⟨3, obj9 0 (128 * 256 + 15), 4095, 0⟩ up
     knobStatus s 0 (refOf s 31 ⟨3, obj9 0 (128 * 256 + 15), 4095, 0⟩) = 0) ∧
    (let s := posted ⟨4, obj9 1 4095, 128000, 0⟩ up
     knobStatus s 1 (refOf s 31 ⟨4, obj9 1 4095, 128000, 0⟩) = 0) ∧
    (let s := posted ⟨2, 63, 0, 0⟩ (mapped (.huge ⟨true, true, false, 1, 0⟩) up)
     splitStatus s (refOf s 31 ⟨2, 63, 0, 0⟩) = 0 ∧ genFull (getHost s 63).map = false ∧
       (∀ e ∈ (getHost s 63).map.slots, e.2.gen ≠ ((getHost s 63).map.current + 1) % 2 ^ 32) ∧
       tget Region.invalid (mapNow s 63) 0 = .huge ⟨true, true, false, 1, 0⟩) ∧
    (let s := posted ⟨1, 63, 1, 0⟩ movable
     s.glb.mgrSel = true ∧ migrateStatus s (refOf s 31 ⟨1, 63, 1, 0⟩) = 0) ∧ State.reset.glb.mgrSel = false := by decide

theorem witness_ProposalsAreApplied_next : NextProposal (posted ⟨5, 0, 0, 0⟩ up) 31 ⟨5, 0, 0, 0⟩ ∧
    up.sage.limits.allow.getLsbD 4 = true ∧ (getSlot (posted ⟨5, 0, 0, 0⟩ up) 31).epoch = up.cmd.ownEpoch ∧
    (getSlot (posted ⟨5, 0, 0, 0⟩ (claimed up)) 31).epoch ≠ (claimed up).cmd.ownEpoch ∧
    knobExists up 0 0 = false ∧ knobExists up 1 0 = false ∧ (0#5).getLsbD 4 = false ∧
    up.sage.limits.propPerEpoch ≤ tget 0 [(31, 1024)] (up.glb.switchId * 32 + 31) := by
  unfold NextProposal
  repeat' apply And.intro
  all_goals decide

/-- A worker's slot 31 has an outstanding proposal of TAG 65535. -/
def outstanding : State := { up with sage := { up.sage with forwarded := [⟨31, 3, ⟨0xFFFF0001, 0, 0, 0⟩, 0⟩] } }

theorem witness_ForwardedProposalsAndTheirAnswers : State.reset.glb.mgrSel = false ∧ up.glb.mgrSel = true ∧
    remoteStatus up 31 31 0 ⟨1, 63, 1, 0⟩ = 0 ∧ 2 ≤ remoteStatus up 31 31 1 ⟨1, 63, 1, 0⟩ ∧
    forwardedProp up 31 65535 = none ∧ forwardedProp outstanding 31 65535 = some ⟨31, 3, ⟨0xFFFF0001, 0, 0, 0⟩, 0⟩ ∧
    (getSlot outstanding 31).results.length < 64 ∧ 64 ≤ (List.replicate 64 (0 : Word)).length := by decide

theorem witness_TelemetryEpochs :
    (runs 0x4005 (com 0x4005 6 (2 ^ 48) (100 * 2 ^ 16) 0 0 0) up ∧ max 1 (min 60000 (fld (com 0x4005 6 (2 ^ 48) (100 * 2 ^ 16) 0 0 0).desc.arg0 31 16)) = up.tel.cfg.epochMs) ∧
    (runs 0x4005 (com 0x4005 6 (2 ^ 48) 0 0 0 0) up ∧ max 1 (min 60000 (fld (com 0x4005 6 (2 ^ 48) 0 0 0 0).desc.arg0 31 16)) ≠ up.tel.cfg.epochMs) ∧
    up.glb.ready = true ∧ up.glb.imageFail = false ∧
    (let s := { up with tel := { up.tel with heat := [(7, some ⟨0, 0, false, 0, 1, 0, 0, 0xFFFF⟩)], epoch := 16384 } }
     heatWay s 0 7 = some ⟨0, 0, false, 0, 1, 0, 0, 0xFFFF⟩ ∧ 16384 ≤ heatAge s ⟨0, 0, false, 0, 1, 0, 0, 0xFFFF⟩ ∧
       heatAge s ⟨0, 0, false, 1, 1, 0, 0, 0xFFFF⟩ < 16384) := by
  unfold runs Runs
  repeat' apply And.intro
  all_goals decide

theorem witness_MoverCommands :
    (runs 0x5002 (com 0x5002 7 63 0 1 0 0) up ∧ issuerVf (com 0x5002 7 63 0 1 0 0) = none ∧ (getClass up 63).stuck = false ∧
      (∀ i < 1, moveKind (moveWords [] i) ≤ 3) ∧ queuedJobs (getClass up 63) + 1 ≤ (getClass up 63).queueMax ∧
      jobSlotsUsed up + 1 ≤ Config.jobSlots) ∧
    (let s := setClass 63 { MoveClass.reset with queueMax := 1 } up
     runs 0x5002 (com 0x5002 7 63 0 2 0 0) s ∧ (getClass s 63).queueMax < queuedJobs (getClass s 63) + 2 ∧
       (∀ i < 2, moveKind (moveWords [] i) ≤ 3)) ∧
    (let s := setClass 63 { MoveClass.reset with stuck := true } up
     runs 0x5002 (com 0x5002 7 63 0 1 0 0) s ∧ (getClass s 63).stuck = true) ∧
    runs 0x5003 (com 0x5003 7 63 0 0 0 0) up ∧
    (runs 0x5001 (com 0x5001 3 63 0 1 0 0) up ∧ migCode up (askOf (com 0x5001 3 63 0 1 0 0).desc) ≠ 0) ∧
    (runs 0x5001 (com 0x5001 3 63 0 1 0 0) movable ∧ migCode movable (askOf (com 0x5001 3 63 0 1 0 0).desc) = 0) := by
  unfold runs Runs
  repeat' apply And.intro
  all_goals decide

/-- A job of kind `k`, its number 3. -/
def job3 (k : JobKind) : Job := ⟨3, k, .pf, false, false, 0, 0, 0, 0, 0, 0, 2 ^ 12, 0, 0, 0, 0, 0, 0, true, none⟩

/-- Mover 63 in state `r` with job `j`, `bytes` of its grant used and the lines `l` in flight. -/
def moving (r : MoverRun) (j : Option Job) (bytes : Nat) (l : List MoverLine) : State := { up with move := { up.move with
  movers := [(63, { Mover.reset with state := r, job := j, grantBytes := bytes, burst := 16, lines := l })] } }

/-- A fill of DID 1, behind port 111. -/
def fill3 : Job := { job3 .fill with dstSpace := 2, dstSel := 1 }

/-- Mover 63 runs it with the lines `l` in flight; DID 1 is routed, and no other line of the switch is known. -/
def filling (l : List MoverLine) : State := { routed with move := (moving .granted (some fill3) 65535 l).move }

theorem witness_MoverArbitration :
    ((getMover up 63).state = .idle ∧ 63 ∈ groupMovers 7 ∧ 0 < ((requesters (setClass 63 { MoveClass.reset with queue := [job3 .fill] } up) 7).map
      (fun c => (getClass up c).weight)).sum) ∧
    winner (adoptAll (setClass 63 { MoveClass.reset with queue := [{ job3 .fill with started := false }] } up)) 7 = some 63 ∧
    (let s := moving .granted none 65536 [⟨3, 0, 15, .ended true .ok, false, none⟩]
     2 ^ (getMover s 63).burst ≤ (getMover s 63).grantBytes ∧
       findJob (setMover 63 { getMover s 63 with lines := [] } s) 3 = none) ∧
    ((getMover (moving .restarting none 0 []) 63).state = .restarting) := by decide

/-- A line is issued, and its write is sent, where the request has room; the routing copy of no port is missing. -/
theorem witness_MoverArbitration_lines :
    (let s := filling []
     (getMover s 63).state = .granted ∧ (getMover s 63).job = some fill3 ∧ fill3.failed = none ∧ fill3.next < fill3.length ∧
       (getMover s 63).grantBytes < 2 ^ (getMover s 63).burst ∧ NoLines s ∧
       canSend s (lineReq s 63 fill3 true 0 (lineTag s 63) false (List.replicate 8 0)) quietHw = true) ∧
    (let s := filling [⟨3, 0, 15, .held true [1], false, none⟩]
     (getMover s 63).lines = [] ++ ⟨3, 0, 15, .held true [1], false, none⟩ :: [] ∧ findJob s 3 = some fill3 ∧
       canSend s (lineReq s 63 fill3 true 0 15 true [1]) quietHw = true ∧
       canSend { s with gh := { s.gh with reserveUsed := [(127 * 16 + 7, 128)] } } (lineReq s 63 fill3 true 0 15 true [1]) quietHw = false) := by
  unfold NoLines
  repeat' apply And.intro
  all_goals decide

/-- The migrations of a state with none hold no request. -/
theorem witness_MoverArbitration_migrations : ∀ k mg, getMig (moving .granted (some (job3 .fill)) 0 []) k = some mg → mg.waiting = [] :=
  fun _ _ h => nomatch h

/-- Migration slot 255 in state `st`, its generation the one that host 63 has. -/
def mig (st : MigState) : Migration :=
  ⟨st, 63, 0, false, ⟨true, false, false, 2, 7⟩, 1, 2560, true, false, 0, 0, false, 0, [], 0, 0, 0, 0, some 1, none, []⟩
def migrating (st : MigState) : State := { movable with move := { movable.move with migs := [(255, some (mig st))] } }

/-- A mover copies line 0 of the page. -/
def copying : State := { migrating .copy with move := { (migrating .copy).move with
  movers := [(63, { Mover.reset with state := .granted, job := some (job3 (.copyPage 255)), lines := [⟨3, 0, 15, .ended true .ok, false, some 255⟩] })] } }

/-- Four resident generations. -/
def fullMap : State := { migrating .mark with win := { up.win with hosts := [(63, { HostSpace.reset with
  map := ⟨4, 4, [0, 1, 2, 3].map (fun i => (i, ⟨i + 1, 0, []⟩)), none⟩ })] } }

theorem witness_MigrationSteps :
    (getMig (migrating .mark) 255 = some (mig .mark) ∧ genFull (getHost (migrating .mark) 63).map = false) ∧
    (genFull (getHost fullMap 63).map = true ∧ getMig fullMap 255 = some (mig .mark)) ∧
    writesDone (migrating .fence) 63 1 = true ∧ (let w := { wait1 with host := some 63, kind := .pcieWr, mapGen := 1 }
     writesDone { migrating .fence with gh := { up.gh with waits := [w] } } 63 2 = false) ∧
    (∃ l, (getMover copying 63).lines.find? (fun x => x.tag == 15) = some l ∧ l.stage = .ended true .ok ∧ l.mig = some 255 ∧
      l.off = 64 * 0) ∧
    (onlySince (migrating .settle) 63 1 = true ∧ onlySince (migrating .settle) 63 2 = false ∧ (mig .settle).waiting = [] ∧
      pageWrites (migrating .settle) 255 1 = false) ∧
    ((mig .undo).gen = some 1 ∧ olderWrites (migrating .undo) 63 1 = false ∧ copyingLines (migrating .undo) 255 = [] ∧
      copyingLines copying 255 ≠ []) := by
  refine ⟨?_, ?_, ?_, ?_, ⟨_, rfl, rfl, rfl, rfl⟩, ?_, ?_⟩ <;> decide

theorem witness_MigrationSteps_waiting : ∀ i mg, getMig copying i = some mg → mg.waiting = [] := by
  intro i mg h
  by_cases hi : i = 255
  · subst hi
    have : some (mig .copy) = some mg := h
    cases this
    rfl
  · have : getMig copying i = none := by
      simp [getMig, copying, migrating, tget]
      exact hi
    rw [this] at h
    exact nomatch h
/-- A gate control list of one entry, its cycle 1 ms. -/
def gcl1 : Gcl := ⟨0, 1000000, 1, true, []⟩

theorem witness_GateControlLists :
    (let c := com 0x6004 9 (3 * 2 ^ 48 + 111) 65536 0 0 0
     runs 0x6004 c (onPort id up) ∧ c.desc.arg0.getLsbD 16 = true) ∧
    (let c := com 0x6004 9 (3 * 2 ^ 48 + 111) 255 0 0 0
     runs 0x6004 c (onPort id up) ∧ c.desc.arg0.getLsbD 16 = false ∧ fld c.desc.arg0 40 32 = 0 ∧ (gclRange c.desc).2 = 0) ∧
    (let c := com 4 9 (3 * 2 ^ 48 + 111) 0 0 0 0
     let s := setEgress 111 { Egress.reset with gclStage := some gcl1 } (onPort id up)
     runs 4 c s ∧ objClass c.desc.objectId = 9 ∧ (getEgress s 111).gclStage = some gcl1 ∧ 0 < gcl1.cycleNs) ∧
    (getEgress (setEgress 128 { Egress.reset with gclPending := some (gcl1, 5) } up) 128).gclPending = some (gcl1, 5) ∧
    ((getEgress (setEgress 128 { Egress.reset with gcl := gcl1 } up) 128).gcl.enable = true ∧
      (getEgress (setEgress 128 { Egress.reset with gcl := gcl1 } up) 128).realignAt = none ∧
      gcl1.length ≤ (getEgress (setEgress 128 { Egress.reset with gcl := gcl1 } up) 128).gclEntry + 1) := by
  unfold runs Runs
  repeat' apply And.intro
  all_goals decide

/-- Egress 128 exists on every switch; queue 15 is its last, and 16 names the egress. -/
theorem witness_SchedulerCommands :
    runs 0x6001 (com 0x6001 9 (128 * 256 + 15) 0 0 0 0) up ∧ runs 0x6001 (com 0x6001 9 (128 * 256 + 16) 0 0 0 0) up ∧
    objIndex (com 0x6001 9 (128 * 256 + 16) 0 0 0 0).desc.objectId % 256 = 16 ∧
    runs 0x6003 (com 0x6003 9 (2 * 2 ^ 48 + 128 * 256 + 16) 1 0 0 0) up ∧ runs 0x6003 (com 0x6003 9 (2 * 2 ^ 48 + 128 * 256 + 15) 1 0 0 0) up ∧
    (getEgress up 128).shaper.enable = false ∧ (com 0x6003 9 (2 * 2 ^ 48 + 128 * 256 + 16) 1 0 0 0).desc.arg0.getLsbD 0 = true ∧
    runs 0x6002 (com 0x6002 9 (2 ^ 48 + 4095) 1 0 0 0) up ∧ (getPolicer up 4095).enable = false := by
  unfold runs Runs
  repeat' apply And.intro
  all_goals decide

theorem witness_HistogramClear : up.glb.imageFail = false ∧ (0#64).getLsbD 0 = false ∧ (1#64).getLsbD 0 = true := by decide

/-- Link 7 as `f` makes it. -/
def onLink (f : Link → Link) (s : State) : State := setLink 7 (f Link.reset) s
/-- Link 7 in state `r` with all its lanes. -/
def link7 (r : LinkRun) : State := onLink (fun x => { x with state := r, width := 8, peerSwitch := 1, peerKnown := true, rate := 9 }) up
/-- The INIT of link 3 of switch 1. -/
def init1 (fresh : Bool) : InitInfo := ⟨0, 0, fresh, 1, false, true, 3, [64, 64, 64, 64], 0⟩

theorem witness_ObmulumLinksTrainAndBreak :
    (linkCanTrain (link7 .down) 7 = true ∧ linkCanTrain (onLink (fun x => { x with retired := true }) up) 7 = false ∧
      ∀ r ∈ [LinkRun.down, .detect, .align, .equalize, .identify], (getLink (link7 r) 7).state = r ∧ linkCanTrain (link7 r) 7 = true) ∧
    (halfBad (link7 .align) 7 false = false ∧ halfBad (link7 .align) 7 true = false) ∧
    ((init1 true).switchId % 32 ≠ up.glb.switchId ∧ ({ init1 true with switchId := 0 } : InitInfo).switchId % 32 = up.glb.switchId ∧
      up.glb.mgrSel = true ∧ (init1 true).mgrSel = false ∧ (init1 true).fresh = true) ∧
    ((getLink (link7 .init) 7).state = .init ∧ (getLink (link7 .init) 7).peerKnown = true ∧ (getLink (link7 .init) 7).peerLink ≠ (init1 false).link ∧
      (getLink (link7 .init) 7).peerSwitch = 1 ∧ (getLink (link7 .init) 7).draining = false ∧ ({ init1 false with link := 0 } : InitInfo).link = 0) ∧
    ((getLink (link7 .retrain) 7).state = .retrain ∧ (getLink (link7 .retrain) 7).widthNext = 8 ∧
      (getLink (link7 .retrain) 7).failedRetrains + 1 < (getLink (link7 .retrain) 7).cfg.retrainTries ∧
      LinkCfg.reset.retrainTries ≤ 2 + 1) ∧
    (let s := { link7 .active with gh := { up.gh with queues := [(qkey 119 15, [{ held1 with cells := 16 }])] } }
     (getLink s 7).state = .active ∧ creditWaits s 7 3 = true ∧ congSeen s.time.localNs (getCredit (getLink s 7) 3) = false ∧
       creditWaits s 7 0 = false) ∧
    (getLink (onLink (fun x => { x with draining := true }) up) 7).draining = true ∧
    (448 ≤ 511 ∧ linkOfLane 511 = 7 ∧ 511 ∈ linkLanes (link7 .active) 7) := by decide

/-- One unacknowledged flit. -/
def flit1 : ReplayFlit := ⟨5, 3, 15, none⟩

theorem witness_FlitsReplaySleepAndHeartbeats :
    (getLink (link7 .down) 7).state ≠ .active ∧ ((getLink (link7 .active) 7).state = .active ∧ (getLink (link7 .active) 7).crcRun < 7 ∧
      (getLink (link7 .active) 7).draining = false ∧ 4096 % 4096 = (getLink (link7 .active) 7).rxExpect ∧
      (getLink (link7 .active) 7).unacked = [] ∧ (getLink (link7 .active) 7).bunacked = [] ∧ canSleep (link7 .active) 7 = true ∧
      (getLink (link7 .active) 7).txAsleep = false) ∧
    (let s := onLink (fun x => { x with state := .active, unacked := [flit1], crcRun := 7, txAsleep := true }) up
     (getLink s 7).unacked ≠ [] ∧ (⟨0, .ok, .ok⟩ : ReplayHw).ecc = .ok ∧ canSleep s 7 = false ∧ (getLink s 7).txAsleep = true ∧ 7 ≤ (getLink s 7).crcRun ∧
       LinkCfg.reset.retrainReplays ≤ ((List.replicate 15 s.time.localNs).filter (fun e => decide ((s.time.localNs + 2 ^ 64 - e) % 2 ^ 64 < 1000000))).length + 1 ∧
       ([].filter (fun e => decide ((s.time.localNs + 2 ^ 64 - e) % 2 ^ 64 < 1000000))).length + 1 < LinkCfg.reset.retrainReplays) ∧
    flowBusy up 31 128 3 = false ∧
    flowBusy (onLink (fun x => { x with unacked := [{ flit1 with msg := some ⟨9, 0, 0, 0, 128, 0, 0, 0, 31, 0, 0, 3, true, 0, .gap⟩ }] }) up) 31 128 3 = true ∧
    isManager up = false ∧ isManager (claimed up) = true ∧ up.glb.mgrSel = true ∧ State.reset.glb.mgrSel = false := by decide

theorem witness_ObmulumConfiguration :
    (let c := com 0x7005 0xB 7 0 (512 + 512 * 2 ^ 16 + 2048 * 2 ^ 32 + 5120 * 2 ^ 48) 0 0
     runs 0x7005 c (link7 .active) ∧ objIndex c.desc.objectId / 2 ^ 48 = 0 ∧ (getLink (link7 .active) 7).cfg.enable = true ∧
       linkLive (getLink (link7 .active) 7) = true ∧ c.desc.arg0.getLsbD 0 = false ∧ (getLink (link7 .active) 7).unacked = [] ∧
       512 + 512 + 2048 + 5120 ≤ 8192) ∧
    (let c := com 0x7005 0xB 7 1 0 0 0
     let s := onLink (fun x => { x with state := .active, unacked := [flit1] }) up
     runs 0x7005 c s ∧ (getLink s 7).cfg.enable = c.desc.arg0.getLsbD 0 ∧ linkLive (getLink s 7) = true ∧ (getLink s 7).unacked ≠ []) ∧
    (runs 0x7005 (com 0x7005 0xB (2 ^ 48) 0 0 0 0) up ∧ up.glb.switchId = 0 ∧ runs 0x7005 (com 0x7005 0xB (2 ^ 48 + 31) 0 0 0 0) up) ∧
    (runs 0x7005 (com 0x7005 0xB (2 ^ 49) 0 0 0 0) up ∧ fabricOthers up = []) ∧ runs 0x7006 (com 0x7006 0xB (3 * 2 ^ 48 + 7) 0 0 0 0) up ∧
    runs 0x7006 (com 0x7006 0xB (4 * 2 ^ 48 + 8191) 0 0 0 0) up ∧ runs 0x7006 (com 0x7006 0xB (5 * 2 ^ 48 + 111) 0 0 0 0) up := by
  unfold runs Runs
  repeat' apply And.intro
  all_goals decide

/-- A message of switch 31's ingress 128 on channel 3, number 9. -/
def msg1 (kind : Nat) (flags : Byte) (b : Body) : Msg := ⟨kind, flags, 9, 0, 128, 31, 111, 0, 0, 0, 0, 3, true, 0, b⟩
/-- `m` is held at link 7, and its flow expects number `n`. -/
def holding (n : Nat) (m : Msg) : State := { up with obl := { up.obl with heldMsgs := [⟨7, false, m⟩], rxExpect := [(rxKey 31 128 3, n)] } }
/-- A signal of wire `k` of port 111. -/
def sig (k : Nat) : Body := .signal false ⟨k, 1, 111, 0, 0, 0, 1⟩

theorem witness_MessagesAreReleasedInFlowOrder :
    (∀ m ∈ [msg1 1 0 (.notice 0), msg1 6 0 (sig 1), msg1 7 0 (sig 10), msg1 8 0 (sig 17), msg1 9 0 .gap],
      findHeld (holding 9 m) 7 m = some ⟨7, false, m⟩ ∧ flagOf m 4 = false ∧ m.fseq % 65536 = expected (holding 9 m) 31 128 3 ∧
        m.fseq % 65536 ≠ expected (holding 8 m) 31 128 3 ∧ fenceMet (holding 9 m) m = true ∧ mustWait (holding 9 m) 7 m = false) ∧
    (isTraffic (msg1 1 0 (.notice 0)) = true ∧ isIntx (msg1 6 0 (sig 1)) = true ∧ isSideband (msg1 7 0 (sig 10)) = true ∧
      isSidebandOut (msg1 8 0 (sig 17)) = true ∧ (msg1 9 0 .gap).mkind = 9 ∧ isTraffic (msg1 9 0 .gap) = false) ∧
    (fenceMet (holding 9 (msg1 1 1 (.notice 0))) { msg1 1 1 (.notice 0) with pfence := 9 } = false) ∧
    flagOf (msg1 1 0x10 (.notice 0)) 4 = true ∧
    (let s := { holding 9 (msg1 6 0 (sig 1)) with stw := { up.stw with bindHost := [(0, ⟨true, 31, 111⟩)] } }
     boundHost s (msg1 6 0 (sig 1)) ⟨1, 1, 111, 0, 0, 0, 1⟩ = true ∧ boundHost up (msg1 6 0 (sig 1)) ⟨1, 1, 111, 0, 0, 0, 1⟩ = false) ∧
    (let s := { holding 9 (msg1 8 0 (sig 17)) with
       stw := { up.stw with bindSlot := [(111, ⟨true, 31, 0, 0⟩)] }
       slot := ⟨[(31, { Channel.reset with policy := { Policy.reset with port := 111, portValid := true } })]⟩ }
     boundSlot s (msg1 8 0 (sig 17)) ⟨17, 1, 111, 0, 0, 0, 1⟩ = true ∧ portChan s 111 = some 31 ∧
       boundSlot up (msg1 8 0 (sig 17)) ⟨17, 1, 111, 0, 0, 0, 1⟩ = false) ∧
    (let x := getPort (onPort id up) 111
     portCreated (onPort id up) 111 = true ∧ x.linkUp = true ∧ x.lock = none ∧ x.brokenLock ≠ some (31, 128)) ∧
    (getPort (onPort (fun x => { x with lock := some (31, 128) }) up) 111).lock = some (31, 128) := by decide
/-- VF 2047 as `f` makes it, with every VF enabled. -/
def onVf (f : Vf → Vf) (s : State) : State := { s with vf := { s.vf with
  enable := true, numVfs := 2048, vfs := [(2047, f { Vf.reset with state := .created, vecBase := 4, vecCount := 4 })] } }

/-- A running command of VF 2047's ring. -/
def tenantCmd : SeqCmd := { com 0x2004 3 63 0 0 0 0 with seq := 5, origin := .ring (.tenant 2047), stage := .waiting }
def silentCmd : SeqCmd := { com 0x2004 3 63 0 0 0 0 with seq := 5, origin := .silent 2047, stage := .waiting }

theorem witness_VirtualFunctions :
    (runs 0x8001 (com 0x8001 0xC 2047 0 0 0 0) (onVf id up) ∧ vfExists (getVf (onVf id up) 2047) = true) ∧
    (runs 0x8001 (com 0x8001 0xC 2047 0 0 0 0) up ∧ vfExists (getVf up 2047) = false ∧ vfEnabled up 2047 = false) ∧
    (let s := { up with vf := { up.vf with enable := true, numVfs := 2048 } }
     runs 0x8001 (com 0x8001 0xC 2047 0 0 0 0) s ∧ vfEnabled s 2047 = true ∧ vfLacks s (vfOf [] (getVf s 2047) s.vf.instNext) = false) ∧
    (let s := { up with vf := { up.vf with
      enable := true
      numVfs := 2048
      vfs := [(0, { Vf.reset with state := .created, vecBase := 0, vecCount := 4 })] } }
     runs 0x8001 (com 0x8001 0xC 2047 0 0 0 0) s ∧ vfEnabled s 2047 = true ∧ vfLacks s (vfOf [] (getVf s 2047) s.vf.instNext) = true) ∧
    (runs 0x8002 (com 0x8002 0xC 2047 0 0 0 0) (onVf id up) ∧ (getVf (onVf id up) 2047).flr = false ∧ vfNamed (onVf id up) 2047 = false ∧
      vfJobList (onVf id up) 2047 = [] ∧ (∀ w ∈ (onVf id up).gh.waits, w.vf ≠ some 2047) ∧
      ∀ o ∈ (given (com 0x8002 0xC 2047 0 0 0 0) (onVf id up)).cmd.inflight, o.origin ≠ .ring (.tenant 2047) ∧ o.origin ≠ .silent 2047) ∧
    runs 0x8002 (com 0x8002 0xC 2047 0 0 0 0) (onVf (fun x => { x with flr := true }) up) ∧
    (let s := windowed { WinEntry.reset with vfValid := true, vf := 2047 } (onVf id up)
     runs 0x8002 (com 0x8002 0xC 2047 0 0 0 0) s ∧ vfNamed s 2047 = true) ∧
    (let c := com 0x8002 0xC 2047 0 0 0 0
     let s := { onVf id up with cmd := { up.cmd with inflight := [c, tenantCmd] } }
     Runs s 0 0x8002 c ∧ (∃ o ∈ s.cmd.inflight, o.origin = .ring (.tenant 2047) ∧ o.stage = .waiting ∧ o.seq ≠ 0)) ∧
    (vfShown up 2047 = .absent ∧ vfShown (onVf (fun x => { x with state := .destroying }) up) 2047 = .destroying ∧
      vfShown (onVf (fun x => { x with state := .absent }) up) 2047 = .uncreated ∧ vfShown (onVf id up) 2047 = .created) ∧
    (∃ o ∈ ({ up with cmd := { up.cmd with inflight := [silentCmd] } } : State).cmd.inflight, o.origin = .silent 2047) ∧
    (∀ o ∈ up.cmd.inflight, o.origin ≠ .silent 2047) ∧ up.glb.imageFail = false ∧ (4#64).getLsbD 0 = false ∧ (4#64).getLsbD 2 = true ∧
    (0#64).getLsbD 2 = false ∧ (getVf { onVf (fun x => { x with toMgrFull := true }) up with vf := { (onVf (fun x => { x with toMgrFull := true }) up).vf with sel := 2047 } } 2047).toMgrFull = true := by
  unfold runs Runs
  repeat' apply And.intro
  all_goals decide

/-- Vector 8191 collects a batch and is unmasked, in a switch whose records leave. -/
def batching : State := { hosted up with evt := { up.evt with
  vec := [(8191, { Coalescer.reset with collected := 1, heldMsg := true })], unmasked := [(8191, true)] } }

theorem witness_VectorsAndCoalescers :
    runs 0x8003 (com 0x8003 0xD 4095 0 0 0 0) up ∧
    (runs 0x8003 (com 0x8003 0xD (2 ^ 48 + 8191) 2 0 0 0) up ∧ (getVec up 8191).collected = 0) ∧
    (runs 0x8003 (com 0x8003 0xD (2 ^ 48 + 8191) 0 0 0 0) batching ∧ 1 ≤ (getVec batching 8191).collected) ∧
    vecHeld up 8191 = true ∧ vecHeld batching 8191 = false ∧ (getVec up 8191).heldMsg = false ∧ (getVec batching 8191).heldMsg = true ∧
    fnMask batching (vecFn batching 8191) = false ∧ fnHeld batching (vecFn batching 8191) = false := by
  unfold runs Runs
  repeat' apply And.intro
  all_goals decide

/-- Channel 31 in state `r`, its other parts as `f` makes them. -/
def channel (r : ChState) (f : Channel → Channel) (s : State) : State := setChan 31 (f { Channel.reset with state := r }) s

theorem witness_SlotCommands :
    (let c := com 0x9001 0xE 31 111 0 0 0
     runs 0x9001 c (channel .on id up) ∧ (policyOf c.desc).port ≠ (getChan (channel .on id up) 31).policy.port ∧
       runs 0x9001 c up ∧ (getChan up 31).state = .empty) ∧
    (let c := com 0x9001 0xE 31 (111 + 128) 0 0 0
     let s := setChan 0 { Channel.reset with policy := { Policy.reset with port := 111, portValid := true } } up
     runs 0x9001 c s ∧ (policyOf c.desc).portValid = true ∧
       ∃ e ∈ s.slot.ch, e.1 ≠ 31 ∧ e.2.policy.portValid = true ∧ e.2.policy.port = (policyOf c.desc).port) ∧
    runs 0x9001 (com 0x9001 0xE (2 ^ 48 + 31) 0 0 0 0) up ∧
    runs 0x9004 (com 0x9004 0xE 31 0 0 0 0) up ∧
    (runs 0x9002 (com 0x9002 0xE 31 0 0 0 0) up ∧ (getChan up 31).state ≠ .landing) ∧
    (runs 0x9002 (com 0x9002 0xE 31 0 0 0 0) (channel .landing id up) ∧ (getChan (channel .landing id up) 31).state = .landing ∧
      twf Channel.reset (channel .landing id up).slot.ch = true ∧
      4 ≤ inrushCount { up with slot := ⟨(List.range 4).map (fun i => (i, { Channel.reset with state := .inrush }))⟩ }) ∧
    (∀ r ∈ [ChState.on, .test, .inrush, .waiting, .retryWait, .empty], (getChan (channel r id up) 31).state = r) ∧
    runs 0x9003 (com 0x9003 0xE 31 0 0 0 0) (channel .on id up) ∧
    (runs 0x9005 (com 0x9005 0xE 31 0 0 0 0) (channel .lockedOut id up) ∧ (getChan (channel .lockedOut id up) 31).retired = false ∧
      runs 0x9005 (com 0x9005 0xE 31 0 0 0 0) up ∧ (getChan up 31).state ≠ .lockedOut) ∧
    (let s := channel .landing (fun x => { x with autoOk := true, policy := { Policy.reset with portValid := true, hostCtrl := true, autoRelease := true } }) up
     (getChan s 31).policy.portValid = true ∧ (getChan s 31).policy.hostCtrl = true ∧ (getChan s 31).policy.autoRelease = true ∧
       (getChan s 31).autoOk = true ∧ s.glb.ready = true) ∧
    (inrushCount (channel .waiting id up) < 4 ∧
      (channel .waiting id up).slot.ch.find? (fun e => e.2.state == .waiting) = some (31, { Channel.reset with state := .waiting })) := by
  unfold runs Runs
  repeat' apply And.intro
  all_goals decide

theorem witness_SlotEvents :
    (∀ r ∈ [ChState.test, .inrush, .on, .stopping, .seating, .lockedOut, .landing, .waiting, .retryWait, .tripped, .empty],
      (getChan (channel r id up) 31).state = r) ∧
    (getChan up 31).seated = false ∧ (getChan (channel .on (fun x => { x with seated := true }) up) 31).seated = true ∧
    (getChan (channel .inrush (fun x => { x with busAborts := 7 }) up) 31).busAborts = 7 ∧
    (getChan (channel .inrush id up) 31).busAborts < 7 ∧ (getChan (channel .lockedOut id up) 31).wiringLock = false := by decide

/-- Unit `u` is retired (and waits to join, if `j`). -/
def retired (u : Nat) (j : Bool) (s : State) : State := { s with flt := { s.flt with retired := [u], joining := if j then [u] else [] } }

set_option maxRecDepth 8000 in
theorem witness_UnitsLeaveAndReturn :
    (∀ n ∈ [1 * 4096 + 511, 2 * 4096 + 111, 3 * 4096 + 255, 4 * 4096 + 63, 5 * 4096 + 31, 6 * 4096 + 7, 7 * 4096 + 31],
      runs 0xA001 (com 0xA001 0xF n 0 0 0 0) (onPort id up) ∧ unitLeaving (onPort id up) n = false ∧
      runs 0xA002 (com 0xA002 0xF n 0 0 0 0) (onPort id (retired n false up)) ∧ n ∈ (onPort id (retired n false up)).flt.retired ∧
      n ∉ up.flt.retired ∧ n ∈ (retired n true up).flt.joining) ∧
    unitLeaving (retired (2 * 4096 + 111) false up) (2 * 4096 + 111) = true ∧ 64 < banksLeft up ∧ 1 < moversLeft up ∧
    banksLeft { up with gh := { up.gh with retired := List.range 192 } } ≤ 64 := by
  unfold runs Runs
  decide

theorem witness_UnitsLeaveAndReturn_lastMover :
    moversLeft { up with move := { up.move with movers := (List.range 63).map (fun m => (m, { Mover.reset with state := .retired })) } } ≤ 1 := by
  decide

/-- Source 3 is valid and selected. -/
def timed (s : State) : State := { s with time := { s.time with valid := 4, source := 3 } }

theorem witness_ThymeKeepsTime :
    (runs 0xA003 (com 0xA003 0x10 0 0 0 0 0) up ∧ (com 0xA003 0x10 0 0 0 0 0).desc.arg3.getLsbD 0 = false) ∧
    (runs 0xA003 (com 0xA003 0x10 0 0 0 5 1) up ∧ (com 0xA003 0x10 0 0 0 5 1).desc.arg3.getLsbD 0 = true) ∧
    (srcValid up.time 3 = false ∧ srcValid (timed up).time 3 = true ∧ (timed up).time.source = 3 ∧
      (∀ j < 4, j ≠ 3 → srcValid (timed up).time j = false) ∧ up.time.source ≠ 1 ∧ ({ timed up with time := { (timed up).time with source := 1 } } : State).time.source ≠ 3) ∧
    up.time.stepPending = none ∧
    (let t := { up.time with stepPending := some 1, stepAfter := 10 ^ 9, now := 2 * 10 ^ 9 - 1 }
     t.stepPending = some 1 ∧ stepNow t 1 = true ∧ stepNow { t with now := 5 } 1 = false) ∧
    (up.time.now % 1000000000 < 2 ∧ up.time.cfg.ppsOutEn = true) ∧
    (up.glb.mgrSel = true ∧ State.reset.glb.mgrSel = false ∧ up.time.missedSyncs < 5 ∧ linkToward up 1 = none) ∧
    (let s := { link7 .active with obl := { (link7 .active).obl with routes := [(1, ⟨119, 0xFF, false⟩)], mgrSwitch := 1 } }
     linkToward s s.obl.mgrSwitch = some 7 ∧ (getLink s 7).state = .active ∧ (getLink s 7).txAsleep = false ∧ (getLink s 7).bwait = [] ∧
       bypassOut (getLink s 7) ≤ 253) ∧
    (let t := { State.reset.time with missedSyncs := 1, syncSeq := 1 }
     0 = (t.syncSeq + 65535) % 65536 ∧ t.missedSyncs ≠ 0 ∧ ((4 : Word) - 1).toInt - ((3 : Word) - 2).toInt < 100000 ∧
       1000000 < ((2000000 : Word) - 1).toInt) := by
  unfold runs Runs
  repeat' apply And.intro
  all_goals decide

/-- The flash queue holds `k` in front. -/
def flashing (k : FlashKind) (s : State) : State := { s with sec := { s.sec with flashQ := [⟨k, none⟩] } }

/-- An image of 4 KiB with KEY_INDEX `k`, all of whose cryptography holds (17 R423). -/
def image (k : Nat) : ImageHdr := ⟨BitVec.ofNat 64 (0x36395650 + 2 ^ 32 + k * 2 ^ 48), BitVec.ofNat 64 (4096 * 2 ^ 32), [1], true, true, true⟩

theorem witness_ImageCalibrationFlashAndKeys :
    (runs 0xA006 (com 0xA006 0x10 2 0 0 0 0) up ∧ imageVerifies up.sec.keyRevoked up.sec.svMin (image 3) = true ∧
      imageVerifies up.sec.keyRevoked up.sec.svMin (image 4) = false) ∧
    (runs 0xA004 (com 0xA004 0x10 1 0 1 0 0) up ∧ fld (com 0xA004 0x10 1 0 1 0 0).desc.arg1 10 0 = 1 ∧
      (tins (up.sec.calStage.getD up.sec.calOverlay) (calKey (calUse 0 0)) (tobits (calUse 0 0).2.2.2 64)).length ≤ 1024) ∧
    runs 0xA005 (com 0xA005 0x10 1 0 0 0 0) up ∧ up.sec.flashQ = [] ∧
    (∀ v ∈ [1, 2, 3], (BitVec.ofNat 64 v).toNat % 4 = v) ∧ up.glb.imageFail = false ∧ up.sec.flashAddr < 0x800000 ∧
    (∀ k ∈ [FlashKind.imageCommit, .calCommit [], .calRestore, .eraseSector 0x7F0000, .program 0x7FFF00, .read 0x7FFF00],
      (flashing k up).sec.flashQ = ⟨k, none⟩ :: []) ∧ up.glb.warm = .none ∧
    up.sec.debugFuse = false ∧ up.sec.debugLocked = false ∧ up.sec.nonce = none ∧
    ({ up with sec := { up.sec with nonce := some 5 } } : State).sec.nonce = some 5 ∧
    ({ up with sec := { up.sec with debugLocked := true } } : State).sec.debugLocked = true ∧ up.sec.sessions = 0 ∧
    (let s := { up with sec := { up.sec with keyed := [3], sessions := 1 } }
     3 ∈ s.sec.keyed ∧ 3 ∉ s.sec.insecure ∧ s.sec.sessions ≠ 0) := by
  unfold runs Runs
  repeat' apply And.intro
  all_goals decide

/-- More than 1,024 merged entries. -/
theorem witness_ImageCalibrationFlashAndKeys_full :
    1024 < (tins (((List.range 1025).map (fun i => (i, 1))) : List (Nat × Nat)) (calKey (calUse 0 0)) (tobits (calUse 0 0).2.2.2 64)).length := by
  have h : calKey (calUse 0 0) = 1 := by decide
  have h2 : tobits (calUse 0 0).2.2.2 64 = 0 := by decide
  rw [h, h2, List.range_eq_range', List.range'_succ, List.range'_succ]
  simp [tins]

/-- Bring-up phase `n`. -/
def phase (n : Nat) : State := { State.reset with glb := { State.reset.glb with bringUp := .phase n } }

/-- Slot A with SEQ 7 and slot B with SEQ 8, whose key slot 1 is revoked where `rev` says so; a sprig that waits. -/
def boot0 : BootInfo :=
  ⟨⟨image 0, some 7⟩, ⟨image 1, some 8⟩, 0, 0, false, [], true, [], ⟨false, true, 0, []⟩, ⟨false, true, 0, []⟩, [0x260], [], 0, 0, [], []⟩

theorem witness_ResetsBringUpAndPower :
    (slotVerifies (phase 4) boot0.slotA = true ∧
      slotVerifies (phase 4) { boot0.slotA with hdr := image 4 } = false ∧ boot0.selfTestOk = true) ∧
    ({ up with glb := { up.glb with inReset := true } } : State).glb.inReset = true ∧ up.glb.inReset = false ∧
    ((0x2A5C3#64).toNat % 65536 = 0xA5C3 ∧ (0x2A5C3#64).getLsbD 17 = true ∧ (0xA5C3#64).getLsbD 17 = false) ∧
    ((0x1A5C3#64).toNat % 65536 = 0xA5C3 ∧ (0x1A5C3#64).getLsbD 16 = true ∧ (0x1A5C3#64).getLsbD 17 = false ∧
      (0xA5C3#64).getLsbD 16 = false ∧ (0x1A5C2#64).toNat % 65536 ≠ 0xA5C3) ∧
    ({ up with glb := { up.glb with warm := .links 2 } } : State).glb.warm = .links 2 ∧
    up.glb.warm = .none ∧ up.sec.flashQ = [] ∧ (flashing .calRestore up).sec.flashQ ≠ [] ∧
    ({ up with glb := { up.glb with warm := .drain 2 } } : State).glb.warm = .drain 2 ∧
    (∀ n ∈ [1, 2, 3, 4, 5, 6, 7, 8], (phase n).glb.bringUp = .phase n) ∧ (phase 4).glb.inReset = false ∧ up.glb.bringUp = .up ∧
    up.glb.thermTrip = false ∧ ({ up with glb := { up.glb with thermTrip := true } } : State).glb.thermTrip = true ∧
    up.glb.bringUp ≠ .phase 1 ∧ up.pwr.vminMv ≤ up.pwr.vmaxMv := by decide

theorem witness_EventLinesPendMaskAndOffer : up.glb.imageFail = false ∧
    (tget (BitVec.allOnes 64) up.evt.mask 63).getLsbD 63 = true ∧
    (tget (BitVec.allOnes 64) ({ up with evt := { up.evt with mask := [(63, 0)] } } : State).evt.mask 63).getLsbD 63 = false := by decide

theorem witness_TenantDoorbellsAndStatusClears :
    vfOpen (onVf id up) 2047 = true ∧
    (let x := getVf (onVf id up) 2047
     (x.evq.produced + 2 ^ 32 - 0) % 2 ^ 32 ≤ 2 ^ x.evq.sizeLog2 ∧ ¬((x.evq.produced + 2 ^ 32 - 1) % 2 ^ 32 ≤ 2 ^ x.evq.sizeLog2) ∧
       x.toMgrFull = false ∧ x.toVfFull = false) ∧
    (getVf (onVf (fun x => { x with toMgrFull := true, toVfFull := true }) up) 2047).toMgrFull = true ∧
    (getVf (onVf (fun x => { x with toMgrFull := true, toVfFull := true }) up) 2047).toVfFull = true ∧
    up.glb.imageFail = false ∧ (5#64).getLsbD 0 = true ∧ (5#64).getLsbD 2 = true ∧ (0#64).getLsbD 0 = false ∧
    (let s := { onVf id up with vf := { (onVf id up).vf with sel := 2047 } }
     vfExists (getVf s s.vf.sel) = true) := by decide

/-- Where no host has a space of its own, no address lies in an aperture. -/
theorem readUp_of_no_hosts (s : State) (f : Fn) (fetch : Bool) (a n : Nat) (h : s.win.hosts = []) : readUp s f fetch a n = true := by
  unfold readUp
  rw [List.all_eq_true]
  intro p _
  unfold stampNow
  split
  · rename_i k _
    have hg : getHost s k = HostSpace.reset := by simp [getHost, h, tget]
    have hw : winAt s k (getHost s k).win.stamping = ⟨0, 0, []⟩ := by
      unfold winAt
      rw [hg]
      rfl
    have hk : inAperture (⟨0, 0, []⟩ : WinTable) = fun _ => false := by
      funext page
      simp [inAperture, aperPage, aperPages]
    simp [hw, hk]
  · rfl

/-- The argument data of commands of the manager lie outside every aperture. -/
theorem witness_ReadsUp :
    ReadsUp (given (com 0x1001 1 0 0 64 0 1) up) false rtRange (com 0x1001 1 0 0 64 0 1) ∧
    ReadsUp (given (com 0x2004 3 63 0 64 0 1) up) false mapRange (com 0x2004 3 63 0 64 0 1) ∧
    ReadsUp (given (com 0x3001 4 63 0 64 0 0) up) false defineRange (com 0x3001 4 63 0 64 0 0) ∧
    ReadsUp (given (com 0x4001 5 31 64 8 64 8) up) true codeRange (com 0x4001 5 31 64 8 64 8) ∧
    ReadsUp (given (com 0x4001 5 31 64 8 64 8) up) true dataRange (com 0x4001 5 31 64 8 64 8) ∧
    ReadsUp (given (com 0x5002 7 63 64 1 0 0) up) false moveRange (com 0x5002 7 63 64 1 0 0) ∧
    ReadsUp (given (com 0x8001 0xC 2047 64 0 0 0) up) false vfRange (com 0x8001 0xC 2047 64 0 0 0) ∧
    ReadsUp (given (com 0xA006 0x10 2 64 4096 0 0) up) false imageRange (com 0xA006 0x10 2 64 4096 0 0) ∧
    ReadsUp (given (com 0xA004 0x10 1 64 1 0 0) up) false calRange16 (com 0xA004 0x10 1 64 1 0 0) := by
  unfold ReadsUp
  refine ⟨?_, ?_, ?_, ?_, ?_, ?_, ?_, ?_, ?_⟩ <;> exact .inr (readUp_of_no_hosts _ _ _ _ _ rfl)

/-- A four-lane port trains at x4, and at x1 once lane 446 is retired; with lane 444, its first, retired it does not train. -/
theorem witness_PortLinkStates_widths :
    (let s := onPort id up
     let s0 := labelLanes 444 4 false 0 (lanesOf s 111) s
     Widest s0 111 4 4 ∧ ¬ FitsWidth (setLane 444 { getLane s0 444 with retired := true } s0) 111 4 1 ∧
       Widest (setLane 446 { getLane s0 446 with retired := true } s0) 111 4 2) ∧
    (let x := { Port.reset with rate := 2 }
     lockBroken x (.symbols [1, 2, 3, 4]) = true ∧ lockBroken x .quiet = false ∧ lockBroken { x with flit := true } (.flits 0 1 0 true) = true) ∧
    (let s := onPort (fun x => { x with recovering := true }) up
     let s0 := labelLanes 444 4 false 0 (lanesOf s 111) s
     Widest s0 111 4 4) ∧
    (let s := onPort (fun x => { x with engRunning := false, dpcEnabled := true, cfg := { x.cfg with role := 1 } }) up
     (getPort s 111).engRunning = false ∧ (getPort s 111).dpcEnabled = true ∧ (getPort s 111).cfg.role % 2 = 1 ∧
       canTrain (onPort (fun x => { x with linkUp := false }) up) 111 = true) := by
  unfold Widest FitsWidth
  decide

/-- A line whose home is switch 1, reached over link 7. -/
def away : State := { shared (setLink 7 { Link.reset with state := .active, peerSwitch := 1, peerKnown := true } up) with
  dir := { (shared up).dir with domains := [(63, { dom1 with homes := [1] })] }
  obl := { (setLink 7 { Link.reset with state := .active, peerSwitch := 1, peerKnown := true } up).obl with
    routes := [(1, { RouteEnt.reset with primary := 119, alt := 119 })], reach := 2 } }

theorem witness_HomeRequests_away : lineHere away (63 * 2 ^ 40) = false ∧ (getDomain away 63).defined = true ∧
    linkToward away (homeOf (getDomain away 63) 0) = some 7 ∧ away.gh.deferred = [] ∧ (getDomain away 63).participants.length ≤ 2 := by decide

theorem witness_HomeTransactionsGoOn_inner :
    (let s := atHome { DirLine.reset with txn := some (homeTxn .ncWrite .expander [] false) }
     (getLine s (63 * 2 ^ 40)).txn = some (homeTxn .ncWrite .expander [] false) ∧ SetQuiet s (63 * 2 ^ 40)) ∧
    (let x := { homeTxn .readOwn .expander [] false with inner := [(5, none)] }
     let s := atHome { DirLine.reset with txn := some x }
     (getLine s (63 * 2 ^ 40)).txn = some x ∧ x.inner = [(5, none)] ∧ x.forLine = none ∧ x.failed = false ∧ SetQuiet s (63 * 2 ^ 40) ∧
       lineHere s (63 * 2 ^ 40) = true) := by
  unfold SetQuiet
  repeat' apply And.intro
  all_goals decide

/-- Four resident generations of a map with a 2 MiB entry at page 0. -/
def fullHuge : State := { up with win := { up.win with hosts := [(63, { HostSpace.reset with
  win := GenTable.reset ⟨0, 1, []⟩
  map := ⟨4, 4, [0, 1, 2, 3].map (fun i => (i, ⟨i + 1, 0, [(0, .huge ⟨true, true, false, 1, 0⟩)]⟩)), none⟩ })] } }

set_option maxRecDepth 20000 in
/-- A WEIGHT, a SPLIT and a MIGRATE at the head of slot 31, with nothing under way on their objects. -/
theorem witness_ProposalsAreApplied_heads :
    NextProposal (posted ⟨3, obj9 0 (128 * 256 + 15), 4095, 0⟩ up) 31 ⟨3, obj9 0 (128 * 256 + 15), 4095, 0⟩ ∧
    NextProposal (posted ⟨4, obj9 1 4095, 128000, 0⟩ up) 31 ⟨4, obj9 1 4095, 128000, 0⟩ ∧
    NextProposal (posted ⟨2, 63, 0, 0⟩ fullHuge) 31 ⟨2, 63, 0, 0⟩ ∧ genFull (getHost (posted ⟨2, 63, 0, 0⟩ fullHuge) 63).map = true ∧
    splitStatus (posted ⟨2, 63, 0, 0⟩ fullHuge) (refOf (posted ⟨2, 63, 0, 0⟩ fullHuge) 31 ⟨2, 63, 0, 0⟩) = 0 ∧
    NextProposal (posted ⟨1, 63, 1, 0⟩ movable) 31 ⟨1, 63, 1, 0⟩ := by
  unfold NextProposal
  repeat' apply And.intro
  all_goals first
    | decide
    | (intro k hk; cases hk; decide)

set_option maxRecDepth 100000 in
/-- Link 7 is awake and ACTIVE and has nothing to send: it sends an IDLE flit. -/
theorem witness_EgressesSendTheirBestHead_idle :
    (let s := link7 .active
     best (countNpw 119 (guardCount 119 (List.range 16) (refresh 119 s))) 119 = none ∧ (getLink s 7).state = .active ∧ (getLink s 7).txAsleep = false) ∧
    (getLink (link7 .down) 7).state ≠ .active := by decide

theorem witness_EveryCommandOfExistingUnitsCompletes : (Instr.dirCacheMissFill (2 ^ 26 - 1) .ok .ok 0 none).wf = true ∧ 2 ^ 26 - 1 < 2 ^ dirBits up ∧
    (Instr.heatSweep (2 ^ 24 - 1) none).wf = true ∧ 2 ^ 24 - 1 < 2 ^ heatBits up ∧ Instr.wrstN.wf = true := by decide

theorem witness_EveryStepKeepsLegal : Legal up ∧ ∃ t, step up = .next t :=
  ⟨⟨by decide, by decide, by decide, by decide, by decide, by decide, by decide, by decide, by decide, by decide, by decide, by decide⟩,
    _, rfl⟩
/-! ## One small step per command, its result computed by hand from the rule cited -/

/-- A part of the state that an outcome leads to. -/
def after {α : Type} (o : Out) (f : State → α) : Option α :=
  match o with
  | .next s => some (f s)
  | _ => none

/-- Slot 31 runs `w` with g1 and g2 as given. -/
def alu (w g1 g2 : Word) : State := sprig 0 [w, insn 0x61 0 0 0 0] (fun x => { x with regs := [(1, g1), (2, g2)] })

/-- g3 of slot 31 after the three-register instruction `c` on g1 and g2. -/
def g3 (op : Nat) (c : Nat → Nat → Nat → Nat → Instr) (g1 g2 : Word) : Option Word :=
  after (exec (c 31 3 1 2) (alu (insn op 3 1 2 0) g1 g2)) (fun t => reg t 31 3)
/-- g3 of slot 31 after the instruction `c` with an immediate on g1. -/
def g3i (op : Nat) (c : Nat → Nat → Nat → BitVec 32 → Instr) (g1 : Word) (imm : BitVec 32) : Option Word :=
  after (exec (c 31 3 1 imm) (alu (insn op 3 1 0 imm) g1 0)) (fun t => reg t 31 3)

/-! The result column of 07 R207. -/
theorem test_add_wraps : g3 0x01 .add 0xFFFFFFFFFFFFFFFF 2 = some 1 := by decide
theorem test_sub_wraps : g3 0x02 .sub 1 2 = some 0xFFFFFFFFFFFFFFFF := by decide
theorem test_and : g3 0x03 .and 0b1100 0b1010 = some 0b1000 := by decide
theorem test_or : g3 0x04 .or 0b1100 0b1010 = some 0b1110 := by decide
theorem test_xor : g3 0x05 .xor 0b1100 0b1010 = some 0b0110 := by decide
theorem test_shl_by_low_bits : g3 0x06 .shl 3 65 = some 6 := by decide
theorem test_shr : g3 0x07 .shr 0x8000000000000000 63 = some 1 := by decide
theorem test_sar : g3 0x08 .sar 0x8000000000000000 63 = some 0xFFFFFFFFFFFFFFFF := by decide
theorem test_mul_low : g3 0x09 .mul 0x100000001 0x100000001 = some 0x200000001 := by decide
theorem test_mulhu_high : g3 0x0A .mulhu 0x100000001 0x100000001 = some 1 := by decide
theorem test_divu_by_zero : g3 0x0B .divu 7 0 = some 0 := by decide
theorem test_remu : g3 0x0C .remu 17 5 = some 2 := by decide
theorem test_ltu_unsigned : g3 0x0D .ltu 1 0xFFFFFFFFFFFFFFFF = some 1 := by decide
theorem test_lt_signed : g3 0x0E .lt 1 0xFFFFFFFFFFFFFFFF = some 0 := by decide
theorem test_minu : g3 0x0F .minu 5 0x8000000000000000 = some 5 := by decide
theorem test_maxu : g3 0x10 .maxu 5 0x8000000000000000 = some 0x8000000000000000 := by decide
theorem test_popc : after (exec (.popc 31 3 1) (alu (insn 0x11 3 1 0 0) 0xFF01 0)) (fun t => reg t 31 3) = some 9 := by decide
theorem test_clz_of_zero : after (exec (.clz 31 3 1) (alu (insn 0x12 3 1 0 0) 0 0)) (fun t => reg t 31 3) = some 64 := by decide
theorem test_clz_of_bit : after (exec (.clz 31 3 1) (alu (insn 0x12 3 1 0 0) 0x10000 0)) (fun t => reg t 31 3) = some 47 := by decide
theorem test_addi_sign_extends : g3i 0x21 .addi 5 0xFFFFFFFF = some 4 := by decide
theorem test_andi_is_unsigned : g3i 0x23 .andi 0xFFFFFFFFFFFFFFFF 0xFFFFFFFF = some 0xFFFFFFFF := by decide
theorem test_ltui_sign_extends : g3i 0x2D .ltui 5 0xFFFFFFFF = some 1 := by decide
theorem test_lti_signed : g3i 0x2E .lti 5 0xFFFFFFFF = some 0 := by decide
theorem test_immhi : g3i 0x30 .immhi 0xAAAAAAAA12345678 0x9 = some 0x912345678 := by decide
theorem test_write_to_g0 : after (exec (.add 31 0 1 2) (alu (insn 0x01 0 1 2 0) 4 5)) (fun t => reg t 31 0) = some 0 := by decide

/-- A load takes the address modulo 65,536 with bits [2:0] ignored (07 R207). -/
theorem test_ld_wraps : after (exec (.ld 31 3 1 0xF .ok) { alu (insn 0x40 3 1 0 0xF) 0xFFFF 0 with
    sage := { (alu (insn 0x40 3 1 0 0xF) 0xFFFF 0).sage with slots := [(31, { getSlot (alu (insn 0x40 3 1 0 0xF) 0xFFFF 0) 31 with mem := [(1, 77)] })] } })
    (fun t => reg t 31 3) = some 77 := by decide

/-- BR with condition 5 (signed below) is taken on -1 < 0 (07 R207). -/
theorem test_br_taken : after (exec (.br 31 5 1 2 0) (alu (insn 0x50 5 1 2 0) 0xFFFFFFFFFFFFFFFF 0)) (fun t => (getSlot t 31).pc) = some 0 := by decide

/-- CALL saves PC + 8 and goes on at PC + IMM × 8 (07 R207). -/
theorem test_call : after (exec (.call 31 3 1) (alu (insn 0x56 3 0 0 1) 0 0)) (fun t => (reg t 31 3, (getSlot t 31).pc)) = some (8, 8) := by decide

/-- The word after an illegal one is never run: going on to it restarts the sprig with cause 1 (07 R208, R219). -/
theorem test_illegal_word : after (exec (.add 31 3 1 2) (sprig 0 [insn 0x01 3 1 2 0, 0xFF] id))
    (fun t => ((getSlot t 31).pc, (getSlot t 31).faultCause, (getSlot t 31).faultPc)) = some (0, 1, 8) := by decide

/-- SQ_TAIL accepts 16 commands in a ring of 16 and not 17 (02 R54). -/
theorem test_sq_tail : (after (exec (.sqTail 1 16) up) (fun t => t.cmd.ring1.sqTail), after (exec (.sqTail 1 17) up) (fun t => (t.cmd.ring1.sqTail, t.glb.clampCount))) =
    (some 16, some (0, 1)) := by decide

set_option maxRecDepth 8000 in
/-- EPOCH_CLAIM sets the epoch to ARG0 (02 R68). -/
theorem test_epoch_claim : after (exec (.epochClaim 0) (given (com 2 0 0 9 0 0 0) (claimed up))) (fun t => t.cmd.ownEpoch) = some 9 := by decide

/-- TEL_CONFIG holds EPOCH_MS in 1 to 60,000 and DECAY_SHIFT in 0 to 8 (07 R198). -/
theorem test_tel_config : after (exec (.telConfig 0) (given (com 0x4005 6 (2 ^ 48) (15 * 2 ^ 32) 0 0 0) up)) (fun t => (t.tel.next.epochMs, t.tel.next.decayShift)) =
    some (1, 8) := by decide

/-- LINK_UP at the partner's rate 4 and width 2 of a four-lane port (03 R82, R84). -/
theorem test_link_up : after (exec (.linkUp 111 ⟨4, 2, false, 0, false, false, false, false, .none, 0, false, 1⟩) (onPort (fun x => { x with linkUp := false }) up))
    (fun t => ((getPort t 111).linkUp, (getPort t 111).rate, (getPort t 111).width, (getPort t 111).degraded)) = some (true, 4, 2, true) := by decide

set_option maxRecDepth 8000 in
/-- A PAYLOAD flit with the expected number 4,095 wraps the next one to 0 (10 R280). -/
theorem test_payload_flit : after (exec (.payloadFlit 7 ⟨4095, 0, 0, 0, 0, false, 0⟩ true 0 [])
    (onLink (fun x => { x with state := .active, rxExpect := 4095 }) up)) (fun t => (getLink t 7).rxExpect) = some 0 := by decide

/-- The replay timer sends nothing anew where nothing is unacknowledged (10 R281). -/
theorem test_replay_timer : after (exec (.replayTimer 7 ⟨0, .ok, .ok⟩) (link7 .active)) (fun t => (t.out, (getLink t 7).replays)) = some ([], 0) := by decide

/-- Lane 511 in a near-end parallel loop at 128 GT/s, locked, with an error every 2^10 bits. -/
def looped : State := { up with port := { up.port with lanes := [(511, { Lane.reset with
  prbsLock := true, test := ⟨5, true, true, 2, 9, 2, 10⟩, prbs := { Prbs.reset with bits := 1023, tx := 5, rx := 5 } })] } }

set_option maxRecDepth 20000 in
/-- In 1 ns 128 bits pass; bit 1,024 is inverted and counted as an error (03 R92, Example 4). -/
theorem test_prbs_tick : after (step looped) (fun t => ((getLane t 511).prbsBits, (getLane t 511).prbsErrs,
    (getLane t 511).prbsInjected, (getLane t 511).prbsLock)) = some (128, 1, 1, true) := by decide

/-- A PPS_OUT pulse of 1 µs that began at 0 ends at Thyme 1,000 (16 R419). -/
theorem test_pps_fall : after (step
    { up with time := { up.time with now := 999, ppsHigh := true, cfg := { up.time.cfg with ppsWidthUs := 1 } } }) (fun t => (t.time.ppsHigh, t.out)) = some (false, [.pin .ppsOut false]) := by decide

set_option maxRecDepth 8000 in
/-- An uncorrectable word of the replay buffer breaks the link and latches class 14 (15 R394, 11 R318). -/
theorem test_replay_lost : after (exec (.replayTimer 7 ⟨0, .uncorrectable, .ok⟩)
    (onLink (fun x => { x with state := .active, unacked := [flit1] }) up))
    (fun t => ((getLink t 7).broken, t.flt.status.getLsbD 14, (getLink t 7).unacked.length)) = some (true, true, 0) := by decide

set_option maxRecDepth 8000 in
/-- A granted mover issues a line: 64 bytes of its grant, and 64 of its class's credit (08 R233). -/
theorem test_mover_line : after (exec (.moverLineComplete 63 .issue) { routed with move := (moving .granted (some fill3) 0 []).move })
    (fun t => ((getMover t 63).grantBytes, (getMover t 63).lines.length, creditOf (getClass t 0) 7)) = some (64, 1, -64) := by decide

/-- ARB_CLASS_SET takes WEIGHT 0 as 1 and BURST_LOG2 31 as 24 (08 R232). -/
theorem test_arb_class : after (exec (.arbClassSet 0) (given (com 0x5003 7 63 (31 * 2 ^ 8) 0 0 0) up))
    (fun t => ((getClass t 63).weight, (getClass t 63).burstLog2)) = some (1, 24) := by decide

/-- MARK commits generation 2 and goes to FENCE (08 R243). -/
theorem test_migration_mark : after (exec (.migrationMarkCommitted 255) (migrating .mark))
    (fun t => ((getMig t 255).map (·.state), (getMig t 255).bind (·.gen), (getHost t 63).map.current)) = some (some .fence, some 2, 2) := by decide

/-- A sample of an empty queue with DEPTH unit 1 counts in bin 0 (09 R268). -/
theorem test_hist_sample : after (exec (.histSample 128) up) (fun t => (tget 0 (getSchedQ t (128 * 16 + 15)).depthBins 0, (getEgress t 128).samples)) =
    some (1, 1) := by decide

/-- An edge on a masked line pends and offers nothing (13 R351, R353). -/
theorem test_event_edge : (tget 0 (eventEdge 4095 up).evt.pend 63, (eventEdge 4095 up).out) = (0x8000000000000000, []) := by decide

/-- A fast trip takes the channel from ON: gate off, PERST# asserted, cause FAST (14 R379, R387). -/
theorem test_fast_trip : after (exec (.fastTrip 31) (channel .on (fun x => { x with gate := true, perst := false }) up))
    (fun t => ((getChan t 31).state, (getChan t 31).gate, (getChan t 31).perst, (getChan t 31).lastCause)) = some (.tripped, false, true, .fast) := by decide

/-- A fault bit written 0 while its line is asserted stays and counts as refused (15 R392). -/
theorem test_flt_clear_refused : after (exec (.fltStatusWrite 0) { up with flt := { up.flt with status := 3, asserted := [(1, 0)] } })
    (fun t => (t.flt.status, t.flt.clearRefused)) = some (2, 1) := by decide

/-- A pending step of +1 ns at 1.999999999 s makes it 2 s (16 R417). -/
theorem test_thyme_step : after (exec .thymeStep { up with time := { up.time with stepPending := some 1, stepAfter := 10 ^ 9, now := 2 * 10 ^ 9 - 1 } })
    (fun t => (t.time.now, t.time.stepPending, t.time.steps)) = some (2 * 10 ^ 9, none, 1) := by decide

/-- The third failed opening locks debug (17 R434). -/
theorem test_debug_lock : after (exec (.dbgResponse false) { up with sec := { up.sec with debugFails := 2 } })
    (fun t => (t.sec.debugFails, t.sec.debugLocked)) = some (3, true) := by decide

/-- GLB_RESET with its KEY begins a warm reset with source 1 (01 R469). -/
theorem test_warm_reset : after (exec (.glbResetWarm 0x1A5C3) up) (fun t => t.glb.warm) = some (.drain 1) := by decide

/-- With the queue empty a step is a tick of 1 ns (log entry 4). -/
theorem test_idle_tick : after (step up) (fun t => (t.time.localNs, t.time.now)) = some (1, 1) := by decide

/-- The slot with the higher SEQ boots, unless its key is revoked (17 R424, R425, Example 19). -/
theorem test_boot_choice : (after (exec (.bringUpPhase boot0) (phase 4)) (fun t => (t.sec.bootSlot, t.sec.bootSeq, t.sec.otherSeq)),
    after (exec (.bringUpPhase boot0) { phase 4 with sec := { (phase 4).sec with keyRevoked := 2 } })
      (fun t => (t.sec.bootSlot, t.sec.bootSeq, t.sec.slotValid))) = (some (1, 8, 7), some (0, 7, 1)) := by decide

set_option maxRecDepth 20000 in
/-- The default placement sprig runs in slot 0 with TRIG_EN 0x17 and BUDGET_US 50,000 (07, The default placement sprig). -/
theorem test_default_sprig : (let x := getSlot (loadDefaultSprig boot0 (phase 5)) 0
    (x.state, x.trigEn, x.budgetUs, x.causes, x.pc)) = (.running, 0x17, 50000, 1, 0) := by decide

/-- P-lane 301's TXP is at DF86 and its RXN at CU85; SLOT07_GATE is at Y33 (18 R461, Example 20, R463). -/
theorem test_balls : (laneBall false 301 true true, laneBall false 301 false false, rowName 82, rowName 73, slotBall 7 0, rowName 19)
    = ((82, 86), (73, 85), ['D', 'F'], ['C', 'U'], (19, 33), ['Y']) := by decide

/-- 68 ns and 89.6 ns for a traversal, 140 ns and 183.2 ns for a read (01 R28, R30), 210 ns and 212 ns in Example 2. -/
theorem test_latency : (traversal false, traversal true, readContribution false 16 16 false none, readContribution true 16 16 false none,
    readContribution false 16 16 true (some true), readContribution false 8 16 true (some true)) = (680, 896, 1400, 1832, 2100, 2120) := by
  decide

/-- 96 power domains (01 R37); 160 and 131 banks (01 R34); P-lane 301 lies in block 18 (00 Example 1). -/
theorem test_layout : ((powerDomains.map powerDomainCount).sum, banksForFullRate true, banksForFullRate false, laneBlock 301, portOfLow 18 12)
    = (96, 160, 131, 18, 75) := by decide

/-- A header word of TYPE 2 is reserved; TYPE 1 with SEQ 5 is an IDLE flit (10 R277). -/
theorem test_flit_type : (flitHdrOf 0x8000005#64, (flitHdrOf 0x4000005#64).map (fun x => (x.1, x.2.seq)), flitWireBytes, flitUnits)
    = (none, some (.idle, 5), 134, 7) := by decide

/-- Lanes of a reversed four-lane port count downwards, and a lane that arrives inverted says so (03 R82, R102). -/
theorem test_lane_reversal : after (exec (.linkUp 111 ⟨4, 2, false, 0, false, false, false, true, .none, 1, false, 1⟩) (onPort (fun x => { x with linkUp := false }) up))
    (fun t => ((List.range' 444 4).map (fun l => (getLane t l).logical), (getLane t 444).polarity, (getLane t 445).polarity)) =
    some ([3, 2, 1, 0], true, false) := by decide

end Sys2Proof.Tests
end

section
/-! Areas of the state that an operation may change: how frames are combined, and the frames of what a configuration
report does, from the record that goes to host memory to the vector that it is offered to (02 R72-R74, R468; 13 R358-R360). -/

namespace Sys2Proof.Machine

variable {ps qs : List Area} {s t u : State}

/-! ## Frames -/

theorem OnlyAreas.refl (ps : List Area) (s : State) : OnlyAreas ps s s := by
  intro p _
  cases p <;> exact rfl

theorem OnlyAreas.trans (h : OnlyAreas ps s t) (k : OnlyAreas ps t u) : OnlyAreas ps s u := by
  intro p hp
  have hst := h p hp
  have htu := k p hp
  cases p <;> exact Eq.trans htu hst

theorem OnlyAreas.mono (h : OnlyAreas ps s t) (sub : ps ⊆ qs) : OnlyAreas qs s t :=
  fun p hp => h p (fun hin => hp (sub hin))

theorem emit_onlyAreas (o : Output) (s : State) : OnlyAreas [.out] s (emit o s) := by
  intro p hp
  cases p <;> simp [Area.same] at hp ⊢

theorem setVec_onlyAreas (v : Nat) (x : Coalescer) (s : State) : OnlyAreas [.evt] s (setVec v x s) := by
  intro p hp
  cases p <;> simp [Area.same, setVec] at hp ⊢

theorem withPwr_onlyAreas (f : Power → Power) (s : State) : OnlyAreas [.pwr] s (withPwr f s) := by
  intro p hp
  cases p <;> simp [Area.same] at hp ⊢

theorem setGlb_onlyAreas (g : Glb) (s : State) : OnlyAreas [.glb] s { s with glb := g } := by
  intro p hp
  cases p <;> simp [Area.same] at hp ⊢

/-- A record is written upstream or held (02 R468). -/
theorem hostWrite_onlyAreas (w : HostWrite) (s : State) : OnlyAreas [.host, .out] s (hostWrite w s) := by
  unfold hostWrite
  split
  · intro p hp
    cases p <;> simp [Area.same] at hp ⊢
  · exact (emit_onlyAreas _ s).mono (by decide)

/-- A message is counted and leaves (13 R359). -/
theorem sendMsix_onlyAreas (v : Nat) (s : State) : OnlyAreas [.evt, .out] s (sendMsix v s) := by
  intro p hp
  cases p <;> simp [Area.same, sendMsix] at hp ⊢

theorem fireVec_onlyAreas (v : Nat) (s : State) : OnlyAreas [.evt, .out] s (fireVec v s) := by
  have set := fun x => (setVec_onlyAreas v x s).mono (qs := [.evt, .out]) (by decide)
  unfold fireVec
  split
  · exact set _
  · exact (set _).trans (sendMsix_onlyAreas v _)

theorem offerVec_onlyAreas (v : Nat) (s : State) : OnlyAreas [.evt, .out] s (offerVec v s) := by
  have set := fun x => (setVec_onlyAreas v x s).mono (qs := [.evt, .out]) (by decide)
  unfold offerVec
  split
  · exact .refl _ s
  · split
    · exact fireVec_onlyAreas v s
    · split
      · exact set _
      · exact set _

theorem offerPf_onlyAreas (en : Bool) (v : Nat) (s : State) : OnlyAreas [.evt, .out] s (offerPf en v s) := by
  unfold offerPf
  split
  · exact offerVec_onlyAreas v s
  · exact .refl _ s

/-! ## Configuration reports (02 R72-R74) -/

/-- What reporting a clamp may change: the report ring, and what its record writes. -/
abbrev reportAreas : List Area := [.glb, .host, .out, .evt]

theorem rptWrite_onlyAreas (r : ReportRec) (s : State) : OnlyAreas reportAreas s (rptWrite r s) :=
  have ring := (setGlb_onlyAreas { s.glb with rpt := { s.glb.rpt with produced := (s.glb.rpt.produced + 1) % 2 ^ 32 } } s).mono
    (qs := reportAreas) (by decide)
  (ring.trans ((hostWrite_onlyAreas _ _).mono (by decide))).trans ((offerPf_onlyAreas _ _ _).mono (by decide))

/-- A written record moves PRODUCED of the report ring and nothing else of GLB. -/
theorem rptWrite_glb (r : ReportRec) (s : State) : (rptWrite r s).glb =
    { s.glb with rpt := { s.glb.rpt with produced := (s.glb.rpt.produced + 1) % 2 ^ 32 } } :=
  (offerPf_onlyAreas _ _ _ .glb (by decide)).trans (hostWrite_onlyAreas _ _ .glb (by decide))

theorem rptLost_onlyAreas (s : State) : OnlyAreas reportAreas s (rptLost s) :=
  (setGlb_onlyAreas _ s).mono (by decide)

/-- `t` follows `s` by one clamp that was counted, and reported or lost; the rest of GLB is kept (02 R72, R74). -/
def ClampedOnce (s t : State) : Prop :=
  OnlyAreas reportAreas s t ∧ t.glb.clampCount = sat64 s.glb.clampCount ∧
    t.glb = { s.glb with clampCount := t.glb.clampCount, rpt := t.glb.rpt } ∧
    t.glb.rpt = { s.glb.rpt with produced := t.glb.rpt.produced, lost := t.glb.rpt.lost }

/-- The record of a clamp whose SOURCE is not a strap or the image is written or lost at once, never held back (02 R75). -/
theorem clamp_clampedOnce {r : ReportRec} (hr : r.source < 4) (s : State) : ClampedOnce s (clamp r s) := by
  have count := (setGlb_onlyAreas { s.glb with clampCount := sat64 s.glb.clampCount } s).mono (qs := reportAreas) (by decide)
  have h4 : (r.source == 4) = false := by simp; omega
  have h5 : (r.source == 5) = false := by simp; omega
  simp only [clamp, h4, h5, Bool.or_self, Bool.false_and, Bool.false_eq_true, if_false]
  split
  · refine ⟨count.trans (rptWrite_onlyAreas r _), ?_⟩
    simp [rptWrite_glb]
  · refine ⟨count.trans (rptLost_onlyAreas _), ?_⟩
    simp [rptLost]

theorem clampAccess_pf_clampedOnce {source : Nat} (h : source < 4) (off hi lo : Nat) (written used : Word) (s : State) :
    ClampedOnce s (clampAccess .pf source off hi lo written used s) :=
  clamp_clampedOnce h s

theorem discard_pf_clampedOnce {source : Nat} (h : source < 4) (off : Nat) (v : Word) (s : State) :
    ClampedOnce s (discard .pf source off v s) :=
  clampAccess_pf_clampedOnce h off 0xFF 0xFF v 0 s

theorem ClampedOnce.emit (h : ClampedOnce s t) (o : Output) : ClampedOnce s (emit o t) :=
  ⟨h.1.trans ((emit_onlyAreas o t).mono (by decide)), h.2⟩

/-- The report of a clamped PF register field leaves every register of the other blocks. -/
theorem clampIf_pf_onlyAreas (b : Bool) (off hi lo written used : Nat) (s : State) :
    OnlyAreas reportAreas s (clampIf b .pf off hi lo written used s) := by
  unfold clampIf
  split
  · exact (clampAccess_pf_clampedOnce (by decide) _ _ _ _ _ s).1
  · exact .refl _ s

end Sys2Proof.Machine
end

section
/-! Register accesses of the management PF (00 R7-R10). -/

namespace Sys2Proof.Machine

variable {s : State}

/-! ## From the command to the block -/

theorem inBar_pf {bar off : Nat} (hbar : bar = 0 ∨ bar = 2) (hoff : off < 2 ^ 25) (k : Out) : inBar .pf bar off k = k := by
  simpa [inBar, inUnit, hbar] using fun hge => absurd hoff (Nat.not_lt.mpr hge)

theorem execRegisterWrite_pf_aligned {off : Nat} (hoff : off < 2 ^ 25) (h8 : off % 8 = 0) (v : Word) (s : State) :
    execRegisterWrite .pf 0 off v s = .next (pfWrite off v s) := by
  rw [execRegisterWrite, inBar_pf (.inl rfl) hoff, if_pos h8]
  rfl

theorem execRegisterWrite_pf_unaligned {off : Nat} (hoff : off < 2 ^ 25) (h8 : off % 8 ≠ 0) (v : Word) (s : State) :
    execRegisterWrite .pf 0 off v s = .next (narrowAccess .pf 0 off true v s) := by
  rw [execRegisterWrite, inBar_pf (.inl rfl) hoff, if_neg h8]
  rfl

theorem execNarrowAccess_pf {bar off : Nat} (hbar : bar = 0 ∨ bar = 2) (hoff : off < 2 ^ 25) (write : Bool) (v : Word)
    (s : State) : execNarrowAccess .pf bar off write v s = .next (narrowAccess .pf bar off write v s) := by
  rw [execNarrowAccess, inBar_pf hbar hoff]
  rfl

/-- A narrow or unaligned access of the PF is one clamp, whether it reads or writes (00 R7). -/
theorem narrowAccess_pf_clampedOnce (bar off : Nat) (write : Bool) (v : Word) (s : State) :
    ClampedOnce s (narrowAccess .pf bar off write v s) := by
  cases write with
  | true => exact discard_pf_clampedOnce (by split <;> decide) off v s
  | false => exact (discard_pf_clampedOnce (by split <;> decide) off 0 s).emit _

/-- With a good image every block is occupied (01 R41). -/
theorem blockLives_of_image (h : s.glb.imageFail = false) (b : Nat) : blockLives s b = true := by
  simp [blockLives, imageDead, h]

section
variable (h : s.glb.imageFail = false) (v : Word)
include h

theorem pfWrite_glb {o : Nat} (ho : o < 2 ^ 20) : pfWrite o v s = glbWrite o v s := by
  simp only [pfWrite, Nat.div_eq_of_lt ho, Nat.mod_eq_of_lt ho, blockLives_of_image h, Bool.not_true, Bool.false_eq_true,
    if_false]

theorem pfWrite_ceLimit : pfWrite 0x400058 v s =
    { s with gh := { s.gh with ceLimit := v.toNat % 65536, writeFaultRetire := v.getLsbD 16 } } := by
  simp [pfWrite, blockLives_of_image h, ghWrite, fld, bit]

theorem pfWrite_cutSel : pfWrite 0x702080 v s = { s with dir := { s.dir with cutSel := v.toNat % 64 } } := by
  simp [pfWrite, blockLives_of_image h, dirWrite, withDir, fld]

theorem pfWrite_poolSel : pfWrite 0x900050 v s = { s with move := { s.move with poolSel := v.toNat % 4096 } } := by
  simp [pfWrite, blockLives_of_image h, moveWrite, fld]

theorem pfWrite_vfSel : pfWrite 0xD01000 v s = { s with vf := { s.vf with sel := v.toNat % 2048 } } := by
  simp [pfWrite, blockLives_of_image h, vfBlockWrite, fld]

theorem pfWrite_pwrCfg : pfWrite 0x1300008 v s = pwrCfgWrite v s := by
  simp [pfWrite, blockLives_of_image h, pwrWrite]

end

theorem glbWrite_scratch (v : Word) (s : State) : glbWrite 0x50 v s = { s with glb := { s.glb with scratch := v } } := by
  simp [glbWrite, withGlb]

/-- GLB_ID is read-only (00 R10). -/
theorem glbWrite_id (v : Word) (s : State) : glbWrite 0 v s = s := by
  simp [glbWrite, glbRead, pick, plainWrite]

/-- GLB ends below 0x60 (02 R47). -/
theorem glbWrite_pastEnd (v : Word) (s : State) : glbWrite 0x60 v s = discard .pf 0 0x60 v s := by
  simp [glbWrite, glbRead, pick, plainWrite]

/-! ## PWR_CFG (17 R441) -/

theorem clampNat_eq_max_min {mn mx : Nat} (h : mn ≤ mx) (x : Nat) : clampNat x mn mx = max mn (min mx x) := by
  unfold clampNat
  split
  · omega
  · split <;> omega

theorem used_eq_max_min {mn mx : Nat} (h : mn ≤ mx) (w : Word) (hi lo : Nat) :
    used w hi lo mn mx = max mn (min mx (fld w hi lo)) :=
  clampNat_eq_max_min h _

theorem le_used {mn mx : Nat} (h : mn ≤ mx) (w : Word) (hi lo : Nat) : mn ≤ used w hi lo mn mx := by
  rw [used_eq_max_min h]; omega

theorem used_le {mn mx : Nat} (h : mn ≤ mx) (w : Word) (hi lo : Nat) : used w hi lo mn mx ≤ mx := by
  rw [used_eq_max_min h]; omega

/-- PWR_CFG's fields as a write leaves them; the voltage itself moves later (17 R441). -/
def pwrCfgOf (v : Word) (p : Power) : Power :=
  { p with
    vminMv := used v 9 0 620 850, vmaxMv := used v 25 16 (used v 9 0 620 850) 850, fixed := bit v 32
    fixedMv := used v 49 40 620 850, guardKppm := used v 55 48 0 100 }

/-- After its fields are set, PWR_CFG only reports the clamped ones. -/
theorem pwrCfgWrite_reports (v : Word) (s : State) :
    OnlyAreas reportAreas (withPwr (pwrCfgOf v) s) (pwrCfgWrite v s) :=
  (((clampIf_pf_onlyAreas _ _ _ _ _ _ _).trans (clampIf_pf_onlyAreas _ _ _ _ _ _ _)).trans
    (clampIf_pf_onlyAreas _ _ _ _ _ _ _)).trans (clampIf_pf_onlyAreas _ _ _ _ _ _ _)

theorem pwrCfgWrite_pwr (v : Word) (s : State) : (pwrCfgWrite v s).pwr = pwrCfgOf v s.pwr :=
  pwrCfgWrite_reports v s .pwr (by decide)

theorem pwrCfgWrite_onlyAreas (v : Word) (s : State) : OnlyAreas [.pwr, .glb, .host, .out, .evt] s (pwrCfgWrite v s) :=
  ((withPwr_onlyAreas _ s).mono (by decide)).trans ((pwrCfgWrite_reports v s).mono (by decide))

theorem pwrCfgOf_vminMv (v : Word) (p : Power) : (pwrCfgOf v p).vminMv = max 620 (min 850 (v.toNat % 1024)) := by
  simp [pwrCfgOf, used_eq_max_min, fld]

/-- VMAX_MV lies between VMIN_MV and 850 mV (17 R441). -/
theorem pwrCfgOf_vmaxMv (v : Word) (p : Power) :
    (pwrCfgOf v p).vmaxMv = max (pwrCfgOf v p).vminMv (min 850 (v.toNat / 2 ^ 16 % 1024)) :=
  used_eq_max_min (used_le (by decide) v 9 0) v 25 16

/-! ## The obligation -/

/-- An access of the PF that has no effect: a GLB offset without a register, an unaligned write, a narrow access. -/
theorem exec_clampedOnce {c : Instr} {v : Word} (h : s.glb.imageFail = false)
    (hc : c = .registerWrite .pf 0 0x60 v ∨ (∃ off < 2 ^ 25, off % 8 ≠ 0 ∧ c = .registerWrite .pf 0 off v) ∨
      (∃ bar off write, (bar = 0 ∨ bar = 2) ∧ off < 2 ^ 25 ∧ c = .narrowAccess .pf bar off write v)) :
    ∃ t, exec c s = .next t ∧ ClampedOnce s t := by
  rcases hc with rfl | ⟨off, hoff, h8, rfl⟩ | ⟨bar, off, write, hbar, hoff, rfl⟩
  · refine ⟨discard .pf 0 0x60 v s, ?_, discard_pf_clampedOnce (by decide) 0x60 v s⟩
    rw [exec_registerWrite, execRegisterWrite_pf_aligned (by decide) (by decide), pfWrite_glb h v (by decide),
      glbWrite_pastEnd]
  · exact ⟨_, execRegisterWrite_pf_unaligned hoff h8 v s, narrowAccess_pf_clampedOnce 0 off true v s⟩
  · exact ⟨_, execNarrowAccess_pf hbar hoff write v s, narrowAccess_pf_clampedOnce bar off write v s⟩

/-- Settles O13: each named write by the equation of its register, PWR_CFG by the fields it sets and the frame of its
reports, and the accesses without effect because each is one clamp. -/
theorem plainRegisterAccesses : Obligations.PlainRegisterAccesses := by
  intro s v h
  have write {off : Nat} {t : State} (hoff : off < 2 ^ 25) (h8 : off % 8 = 0) (ht : pfWrite off v s = t) :
      exec (.registerWrite .pf 0 off v) s = .next t := by
    rw [exec_registerWrite, execRegisterWrite_pf_aligned hoff h8, ht]
  refine ⟨write (by decide) (by decide) ((pfWrite_glb h v (by decide)).trans (glbWrite_scratch v s)),
    write (by decide) (by decide) (pfWrite_ceLimit h v), write (by decide) (by decide) (pfWrite_cutSel h v),
    write (by decide) (by decide) (pfWrite_poolSel h v), write (by decide) (by decide) (pfWrite_vfSel h v),
    write (by decide) (by decide) ((pfWrite_glb h v (by decide)).trans (glbWrite_id v s)),
    ⟨pwrCfgWrite v s, write (by decide) (by decide) (pfWrite_pwrCfg h v), pwrCfgWrite_onlyAreas v s, ?_⟩,
    fun c hc => exec_clampedOnce h hc⟩
  have fixedRange : 620 ≤ 850 := by decide
  rw [pwrCfgWrite_pwr]
  exact ⟨pwrCfgOf_vminMv v s.pwr, pwrCfgOf_vmaxMv v s.pwr, le_used fixedRange v 49 40, used_le fixedRange v 49 40,
    used_le (Nat.zero_le 100) v 55 48, rfl, rfl⟩

end Sys2Proof.Machine
end

section
/-! Fields of a word and the limits that commands hold them in (00 R6; 02 R72). -/

namespace Sys2Proof.Machine

/-- A field of `hi + 1 - lo` bits holds no more than they can. -/
theorem fld_lt (w : Word) (hi lo : Nat) : fld w hi lo < 2 ^ (hi + 1 - lo) :=
  Nat.mod_lt _ (Nat.two_pow_pos _)

theorem clampNat_zero (x mx : Nat) : clampNat x 0 mx = min mx x := by
  rw [clampNat_eq_max_min (Nat.zero_le mx), Nat.zero_max]

theorem used_zero_eq_min (w : Word) (hi lo mx : Nat) : used w hi lo 0 mx = min mx (fld w hi lo) :=
  clampNat_zero _ _

/-- With every value of the field below or at `mx`, only the lower limit clamps. -/
theorem used_eq_max {mn mx : Nat} (w : Word) (hi lo : Nat) (hmn : mn ≤ mx) (hfit : 2 ^ (hi + 1 - lo) ≤ mx + 1) :
    used w hi lo mn mx = max mn (fld w hi lo) := by
  have hlt := fld_lt w hi lo
  rw [used_eq_max_min hmn]
  omega

end Sys2Proof.Machine
end

section
/-! What completing commands and raising faults may change: the frames of a completion on its way to its ring or its switch
(02 R56-R60, R67; 10 R288), of an event line's edge (13 R353-R357) and of a pulse (15 R390-R397). -/

namespace Sys2Proof.Machine

/-! ## Updates of one area -/

theorem setCmd_onlyAreas (x : Cmd) (s : State) : OnlyAreas [.cmd] s { s with cmd := x } := by
  intro p hp
  cases p <;> simp [Area.same] at hp ⊢

theorem setSage_onlyAreas (x : Sage) (s : State) : OnlyAreas [.sage] s { s with sage := x } := by
  intro p hp
  cases p <;> simp [Area.same] at hp ⊢

theorem setFlt_onlyAreas (x : Faults) (s : State) : OnlyAreas [.flt] s { s with flt := x } := by
  intro p hp
  cases p <;> simp [Area.same] at hp ⊢

theorem setEvt_onlyAreas (x : Events) (s : State) : OnlyAreas [.evt] s { s with evt := x } := by
  intro p hp
  cases p <;> simp [Area.same] at hp ⊢

theorem setSched_onlyAreas (x : Sched) (s : State) : OnlyAreas [.sched] s { s with sched := x } := by
  intro p hp
  cases p <;> simp [Area.same] at hp ⊢

theorem setGh_onlyAreas (x : GreatHall) (s : State) : OnlyAreas [.gh] s { s with gh := x } := by
  intro p hp
  cases p <;> simp [Area.same] at hp ⊢

theorem setVf_onlyAreas (v : Nat) (x : Vf) (s : State) : OnlyAreas [.vf] s (setVf v x s) := by
  intro p hp
  cases p <;> simp [Area.same] at hp ⊢

theorem setLink_onlyAreas (l : Nat) (x : Link) (s : State) : OnlyAreas [.obl] s (setLink l x s) := by
  intro p hp
  cases p <;> simp [Area.same] at hp ⊢

theorem takeFree_onlyAreas (s : State) : OnlyAreas [.free] s (takeFree s).2 := by
  intro p hp
  cases p <;> simp [Area.same, takeFree] at hp ⊢

/-! ## Completions on their way (02 R59, R60; 07 R217; 10 R288) -/

/-- What completing commands may change: the rings and what they write, the proposal log, the links and free values. -/
abbrev completionAreas : List Area := [.cmd, .vf, .host, .out, .evt, .sage, .obl, .free]

theorem setRing_onlyAreas (r : RingId) (x : CmdRing) (s : State) : OnlyAreas [.cmd, .vf] s (setRing r x s) := by
  cases r with
  | mring m =>
    unfold setRing
    dsimp only
    split
    · exact (setCmd_onlyAreas _ s).mono (by decide)
    · exact (setCmd_onlyAreas _ s).mono (by decide)
  | tenant v => exact (setVf_onlyAreas v _ s).mono (by decide)

theorem offerVf_onlyAreas (v : Nat) (en : Bool) (n : Nat) (s : State) : OnlyAreas [.evt, .out] s (offerVf v en n s) := by
  unfold offerVf
  split
  · exact offerVec_onlyAreas _ s
  · exact .refl _ s

theorem ringCpl_onlyAreas (r : RingId) (x : Cpl) (s : State) : OnlyAreas completionAreas s (ringCpl r x s) := by
  have written := fun y w => ((setRing_onlyAreas r y s).mono (qs := completionAreas) (by decide)).trans
    ((hostWrite_onlyAreas w _).mono (by decide))
  cases r with
  | mring m => exact (written _ _).trans ((offerPf_onlyAreas _ _ _).mono (by decide))
  | tenant v => exact (written _ _).trans ((offerVf_onlyAreas _ _ _ _).mono (by decide))

theorem bypassOn_onlyAreas (l sw : Nat) (m : Bypass) (s : State) : OnlyAreas [.obl, .out] s (bypassOn l sw m s) := by
  have set := fun x => (setLink_onlyAreas l x s).mono (qs := [.obl, .out]) (by decide)
  have sent := fun s => (emit_onlyAreas (.bypass sw m) s).mono (qs := [.obl, .out]) (by decide)
  unfold bypassOn
  dsimp only
  split
  · exact sent s
  · split
    · exact (set _).trans (sent _)
    · exact set _

theorem sendBypass_onlyAreas (sw : Nat) (m : Bypass) (s : State) : OnlyAreas [.obl, .out] s (sendBypass sw m s) := by
  unfold sendBypass
  split
  · exact bypassOn_onlyAreas _ sw m s
  · split
    · exact (emit_onlyAreas _ s).mono (by decide)
    · exact .refl _ s

theorem plogWrite_onlyAreas (p : Proposal) (status slot sw seq epoch : Nat) (done remote : Bool) (result : Word) (s : State) :
    OnlyAreas [.sage, .host, .out, .evt] s (plogWrite p status slot sw seq epoch done remote result s) := by
  have sage := fun x => (setSage_onlyAreas x s).mono (qs := [.sage, .host, .out, .evt]) (by decide)
  unfold plogWrite
  split
  · exact ((sage _).trans ((hostWrite_onlyAreas _ _).mono (by decide))).trans ((offerPf_onlyAreas _ _ _).mono (by decide))
  · exact sage _

theorem countProp_onlyAreas (status : Nat) (s : State) : OnlyAreas [.sage] s (countProp status s) := by
  unfold countProp
  split
  · exact setSage_onlyAreas _ s
  · exact setSage_onlyAreas _ s

theorem remoteResult_onlyAreas (sw slot epoch : Nat) (p : Proposal) (x : Cpl) (s : State) :
    OnlyAreas completionAreas s (remoteResult sw slot epoch p x s) := by
  unfold remoteResult
  extract_lets st k logged sage counted
  have hlogged : OnlyAreas completionAreas s logged :=
    ((countProp_onlyAreas _ s).mono (by decide)).trans ((plogWrite_onlyAreas _ _ _ _ _ _ _ _ _ _).mono (by decide))
  have hcounted : OnlyAreas completionAreas s counted := by
    unfold counted
    split
    · exact hlogged.trans ((setSage_onlyAreas _ _).mono (by decide))
    · exact hlogged
  exact hcounted.trans ((sendBypass_onlyAreas _ _ _).mono (by decide))

theorem sendCpl_onlyAreas (c : SeqCmd) (x : Cpl) (s : State) : OnlyAreas completionAreas s (sendCpl c x s) := by
  unfold sendCpl
  split
  · exact ringCpl_onlyAreas _ x s
  · exact (sendBypass_onlyAreas _ _ s).mono (by decide)
  · exact (sendBypass_onlyAreas _ _ s).mono (by decide)
  · exact ringCpl_onlyAreas _ x s
  · exact .refl _ s
  · exact .refl _ s
  · exact remoteResult_onlyAreas _ _ _ _ x s

/-! ## Commands that complete (02 R56-R67) -/

theorem cmd_completionAreas (x : Cmd) (s : State) : OnlyAreas completionAreas s { s with cmd := x } :=
  (setCmd_onlyAreas x s).mono (by decide)

theorem retire_onlyAreas (c : SeqCmd) (status : Nat) (clamped : Bool) (newVersion : Nat) (result : Word) (s : State) :
    OnlyAreas completionAreas s (retire c status clamped newVersion result s) :=
  (cmd_completionAreas _ s).trans (sendCpl_onlyAreas c _ _)

theorem retireFail_onlyAreas (c : SeqCmd) (code : Nat) (s : State) : OnlyAreas completionAreas s (retireFail c code s) := by
  have free := fun s => (takeFree_onlyAreas s).mono (qs := completionAreas) (by decide)
  unfold retireFail
  extract_lets zero f nv
  have version : OnlyAreas completionAreas s nv.2 := by
    unfold nv
    split
    · exact .refl _ s
    · split
      · exact free s
      · split
        · exact .refl _ s
        · exact .refl _ s
  split
  · exact (version.trans (cmd_completionAreas _ _)).trans (retire_onlyAreas _ _ _ _ _ _)
  · split
    · exact (version.trans (cmd_completionAreas _ _)).trans (retire_onlyAreas _ _ _ _ _ _)
    · exact (version.trans (free _)).trans (retire_onlyAreas _ _ _ _ _ _)

theorem setStage_onlyAreas (seq : Nat) (st : Stage) (s : State) : OnlyAreas completionAreas s (setStage seq st s) :=
  cmd_completionAreas _ s

theorem setNote_onlyAreas (seq n : Nat) (s : State) : OnlyAreas completionAreas s (setNote seq n s) :=
  cmd_completionAreas _ s

theorem bumpVer_onlyAreas (key : Nat) (s : State) : OnlyAreas completionAreas s (bumpVer key s) :=
  cmd_completionAreas _ s

theorem runChecks_onlyAreas (l : List SeqCmd) (s : State) : OnlyAreas completionAreas s (runChecks l s) := by
  induction l generalizing s with
  | nil => exact .refl _ s
  | cons c cs ih =>
    have failed : ∀ code, OnlyAreas completionAreas s
        (if fenceHolds s c then setStage c.seq (.failed code) s else retireFail c code s) := by
      intro code
      split
      · exact setStage_onlyAreas _ _ s
      · exact retireFail_onlyAreas c code s
    unfold runChecks
    split
    · exact ih s
    · split
      · exact .refl _ s
      · refine OnlyAreas.trans ?_ (ih _)
        split
        · exact failed _
        · split
          · exact failed _
          · split
            · exact setStage_onlyAreas _ _ s
            · exact setStage_onlyAreas _ _ s

theorem flushFailed_onlyAreas (l : List SeqCmd) (s : State) : OnlyAreas completionAreas s (flushFailed l s) := by
  induction l generalizing s with
  | nil => exact .refl _ s
  | cons c cs ih =>
    unfold flushFailed
    split
    · refine OnlyAreas.trans ?_ (ih _)
      split
      · exact .refl _ s
      · exact retireFail_onlyAreas c _ s
    · exact ih s

theorem sendForwards_onlyAreas (l : List SeqCmd) (s : State) : OnlyAreas completionAreas s (sendForwards l s) := by
  induction l generalizing s with
  | nil => exact .refl _ s
  | cons c cs ih =>
    unfold sendForwards
    split
    · exact ((setNote_onlyAreas _ _ s).trans ((sendBypass_onlyAreas _ _ _).mono (by decide))).trans (ih _)
    · exact ih s

theorem settle_onlyAreas (s : State) : OnlyAreas completionAreas s (settle s) :=
  ((runChecks_onlyAreas _ s).trans (flushFailed_onlyAreas _ _)).trans (sendForwards_onlyAreas _ _)

theorem finish_onlyAreas (c : SeqCmd) (status : Nat) (clamped : Bool) (newVersion : Nat) (result : Word) (s : State) :
    OnlyAreas completionAreas s (finish c status clamped newVersion result s) :=
  (retire_onlyAreas _ _ _ _ _ _).trans (settle_onlyAreas _)

theorem endWait_onlyAreas (c : SeqCmd) (bump : Bool) (result : Word) (s : State) :
    OnlyAreas completionAreas s (endWait c bump result s) := by
  unfold endWait
  extract_lets bumped
  refine OnlyAreas.trans ?_ (finish_onlyAreas _ _ _ _ _ _)
  unfold bumped
  split
  · exact bumpVer_onlyAreas _ s
  · exact .refl _ s

theorem endWaits_onlyAreas (bump : Bool) (l : List SeqCmd) (s : State) : OnlyAreas completionAreas s (endWaits bump l s) := by
  induction l generalizing s with
  | nil => exact .refl _ s
  | cons c cs ih => exact (endWait_onlyAreas c bump 0 s).trans (ih _)

/-! ## Edges and pulses (13 R353-R357; 15 R391, R394-R397) -/

theorem eventEdge_onlyAreas (n : Nat) (s : State) : OnlyAreas [.evt, .out] s (eventEdge n s) := by
  have pend := fun x => (setEvt_onlyAreas x s).mono (qs := [.evt, .out]) (by decide)
  have core := fun v s => (emit_onlyAreas (.core v) s).mono (qs := [.evt, .out]) (by decide)
  unfold eventEdge
  dsimp only
  split <;> split
  · exact (pend _).trans (core _ _)
  · exact ((pend _).trans (offerPf_onlyAreas _ _ _)).trans (core _ _)
  · exact pend _
  · exact (pend _).trans (offerPf_onlyAreas _ _ _)

/-- The history takes a raise, and leaves the lines and the retired units alone. -/
theorem histRaise_frame (merged : Bool) (k unit : Nat) (d0 d1 : Word) (s : State) :
    OnlyAreas [.flt] s (histRaise merged k unit d0 d1 s) ∧ (histRaise merged k unit d0 d1 s).flt.retired = s.flt.retired := by
  unfold histRaise
  dsimp only
  split
  · exact ⟨setFlt_onlyAreas _ s, rfl⟩
  · exact ⟨setFlt_onlyAreas _ s, rfl⟩

theorem raiseWith_frame (k unit : Nat) (d0 d1 : Word) (s : State) :
    OnlyAreas eventAreas s (raiseWith k unit d0 d1 s) ∧ (raiseWith k unit d0 d1 s).flt.retired = s.flt.retired := by
  unfold raiseWith
  dsimp only
  obtain ⟨hist, retired⟩ := histRaise_frame (bit s.flt.status k) k unit d0 d1 { s with flt := { s.flt with
    status := s.flt.status ||| (1#64 <<< k)
    merged := if bit s.flt.status k then sat64 s.flt.merged else s.flt.merged
    count := tput 0 s.flt.count k (sat64 (tget 0 s.flt.count k)) } }
  have edge := eventEdge_onlyAreas (384 + k)
  exact ⟨((((setFlt_onlyAreas _ s).trans hist).mono (by decide))).trans ((edge _).mono (by decide)),
    (congrArg Faults.retired (edge _ .flt (by decide))).trans retired⟩

theorem pulse_frame (k unit : Nat) (d0 d1 : Option Word) (s : State) :
    OnlyAreas eventAreas s (pulse k unit d0 d1 s) ∧ (pulse k unit d0 d1 s).flt.retired = s.flt.retired := by
  have after : ∀ a b u, OnlyAreas [.free] s u → OnlyAreas eventAreas s (raiseWith k unit a b u) ∧
      (raiseWith k unit a b u).flt.retired = s.flt.retired := by
    intro a b u hu
    obtain ⟨areas, retired⟩ := raiseWith_frame k unit a b u
    exact ⟨(hu.mono (by decide)).trans areas, retired.trans (congrArg Faults.retired (hu .flt (by decide)))⟩
  have free := takeFree_onlyAreas
  unfold pulse
  split
  · exact after _ _ _ (.refl _ s)
  · exact after _ _ _ (free s)
  · exact after _ _ _ (free s)
  · exact after _ _ _ ((free s).trans (free _))

end Sys2Proof.Machine
end

section
/-! CAP_CONFIG (04 R129-R131): what it makes of a filter and of the capture ring. -/

namespace Sys2Proof.Machine

/-! ## Filters (04 R129, R130) -/

/-- INGRESS and EGRESS name a unit or stand for any. -/
theorem capPort_legal (n : Nat) : capPort n = 0xFF ∨ capPort n ≤ 128 := by
  unfold capPort
  split
  · exact .inl rfl
  · exact .inr (Nat.min_le_right n 128)

theorem capPort_of_le {n : Nat} (h : n ≤ 128) : capPort n = n := by
  unfold capPort
  split
  · omega
  · exact Nat.min_eq_left h

/-- The filter that CAP_CONFIG makes of `old`. -/
def capFilterOf (d : Desc) (old : CapFilter) : CapFilter :=
  { enable := bit d.arg0 0, ingress := capPort (fld d.arg0 8 1), egress := capPort (fld d.arg0 16 9)
    queue := fld d.arg0 20 17, queueAny := bit d.arg0 21, dir := used d.arg0 23 22 0 2
    sampleN := used d.arg0 39 24 1 65535, addrLo := addr64 d.arg1, addrHi := addr64 d.arg2
    count := if bit d.arg0 0 && !old.enable then 0 else old.count }

theorem capFilterBody_done (c : SeqCmd) (s : State) : ∃ ks, capFilterBody c s =
    .done 0 ks (setFilter (objIndex c.desc.objectId % 8) (capFilterOf c.desc (getFilter s (objIndex c.desc.objectId % 8))) s) :=
  ⟨_, rfl⟩

theorem capFilterOf_dir (d : Desc) (old : CapFilter) : (capFilterOf d old).dir = min 2 (fld d.arg0 23 22) :=
  used_zero_eq_min _ _ _ _

theorem capFilterOf_sampleN (d : Desc) (old : CapFilter) : (capFilterOf d old).sampleN = max 1 (fld d.arg0 39 24) :=
  used_eq_max _ _ _ (by decide) (by decide)

/-- CAP_MATCH is zeroed only when the filter goes from disabled to enabled (04 R136). -/
theorem capFilterOf_count (d : Desc) (old : CapFilter) :
    (capFilterOf d old).count = if d.arg0.getLsbD 0 = true ∧ old.enable = false then 0 else old.count := by
  simp [capFilterOf, bit]

/-! ## The ring (04 R131) -/

/-- The capture unit after CAP_CONFIG on its ring. -/
def capRingOf (d : Desc) (k : Capture) : Capture :=
  let start := bit d.arg1 5 && !k.enable
  { k with
    enable := bit d.arg1 5, vector := fld d.arg1 18 6, vectorEn := bit d.arg1 19, creditClass := used d.arg2 7 0 0 63
    base := if start then addr64 d.arg0 else k.base
    sizeLog2 := if start then used d.arg1 4 0 10 20 else k.sizeLog2
    head := if start then 0 else k.head
    tail := if start then 0 else k.tail }

theorem capRingBody_done {s : State} (h : s.cap.enable = false) (c : SeqCmd) : ∃ ks, capRingBody c s =
    .done 0 ks (settleCredits { s with cap := capRingOf c.desc s.cap }) := by
  unfold capRingBody
  rw [if_neg (by simp [h])]
  exact ⟨_, rfl⟩

theorem capRingBody_otherBase {s : State} {c : SeqCmd} (h : s.cap.enable = true) (hb : addr64 c.desc.arg0 ≠ s.cap.base) :
    capRingBody c s = .fail PRECONDITION s := by
  unfold capRingBody
  rw [if_pos (by simp [h, hb])]

/-- A ring that is enabled takes base and size from the command and starts empty. -/
theorem capRingOf_start {d : Desc} {k : Capture} (hk : k.enable = false) (hd : d.arg1.getLsbD 5 = true) :
    (capRingOf d k).base = addr64 d.arg0 ∧ (capRingOf d k).sizeLog2 = max 10 (min 20 (fld d.arg1 4 0)) ∧
      (capRingOf d k).head = 0 ∧ (capRingOf d k).tail = 0 := by
  have start : (bit d.arg1 5 && !k.enable) = true := by simp [bit, hk, hd]
  simp [capRingOf, start, used_eq_max_min]

/-! ## The obligation -/

theorem capFilterSel_of_kind {d : Desc} (h : objIndex d.objectId / 2 ^ 48 = 1) : capFilterSel d = true := by
  unfold capFilterSel capIsRing
  rw [h]
  rfl

theorem capIsRing_of_kind {d : Desc} (h : objIndex d.objectId / 2 ^ 48 = 2) : capIsRing d = true := by
  unfold capIsRing
  rw [h]
  rfl

/-- Settles O20: the filter and the ring that the two bodies make, and the check of a ring that is enabled already. -/
theorem captureCommands : Obligations.CaptureCommands := by
  intro s seq c hr
  refine ⟨fun hk => ?_, fun hk hoff => ?_, fun hk hon hb => ?_⟩
  · obtain ⟨ks, hbody⟩ := capFilterBody_done c s
    refine ⟨ks, _, congrArg Host.Outcome.next (runOp_done hr (capFilterSel_of_kind hk) hbody), rfl, capPort_legal _,
      capPort_legal _, capPort_of_le, capPort_of_le, rfl, rfl, capFilterOf_dir _ _, capFilterOf_sampleN _ _,
      capFilterOf_count _ _⟩
  · obtain ⟨ks, hbody⟩ := capRingBody_done hoff c
    exact ⟨ks, _, congrArg Host.Outcome.next (runOp_done hr (capIsRing_of_kind hk) hbody), rfl, rfl, rfl,
      used_zero_eq_min _ _ _ _, rfl, rfl, rfl, capRingOf_start hoff⟩
  · exact congrArg Host.Outcome.next (runOp_fail hr (capIsRing_of_kind hk) (capRingBody_otherBase hon hb))

end Sys2Proof.Machine
end

section
/-! RT_WRITE and GH_THRESH_SET (04 R114, R117, R118): what they clamp and what they stage. -/

namespace Sys2Proof.Machine

variable {s : State} {c : SeqCmd}

/-! ## GH_THRESH_SET (04 R114) -/

/-- K_CODE as supplied. -/
theorem threshField (w : Word) : fld w 3 0 = w.toNat % 16 := by
  unfold fld
  omega

theorem threshBody_done (c : SeqCmd) (s : State) : threshBody c s = .done 0 (argClamps c.desc [(0, 3, 0, 0, 9)])
    { s with gh := { s.gh with
      kCode := tput 6 s.gh.kCode (objIndex c.desc.objectId % 16) (min 9 (c.desc.arg0.toNat % 16)) } } := by
  unfold threshBody
  rw [used_zero_eq_min, threshField]

/-- A single field of ARG0 is not reported exactly when it is used as supplied. -/
theorem argClamps_arg0_eq_nil_iff (d : Desc) (hi lo mn mx : Nat) :
    argClamps d [(0, hi, lo, mn, mx)] = [] ↔ used d.arg0 hi lo mn mx = fld d.arg0 hi lo := by
  by_cases h : used d.arg0 hi lo mn mx = fld d.arg0 hi lo
  · have none_reported : argClamps d [(0, hi, lo, mn, mx)] = [] := by
      simp only [argClamps, arg, List.filterMap, if_true, h]
    exact iff_of_true none_reported h
  · have one_reported : argClamps d [(0, hi, lo, mn, mx)] ≠ [] := by
      simp only [argClamps, arg, List.filterMap, if_true, if_neg h]
      exact List.cons_ne_nil _ _
    exact iff_of_false one_reported h

/-- The one field of GH_THRESH_SET is reported when it exceeds 9. -/
theorem threshClamps_eq_nil_iff (d : Desc) : argClamps d [(0, 3, 0, 0, 9)] = [] ↔ d.arg0.toNat % 16 ≤ 9 := by
  rw [argClamps_arg0_eq_nil_iff, used_zero_eq_min, threshField]
  omega

/-! ## Entries (04 R117) -/

/-- ALT_EGRESS as it is used: an Obmulum link, or 0xFF for none. -/
def altEgress (n : Nat) : Nat := if n = 0xFF then 0xFF else clampNat n 112 119

theorem altEgress_legal (n : Nat) : altEgress n = 0xFF ∨ (112 ≤ altEgress n ∧ altEgress n ≤ 119) := by
  unfold altEgress
  rw [clampNat_eq_max_min (by decide)]
  split
  · exact .inl rfl
  · omega

/-- The number that a staged DID entry holds. -/
theorem didLegal_toNat (e : Word) : (didLegal e).toNat = fld e 1 0 + min 128 (fld e 9 2) * 4 + fld e 19 10 * 1024
    + altEgress (fld e 27 20) * 1048576 + fld e 39 28 * 268435456 := by
  have h0 := fld_lt e 1 0
  have h2 := fld_lt e 19 10
  have h3 := altEgress_legal (fld e 27 20)
  have h4 := fld_lt e 39 28
  unfold didLegal
  rw [clampNat_zero]
  apply toNat_pack
  · rw [packSum_cons, packSum_cons, packSum_cons, packSum_cons, packSum_cons, packSum_nil]
    simp only [altEgress]
    omega
  · omega

/-- The fields of a staged DID entry: EGRESS within 0 to 128, ALT_EGRESS legal, the others as supplied. -/
theorem didLegal_fields (e : Word) :
    fld (didLegal e) 9 2 = min 128 (fld e 9 2) ∧ fld (didLegal e) 1 0 = fld e 1 0 ∧
      fld (didLegal e) 19 10 = fld e 19 10 ∧ fld (didLegal e) 39 28 = fld e 39 28 ∧
      (fld (didLegal e) 27 20 = 0xFF ∨ (112 ≤ fld (didLegal e) 27 20 ∧ fld (didLegal e) 27 20 ≤ 119)) := by
  have h0 := fld_lt e 1 0
  have h2 := fld_lt e 19 10
  have h3 := altEgress_legal (fld e 27 20)
  have h4 := fld_lt e 39 28
  have n := didLegal_toNat e
  have alt : fld (didLegal e) 27 20 = altEgress (fld e 27 20) :=
    fld_of_toNat _ 27 20 _ 1048576 256 _ n (by decide) (by decide) (by omega)
  refine ⟨fld_of_toNat _ 9 2 _ 4 256 _ n (by decide) (by decide) (by omega),
    fld_of_toNat _ 1 0 _ 1 4 _ n (by decide) (by decide) (by omega),
    fld_of_toNat _ 19 10 _ 1024 1024 _ n (by decide) (by decide) (by omega),
    fld_of_toNat _ 39 28 _ 268435456 4096 _ n (by decide) (by decide) (by omega), ?_⟩
  rw [alt]
  exact h3

/-! ## RT_WRITE (04 R118) -/

/-- The number of entries of the table that RT_WRITE names. -/
def rtSize (d : Desc) : Nat := if bit d.arg0 0 then 16384 else 4096

/-- The index at which RT_WRITE writes first. -/
def rtIndex (d : Desc) : Nat := used d.arg0 29 16 0 (rtSize d - 1)

/-- An index within its table is used as supplied. -/
theorem rtIndex_of_lt {d : Desc} (h : d.arg0.toNat / 2 ^ 16 % 2 ^ 14 < rtSize d) :
    rtIndex d = d.arg0.toNat / 2 ^ 16 % 2 ^ 14 := by
  rw [rtIndex, used_zero_eq_min]
  exact Nat.min_eq_right (Nat.le_sub_one_of_lt h)

/-- With COUNT 0 the entry in ARG1 is written. -/
theorem rtBody_entry (data : ReadData) (hcount : fld c.desc.arg3 14 0 = 0) : ∃ ks, rtBody data c s =
    .done 0 ks { s with gh := { s.gh with
      routeStage := some (if bit c.desc.arg0 0 then putBuses (rtIndex c.desc) [c.desc.arg1] (routeStaging s)
        else putDids (rtIndex c.desc) [c.desc.arg1] (routeStaging s)) } } :=
  ⟨_, if_pos hcount⟩

theorem rtBody_did (data : ReadData) (hcount : fld c.desc.arg3 14 0 = 0) (hdid : c.desc.arg0.getLsbD 0 = false)
    (hidx : c.desc.arg0.toNat / 2 ^ 16 % 2 ^ 14 < 4096) : ∃ ks, rtBody data c s = .done 0 ks { s with gh := { s.gh with
      routeStage := some { routeStaging s with
        did := tput 0 (routeStaging s).did (c.desc.arg0.toNat / 2 ^ 16 % 2 ^ 14) (didLegal c.desc.arg1) } } } := by
  obtain ⟨ks, h⟩ := rtBody_entry (s := s) data hcount
  have hsize : rtSize c.desc = 4096 := if_neg (by rw [bit, hdid]; decide)
  rw [if_neg (by rw [bit, hdid]; decide), rtIndex_of_lt (by rw [hsize]; exact hidx)] at h
  exact ⟨ks, h⟩

/-- Every index that ARG0 can hold is one of the bus table. -/
theorem rtBody_bus (data : ReadData) (hcount : fld c.desc.arg3 14 0 = 0) (hbus : c.desc.arg0.getLsbD 0 = true) :
    ∃ ks, rtBody data c s = .done 0 ks { s with gh := { s.gh with
      routeStage := some { routeStaging s with
        bus := tput 0 (routeStaging s).bus (c.desc.arg0.toNat / 2 ^ 16 % 2 ^ 14)
          (c.desc.arg1.setWidth 16 &&& 0x8FFF#16) } } } := by
  obtain ⟨ks, h⟩ := rtBody_entry (s := s) data hcount
  have hsize : rtSize c.desc = 16384 := if_pos hbus
  rw [if_pos (show bit c.desc.arg0 0 = true from hbus),
    rtIndex_of_lt (by rw [hsize]; exact Nat.mod_lt _ (by decide))] at h
  exact ⟨ks, h⟩

theorem rtBody_unread (hcount : fld c.desc.arg3 14 0 ≠ 0) : rtBody none c s = .fail DESC_FAULT s :=
  if_neg hcount

theorem rtBody_read (hcount : fld c.desc.arg3 14 0 ≠ 0) (ws : List Word) : ∃ r ks, rtBody (some ws) c s =
    .done 0 ks { s with gh := { s.gh with routeStage := some r } } :=
  ⟨_, _, if_neg hcount⟩

/-- A command whose data lie outside every aperture, or that reads none, meets them as the memory answered (05 R140). -/
theorem readArg_of_readsUp {fetch : Bool} {range : ArgRange} (h : ReadsUp s fetch range c) (data : ReadData)
    (body : ReadData → SeqCmd → State → CmdOut) : readArg fetch range data body c s = body data c s := by
  unfold readArg
  exact if_pos (by simpa [ReadsUp] using h)

/-- Without data RT_WRITE reads nothing. -/
theorem rt_readsUp_of_count_zero (hcount : fld c.desc.arg3 14 0 = 0) : ReadsUp s false rtRange c :=
  .inl (by simp [rtRange, hcount])

end Sys2Proof.Machine
end

section
/-! The relocation of a bank (04 R125, R126): cells are copied and poisoned, while queues, accounts and waits stay. -/

namespace Sys2Proof.Machine

variable {s t u : State}

/-! ## What work on cells alone keeps -/

/-- `t` follows `s` by work on cells alone: which cells hold a transaction, and what reading them meets, may have changed. -/
structure CellsMoved (s t : State) : Prop where
  areas : OnlyAreas [.gh, .sched, .out, .free, .evt, .flt] s t
  relocQ : t.gh.relocQ = s.gh.relocQ
  retired : t.gh.retired = s.gh.retired
  free : t.gh.free = s.gh.free
  waits : t.gh.waits = s.gh.waits
  ids : ∀ k, (getQueue t k).map (·.id) = (getQueue s k).map (·.id)
  unitsOut : t.flt.retired = s.flt.retired

theorem CellsMoved.trans (h : CellsMoved s t) (k : CellsMoved t u) : CellsMoved s u where
  areas := h.areas.trans k.areas
  relocQ := k.relocQ.trans h.relocQ
  retired := k.retired.trans h.retired
  free := k.free.trans h.free
  waits := k.waits.trans h.waits
  ids := fun j => (k.ids j).trans (h.ids j)
  unitsOut := k.unitsOut.trans h.unitsOut

/-- A step that leaves the Great Hall and the list of retired units alone. -/
theorem CellsMoved.of_areas (h : OnlyAreas [.sched, .out, .free, .evt, .flt] s t) (units : t.flt.retired = s.flt.retired) :
    CellsMoved s t := by
  have hall : t.gh = s.gh := h .gh (by decide)
  exact ⟨h.mono (by decide), by rw [hall], by rw [hall], by rw [hall], by rw [hall], fun k => by rw [getQueue, hall, getQueue],
    units⟩

theorem CellsMoved.of_free (h : OnlyAreas [.free] s t) : CellsMoved s t :=
  .of_areas (h.mono (by decide)) (congrArg Faults.retired (h .flt (by decide)))

/-- A queue whose transactions keep their order. -/
theorem CellsMoved.of_setQueue {k : Nat} {l : List Txn} (h : l.map (·.id) = (getQueue s k).map (·.id)) :
    CellsMoved s (setQueue k l s) where
  areas := (setGh_onlyAreas _ s).mono (by decide)
  relocQ := rfl
  retired := rfl
  free := rfl
  waits := rfl
  ids := by
    intro j
    by_cases hj : j = k
    · rw [hj, ← h]
      simp [getQueue, setQueue]
    · simp [getQueue, setQueue, tget_tput_other, hj]
  unitsOut := rfl

/-! ## Uncorrectable words of a copy (04 R108, R125) -/

theorem bankUncorrectable_cellsMoved (a : Nat) (s : State) : CellsMoved s (bankUncorrectable a s) := by
  have count : CellsMoved s { s with gh := { s.gh with eccUncorr := sat64 s.gh.eccUncorr } } :=
    ⟨(setGh_onlyAreas _ s).mono (by decide), rfl, rfl, rfl, rfl, fun _ => rfl, rfl⟩
  obtain ⟨areas, units⟩ := pulse_frame 10 (unitCode 3 (cellBank a)) (some (w64 a)) none
    { s with gh := { s.gh with eccUncorr := sat64 s.gh.eccUncorr } }
  exact count.trans (.of_areas (areas.mono (by decide)) units)

theorem badCopies_cellsMoved (l : List Nat) (s : State) : CellsMoved s (badCopies l s) := by
  induction l generalizing s with
  | nil => exact .of_free (.refl _ s)
  | cons a as ih => exact (bankUncorrectable_cellsMoved a s).trans (ih _)

theorem copyErrs_onlyAreas (l : List Nat) (s : State) : OnlyAreas [.free] s (copyErrs l s).2 := by
  induction l generalizing s with
  | nil => exact .refl _ s
  | cons a as ih => exact (takeFree_onlyAreas s).trans (ih _)

/-! ## Copying cells (04 R104, R105, R125) -/

theorem pickCells_onlyAreas (bad : List Nat) (n last : Nat) (s : State) : OnlyAreas [.free] s (pickCells bad n last s).2 := by
  induction n generalizing last s with
  | zero => exact .refl _ s
  | succ n ih => exact ((takeFree_onlyAreas s).trans (takeFree_onlyAreas _)).trans (ih _ _)

/-- A transaction keeps its number when its cells move. -/
theorem moveTxn_frame (b : Nat) (bad : List Nat) (x : Txn) (s : State) :
    (moveTxn b bad x s).1.id = x.id ∧ OnlyAreas [.free] s (moveTxn b bad x s).2 := by
  unfold moveTxn
  dsimp only
  split
  · exact ⟨rfl, .refl _ s⟩
  · split
    · exact ⟨rfl, pickCells_onlyAreas _ _ _ s⟩
    · exact ⟨rfl, pickCells_onlyAreas _ _ _ s⟩

theorem moveTxns_frame (b : Nat) (bad : List Nat) (l : List Txn) (s : State) :
    (moveTxns b bad l s).1.map (·.id) = l.map (·.id) ∧ OnlyAreas [.free] s (moveTxns b bad l s).2 := by
  induction l generalizing s with
  | nil => exact ⟨rfl, .refl _ s⟩
  | cons x xs ih =>
    obtain ⟨id, free⟩ := moveTxn_frame b bad x s
    obtain ⟨ids, rest⟩ := ih (moveTxn b bad x s).2
    exact ⟨List.cons_eq_cons.mpr ⟨id, ids⟩, free.trans rest⟩

theorem moveQueues_cellsMoved (b : Nat) (bad : List Nat) (ks : List Nat) (s : State) :
    CellsMoved s (moveQueues b bad ks s) := by
  induction ks generalizing s with
  | nil => exact .of_free (.refl _ s)
  | cons k ks ih =>
    obtain ⟨ids, free⟩ := moveTxns_frame b bad (getQueue s k) s
    have picked := CellsMoved.of_free free
    exact (picked.trans (.of_setQueue (ids.trans (picked.ids k).symm))).trans (ih _)

theorem moveHeld_onlyAreas (b : Nat) (bad : List Nat) (l : List HeldReq) (s : State) :
    OnlyAreas [.free] s (moveHeld b bad l s).2 := by
  induction l generalizing s with
  | nil => exact .refl _ s
  | cons h hs ih => exact (moveTxn_frame b bad h.txn s).2.trans (ih _)

theorem relocateCells_cellsMoved (b : Nat) (s : State) : CellsMoved s (relocateCells b s) := by
  unfold relocateCells
  extract_lets bad s1 r
  have copied : CellsMoved s s1 := ((CellsMoved.of_free (copyErrs_onlyAreas _ s)).trans (badCopies_cellsMoved _ _)).trans
    (moveQueues_cellsMoved _ _ _ _)
  have held : CellsMoved s1 r.2 := .of_free (moveHeld_onlyAreas _ _ _ _)
  exact (copied.trans held).trans (.of_areas ((setSched_onlyAreas _ _).mono (by decide)) rfl)

/-! ## The bank leaves (04 R125, R126; 15 R402) -/

theorem settleSlice_onlyAreas (b : Nat) (s : State) : OnlyAreas [.pwr] s (settleSlice b s) :=
  withPwr_onlyAreas (fun p => { p with
    down := if (List.range' (16 * bankDomain b) 16).all (fun x => s.gh.retired.contains x)
      then insNat p.down (ghDomain (bankDomain b)) else p.down.filter (fun x => x != ghDomain (bankDomain b)) }) s

/-- A unit that leaves is listed as retired; beyond that only the commands that wait for it complete. -/
theorem unitOut_onlyAreas (n : Nat) (s : State) :
    OnlyAreas completionAreas { s with flt := { s.flt with retired := insNat s.flt.retired n } } (unitOut n s) :=
  endWaits_onlyAreas _ _ _

/-- The state once bank `b` has left: out of the relocation queue, its line dropped, the pool smaller by its cells, and listed
as a retired unit. -/
def bankLeft (b : Nat) (rest : List Nat) (s : State) : State :=
  let v := dropLine 11 (unitCode 3 b) { s with gh := { s.gh with
    relocQ := rest, retired := insNat s.gh.retired b, free := s.gh.free - 6144 } }
  { v with flt := { v.flt with retired := insNat v.flt.retired (unitCode 3 b) } }

theorem relocationDone_nil (h : s.gh.relocQ = []) : relocationDone s = s := by
  unfold relocationDone
  rw [h]

/-- Beyond the bank that has left, only waiting commands complete and the power domain of its slice may go down. -/
theorem relocationDone_onlyAreas {b : Nat} {rest : List Nat} (h : s.gh.relocQ = b :: rest) :
    OnlyAreas (.pwr :: completionAreas) (bankLeft b rest (relocateCells b s)) (relocationDone s) := by
  unfold relocationDone
  rw [h]
  exact ((unitOut_onlyAreas _ _).mono (by decide)).trans ((settleSlice_onlyAreas _ _).mono (by decide))

theorem dropLine_not_mem (k n : Nat) (s : State) : (k, n) ∉ (dropLine k n s).flt.asserted := by
  simp [dropLine]

/-- The end of a relocation: the bank has left, and every queue, wait and other table is as it was. -/
theorem relocationDone_cons {b : Nat} {rest : List Nat} (h : s.gh.relocQ = b :: rest) :
    let t := relocationDone s
    t.gh.relocQ = rest ∧ t.gh.retired = insNat s.gh.retired b ∧ t.gh.free = s.gh.free - 6144 ∧
      (∀ k, (getQueue t k).map (·.id) = (getQueue s k).map (·.id)) ∧ t.gh.waits = s.gh.waits ∧
      (11, unitCode 3 b) ∉ t.flt.asserted ∧ t.flt.retired = insNat s.flt.retired (unitCode 3 b) ∧
      t.port = s.port ∧ t.win = s.win ∧ t.move = s.move := by
  intro t
  have moved := relocateCells_cellsMoved b s
  have left := relocationDone_onlyAreas h
  have hgh : t.gh = (bankLeft b rest (relocateCells b s)).gh := left .gh (by decide)
  have hflt : t.flt = (bankLeft b rest (relocateCells b s)).flt := left .flt (by decide)
  refine ⟨by rw [hgh]; rfl, ?_, ?_, fun k => ?_, by rw [hgh]; exact moved.waits, ?_, ?_,
    (left .port (by decide)).trans (moved.areas .port (by decide)),
    (left .win (by decide)).trans (moved.areas .win (by decide)),
    (left .move (by decide)).trans (moved.areas .move (by decide))⟩
  · rw [hgh, ← moved.retired]
    rfl
  · rw [hgh, ← moved.free]
    rfl
  · rw [getQueue, hgh]
    exact moved.ids k
  · rw [hflt]
    exact dropLine_not_mem 11 (unitCode 3 b) _
  · rw [hflt, ← moved.unitsOut]
    rfl

end Sys2Proof.Machine
end

section
/-! RT_WRITE, GH_THRESH_SET and the end of a relocation together (04 R114, R118, R125). -/

namespace Sys2Proof.Machine

/-- Settles O19: the commands by what their bodies stage and clamp, the relocation by what copying cells keeps. -/
theorem routingAndThresholdCommands : Obligations.RoutingAndThresholdCommands := by
  have count {c : SeqCmd} : fld c.desc.arg3 14 0 = c.desc.arg3.toNat % 2 ^ 15 := by simp [fld]
  refine ⟨fun s seq data c => ⟨fun hr => ?_, fun hr hcount hdid hidx => ?_, fun hr hcount hbus => ?_,
    fun hr hcount hup => ⟨?_, fun ws => ?_⟩⟩, fun s => ⟨fun h => ?_, fun b rest h => ?_⟩⟩
  · exact ⟨_, congrArg Host.Outcome.next (runOp_done hr rfl (threshBody_done c s)), threshClamps_eq_nil_iff c.desc⟩
  · obtain ⟨ks, hbody⟩ := rtBody_did (s := s) data (count.trans hcount) hdid hidx
    have hread := (readArg_of_readsUp (s := s) (rt_readsUp_of_count_zero (count.trans hcount)) data rtBody).trans hbody
    exact ⟨ks, _, congrArg Host.Outcome.next (runOp_done hr rfl hread), didLegal_fields _⟩
  · obtain ⟨ks, hbody⟩ := rtBody_bus (s := s) data (count.trans hcount) hbus
    have hread := (readArg_of_readsUp (s := s) (rt_readsUp_of_count_zero (count.trans hcount)) data rtBody).trans hbody
    exact ⟨ks, congrArg Host.Outcome.next (runOp_done hr rfl hread)⟩
  · have hbody := rtBody_unread (s := s) (fun h => hcount (count.symm.trans h))
    exact congrArg Host.Outcome.next (runOp_fail hr rfl ((readArg_of_readsUp hup none rtBody).trans hbody))
  · obtain ⟨r, ks, hbody⟩ := rtBody_read (s := s) (fun h => hcount (count.symm.trans h)) ws
    exact ⟨r, ks, congrArg Host.Outcome.next (runOp_done hr rfl ((readArg_of_readsUp hup (some ws) rtBody).trans hbody))⟩
  · exact congrArg Host.Outcome.next (relocationDone_nil h)
  · exact ⟨_, rfl, relocationDone_cons h⟩

end Sys2Proof.Machine
end

section
/-! Why a posted write may move more than its queue: mirror capture records it as it is enqueued (04 R130), the first
buffered record makes the ring's credit class request (04 R133), and the preemption check that follows revokes a mover's
grant at once (08 R235). -/

namespace Sys2Proof.Machine

/-- A job of a class that owns the movers: a copy with all of its lines still to come. -/
def copyJob : Job := { captureJob 7 with kind := .copy, length := 2 ^ 20 }

/-- A filter that selects every transaction (04 R129). -/
def filterAll : CapFilter := { CapFilter.reset with enable := true, ingress := 0xFF, egress := 0xFF, queueAny := true }

/-- A posted write of one cell to DID 1, which a device at port 0 sends. -/
def postedWrite : Request :=
  { ingress := 0, route := .range none 1, level := 1, vf := none, fetch := false, kind := .pcieWr, addr := 0, len := 64, tc := 0,
    tag := 0, poison := false, locked := false, remote := none, intx := none, unlock := false, data := [1], hdr := [] }

/-- Ports 0 and 4 are up, and DID 1 leads to port 4. Capture is on, for credit class 0, and its buffer is empty. Class 1 holds
all eight movers of group 0 and owes 2^18 bytes of credit there, which is the margin of class 0. -/
def capturePreempts : State := { State.reset with
  port := { State.reset.port with
    ports := [0, 4].map (fun p => (p, { Port.reset with linkUp := true, engRunning := true })) }
  gh := { State.reset.gh with route := GenTable.reset ⟨[(1, pack [(1, 0), (4, 2)])], []⟩ }
  cap := { State.reset.cap with enable := true, filters := [(0, filterAll)] }
  move := { State.reset.move with
    movers := (List.range 8).map (fun m => (m, { Mover.reset with state := .granted, owner := 1, job := some copyJob }))
    classes := [(1, { MoveClass.reset with credit := [(0, -(2 ^ 18))] })] } }

/-- No grant has been revoked before the write arrives. -/
theorem capturePreempts_preempts : capturePreempts.move.preempts = 0 := rfl

set_option maxRecDepth 4000 in
/-- The write is recorded, and a mover of class 1 goes over to the capture ring's class. -/
theorem hostRequest_capturePreempts_preempts : (hostRequest postedWrite quietHw capturePreempts).move.preempts = 1 := by decide

/-- The write meets what the statement asks of an admissible request that no hardware event meets. -/
theorem admissible_capturePreempts : Admissible capturePreempts postedWrite ∧ Quiet quietHw := by
  unfold Admissible Quiet
  decide

/-- Refutes O23: the frame of the posted write's clause, `t.move = s.move`, fails where mirror capture records the write
and the record's class preempts a mover (04 R130, R133; 08 R235). -/
theorem not_requestsAtTheirIngress : ¬ Obligations.RequestsAtTheirIngress := by
  intro h
  obtain ⟨-, -, posted, -⟩ := h capturePreempts postedWrite quietHw
  obtain ⟨hadm, hquiet⟩ := admissible_capturePreempts
  obtain ⟨t, x, hexec, -, -, -, -, -, -, -, -, -, -, -, -, hmove⟩ :=
    posted hadm hquiet (by decide) rfl rfl rfl (by decide) 1 rfl (by decide) (by decide) (by decide) (by decide) (by decide)
      (by decide) (by decide) rfl (by decide)
  have ht : hostRequest postedWrite quietHw capturePreempts = t := by injection hexec
  have hpre := hostRequest_capturePreempts_preempts
  rw [ht, hmove, capturePreempts_preempts] at hpre
  exact absurd hpre (by decide)

end Sys2Proof.Machine
end

section
/-! MAP_WRITE of one entry from a manager ring (05 R146, R147): the checks that it meets, in their order, and the set that it
leaves. -/

namespace Sys2Proof.Machine

variable {s : State} {c : SeqCmd}

/-! ## Staging sets (05 R145, R147) -/

theorem stageAll_single_ents (m : Tbl Region) (first page : Nat) (e : MapEnt) (x : StageSet) :
    (stageAll m first [(page, e)] x).ents =
      x.ents.filter (fun y => !(y.page == page && y.ent.huge == e.huge)) ++ [⟨page, e, false⟩] := rfl

theorem stageAll_single_length_le (m : Tbl Region) (first page : Nat) (e : MapEnt) (x : StageSet) :
    (stageAll m first [(page, e)] x).ents.length ≤ x.ents.length + 1 := by
  rw [stageAll_single_ents, List.length_append]
  exact Nat.add_le_add_right (List.length_filter_le _ _) 1

theorem stageAll_single_leaves_le (m : Tbl Region) (first page : Nat) (e : MapEnt) (x : StageSet) :
    (stageAll m first [(page, e)] x).leaves ≤ x.leaves + 1 := by
  simp only [stageAll]
  split <;> omega

/-- The manager's set of a host is kept while it holds an entry. -/
theorem putStage_manager {x : StageSet} (hx : x.ents ≠ []) (h : Nat) (s : State) :
    putStage h none x s = setHost h { getHost s h with stageMgr := some x } s := by
  simp [putStage, hx]

/-! ## The aperture (05 R138) -/

theorem inAperture_iff (t : WinTable) (page : Nat) :
    inAperture t page = true ↔ aperPage t ≤ page ∧ page < aperPage t + aperPages t := by
  simp [inAperture]

theorem inAperture_eq_false_iff (t : WinTable) (page : Nat) :
    inAperture t page = false ↔ page < aperPage t ∨ aperPage t + aperPages t ≤ page := by
  rw [← Bool.not_eq_true, inAperture_iff]
  omega

/-! ## The one entry (05 R146) -/

/-- The page written: that of a HUGE entry is rounded down to 2 MiB. -/
def mapWritePage (d : Desc) : Nat :=
  if d.arg1.getLsbD 1 then fld d.arg0 51 12 / 512 * 512 else fld d.arg0 51 12

/-- The pages that the entry covers. -/
def mapWriteSpan (d : Desc) : Nat := if d.arg1.getLsbD 1 then 512 else 1

/-- The entry of ARG1 as it is used. -/
def mapWriteEntry (d : Desc) : MapEnt := mapWordUsed (d.arg1.getLsbD 1) d.arg1

/-- The manager's set of a host, empty before the first entry. -/
def managerSet (s : State) (h : Nat) : StageSet := (getHost s h).stageMgr.getD ⟨[], 0⟩

/-- The manager's set after the entry is staged. -/
def mapWriteSet (s : State) (d : Desc) : StageSet :=
  stageAll (mapNow s (objIndex d.objectId)) (aperPage (winNow s (objIndex d.objectId))) [(mapWritePage d, mapWriteEntry d)]
    (managerSet s (objIndex d.objectId))

/-- The page lies in a MAP_LOCKED window (05 R155). -/
def mapWriteLocked (s : State) (d : Desc) : Bool :=
  mapLockedAt (winNow s (objIndex d.objectId)) (mapWritePage d) (mapWriteSpan d)

/-- The page lies in the host's aperture. -/
def mapWriteInside (s : State) (d : Desc) : Bool := inAperture (winNow s (objIndex d.objectId)) (mapWritePage d)

/-- The page is migrating. -/
def mapWriteMigrating (s : State) (d : Desc) : Bool :=
  migratingAt s (objIndex d.objectId) (mapWritePage d) (mapWriteSpan d)

/-- The leaf pool or the staging space lacks what the entry takes (05 R145, R147). -/
def mapWriteShort (s : State) (d : Desc) : Bool :=
  leafFree s < (mapWriteSet s d).leaves - (managerSet s (objIndex d.objectId)).leaves ||
    decide (stageFree s < (mapWriteSet s d).ents.length - (managerSet s (objIndex d.objectId)).ents.length)

/-- One entry takes no more than one staging entry and one leaf. -/
theorem mapWriteShort_eq_false (d : Desc) (hleaf : 1 ≤ leafFree s) (hfree : 1 ≤ stageFree s) : mapWriteShort s d = false := by
  have hleaves : (mapWriteSet s d).leaves ≤ (managerSet s (objIndex d.objectId)).leaves + 1 :=
    stageAll_single_leaves_le ..
  have hents : (mapWriteSet s d).ents.length ≤ (managerSet s (objIndex d.objectId)).ents.length + 1 :=
    stageAll_single_length_le ..
  simp only [mapWriteShort, Bool.or_eq_false_iff, decide_eq_false_iff_not]
  omega

theorem mapWriteSet_ents_ne_nil (s : State) (d : Desc) : (mapWriteSet s d).ents ≠ [] := by
  rw [mapWriteSet, stageAll_single_ents]
  exact List.append_ne_nil_of_right_ne_nil _ (List.cons_ne_nil _ _)

/-! ## MAP_WRITE (05 R146) -/

/-- The data of a block could not be read. -/
theorem mapBody_unread (hcount : fld c.desc.arg3 15 0 ≠ 0) : mapBody none c s = .fail DESC_FAULT s :=
  if_neg hcount

/-- Without data MAP_WRITE reads nothing. -/
theorem readArg_map_of_count_zero (hcount : fld c.desc.arg3 15 0 = 0) (data : ReadData) :
    readArg false mapRange data mapBody c s = mapBody data c s :=
  readArg_of_readsUp (.inl (by simp [mapRange, hcount])) data mapBody

section
variable (hcount : fld c.desc.arg3 15 0 = 0) (hmgr : issuerVf c = none) (data : ReadData)
include hcount hmgr

/-- With COUNT 0 the entry in ARG1 meets the checks in the order of 02 R61 and is staged. -/
theorem mapBody_entry : ∃ ks, mapBody data c s =
    if mapWriteLocked s c.desc then .fail LOCKED s
    else if !(mapWriteInside s c.desc) || mapWriteMigrating s c.desc then .fail PRECONDITION s
    else if mapWriteShort s c.desc then .fail NO_RESOURCE s
    else .done 0 ks (putStage (objIndex c.desc.objectId) none (mapWriteSet s c.desc) s) := by
  unfold mapBody mapWriteWith
  rw [if_pos hcount, hmgr]
  simp only [List.range_one, List.map_cons, List.map_nil, mapPages, List.any_cons, List.any_nil, Bool.or_false, tenantMaps,
    Bool.not_true, Bool.false_eq_true, if_false]
  exact ⟨_, rfl⟩

theorem mapBody_locked (hlock : mapWriteLocked s c.desc = true) : mapBody data c s = .fail LOCKED s := by
  obtain ⟨ks, hbody⟩ := mapBody_entry (s := s) hcount hmgr data
  rw [hbody, if_pos hlock]

theorem mapBody_outside (hlock : mapWriteLocked s c.desc = false) (hout : mapWriteInside s c.desc = false) :
    mapBody data c s = .fail PRECONDITION s := by
  obtain ⟨ks, hbody⟩ := mapBody_entry (s := s) hcount hmgr data
  rw [hbody, if_neg (by simp [hlock]), if_pos (by simp [hout])]

theorem mapBody_staged (hlock : mapWriteLocked s c.desc = false) (hin : mapWriteInside s c.desc = true)
    (hmig : mapWriteMigrating s c.desc = false) (hleaf : 1 ≤ leafFree s) (hfree : 1 ≤ stageFree s) :
    ∃ ks, mapBody data c s = .done 0 ks (setHost (objIndex c.desc.objectId)
      { getHost s (objIndex c.desc.objectId) with stageMgr := some (mapWriteSet s c.desc) } s) := by
  obtain ⟨ks, hbody⟩ := mapBody_entry (s := s) hcount hmgr data
  refine ⟨ks, ?_⟩
  rw [hbody, if_neg (by simp [hlock]), if_neg (by simp [hin, hmig]),
    if_neg (by simp [mapWriteShort_eq_false c.desc hleaf hfree]), putStage_manager (mapWriteSet_ents_ne_nil s c.desc)]

end

end Sys2Proof.Machine
end

section
/-! MAP_WRITE, TBL_DRAIN and WIN_EPOCH_FENCE together (04 R123; 05 R146, R147, R154). -/

namespace Sys2Proof.Machine

variable {s : State} {c : SeqCmd}

/-! ## TBL_DRAIN (04 R123) -/

/-- The generation that TBL_DRAIN names is older than the table's current one (04 R120). -/
def drainsOlder (s : State) (d : Desc) : Prop :=
  older (tableCurrent s (objClass d.objectId) (objIndex d.objectId)) (fld d.arg0 31 0) = true

theorem tableCurrent_eq (s : State) (cls idx : Nat) : tableCurrent s cls idx =
    if cls = 1 then s.gh.route.current
    else if cls = 2 then (getHost s idx).win.current else (getHost s idx).map.current := by
  unfold tableCurrent
  split
  · rfl
  · rfl
  next h1 h2 => rw [if_neg h1, if_neg h2]

theorem drainsOlder_iff (s : State) (d : Desc) : drainsOlder s d ↔
    let now := if objClass d.objectId = 1 then s.gh.route.current
      else if objClass d.objectId = 2 then (getHost s (objIndex d.objectId)).win.current
      else (getHost s (objIndex d.objectId)).map.current
    1 ≤ (now + 2 ^ 32 - d.arg0.toNat % 2 ^ 32) % 2 ^ 32 ∧ (now + 2 ^ 32 - d.arg0.toNat % 2 ^ 32) % 2 ^ 32 ≤ 2 ^ 31 := by
  have field : fld d.arg0 31 0 = d.arg0.toNat % 2 ^ 32 := by simp [fld]
  rw [drainsOlder, field, tableCurrent_eq, older, Bool.and_eq_true, decide_eq_true_eq, decide_eq_true_eq]

theorem drainBody_older (h : drainsOlder s c.desc) : drainBody c s = .wait [] s := if_pos h

theorem drainBody_not_older (h : ¬drainsOlder s c.desc) : drainBody c s = .fail PRECONDITION s := if_neg h

/-! ## The obligation -/

/-- Settles O22: one map entry by the checks of its body in their order, the drain and the fence by what their checks
answer. -/
theorem mapWriteStagesEntries : Obligations.MapWriteStagesEntries := by
  refine ⟨fun s seq c hr hmgr => ⟨fun hcount data => ⟨fun hlock => ?_, fun hlock hout => ?_,
    fun hlock hlo hhi hmig hleaf hfree => ?_⟩, fun hcount hup => ?_⟩, fun s seq c => ⟨fun hr => ?_, fun hr hold => ?_,
    fun hr hold => ?_⟩⟩
  · have hbody := (readArg_map_of_count_zero hcount data).trans (mapBody_locked hcount hmgr data hlock)
    exact congrArg Host.Outcome.next (runOp_fail hr rfl hbody)
  · have hbody := (readArg_map_of_count_zero hcount data).trans
      (mapBody_outside hcount hmgr data hlock ((inAperture_eq_false_iff _ _).2 hout))
    exact congrArg Host.Outcome.next (runOp_fail hr rfl hbody)
  · obtain ⟨ks, hstaged⟩ := mapBody_staged hcount hmgr data hlock ((inAperture_iff _ _).2 ⟨hlo, hhi⟩) hmig hleaf hfree
    have hbody := (readArg_map_of_count_zero hcount data).trans hstaged
    exact ⟨ks, _, congrArg Host.Outcome.next (runOp_done hr rfl hbody), stageAll_single_ents ..⟩
  · have hbody := (readArg_of_readsUp hup none mapBody).trans (mapBody_unread hcount)
    exact congrArg Host.Outcome.next (runOp_fail hr rfl hbody)
  · exact congrArg (Host.Outcome.next ∘ wakeTables) (runOp_wait hr rfl rfl)
  · have hbody := drainBody_older ((drainsOlder_iff s c.desc).2 hold)
    exact congrArg (Host.Outcome.next ∘ wakeTables) (runOp_wait hr rfl hbody)
  · have hbody := drainBody_not_older (mt (drainsOlder_iff s c.desc).1 hold)
    exact congrArg (Host.Outcome.next ∘ wakeTables) (runOp_fail hr rfl hbody)

end Sys2Proof.Machine
end
